-- ==== Sys2Proof/Word.lean ====
section
/-! DEFINITION. The number types of the Cepilon 7410's fields (00_scope.md, R1): bit vectors where the manual treats a
value as bits or bounds it by a width, `Fin` for the fixed numbers of lanes, contexts, slots and routes. -/

namespace Sys2Proof

/-- One byte on the wire. -/
abbrev Byte := BitVec 8

/-- A 16-byte key or cipher block (R102). -/
abbrev Block := BitVec 128

/-- An 8-byte string: a challenge, a tag response or a MAC. -/
abbrev Mac := BitVec 64

/-- A 48-bit tag ID; the module gives it no inner structure (00_scope.md, Conventions). -/
abbrev TagId := BitVec 48

/-- A key generation, 1 to 4095, carried in two bytes. -/
abbrev Gen := BitVec 16

/-- Seconds of the wall time, 0 to 4,294,967,295. -/
abbrev Seconds := BitVec 32

/-- A tag counter or record counter; its arithmetic is modulo 65536 (R1). -/
abbrev Counter := BitVec 16

/-- A lane, 0 to 3. -/
abbrev LaneNo := Fin 4

/-- A context of one lane, 0 to 2 (R2). -/
abbrev CtxNo := Fin 3

/-- A key slot, 0 to 23 (R61). -/
abbrev SlotNo := Fin 24

/-- A route entry, 0 to 31 (R89). -/
abbrev RouteNo := Fin 32

end Sys2Proof
end

