-- ==== Sys2Proof/Config.lean ====
section
/-! DEFINITION. What one module fixes and what the manual leaves without a value: opaque constants, so that a claim holds
whatever they are. -/

namespace Sys2Proof.Config

/-- The block function (R102): for each 16-byte key a permutation of the 16-byte blocks, with its inverse. The manual
does not give the permutation, so it is free; that it is one is in its type. Log entry 1. -/
opaque blockFunction : Block → Equiv.Perm Block

/-- The device transport key written at manufacture (R109). Log entry 2. -/
opaque transportKey : Block

/-- The device challenge key written at manufacture (R109). Log entry 2. -/
opaque challengeKey : Block

/-- What the trim set holds after the backup domain has lost its storage, until the configuration image gives it back
(R147, R149): a value for each loss. Log entry 3. -/
opaque lostTrim : Nat → BitVec 8

/-- What the monotonic tick count becomes after 2^48 − 1, which R139 says no service life reaches. Log entry 4. -/
opaque tickAfterLast : BitVec 48

/-- The boot count that a challenge would use while the boot count in use is absent; R110 says it is not used then.
Log entry 5. -/
opaque absentBootCount : BitVec 32

end Sys2Proof.Config
end

