-- ==== Sys2Proof/Syntax.lean ====
section
/-! DEFINITION. The commands of the module: one constructor of `Instr` for each row of spec/opcode_table.json, with what
the outside supplies when the step happens. A request row carries the port it arrives on, its request tag and its body
bytes, so that a body of a wrong length is a form of the row itself (R197). -/

namespace Sys2Proof

/-- One of the five serial ports (R183). -/
inductive Port where
  | lane (l : LaneNo)
  | station
  deriving DecidableEq, Repr

/-- One received character (R183, R184): a byte, or a character whose stop bit is missing. -/
inductive LineChar where
  | byte (b : Byte)
  | error
  deriving DecidableEq, Repr

/-- How a store action whose second attempt failed its verify left the record (R174). -/
inductive AttemptLeft where
  /-- with its former content -/
  | former
  /-- with the new content, unreadable by the verify -/
  | new
  /-- failing its check -/
  | failing
  deriving DecidableEq, Repr

/-- The point a store action had reached when main power failed (R176). -/
inductive ActionPoint where
  | beforeChange
  | changing
  | changed
  deriving DecidableEq, Repr

/-- The commands. Each constructor's docstring names its row of spec/opcode_table.json. -/
inductive Instr where
  /-- OPEN (R14). -/
  | openReq (lane : LaneNo) (tag : Byte) (body : List Byte)
  /-- PROVE (R16). -/
  | proveReq (lane : LaneNo) (tag : Byte) (body : List Byte)
  /-- SEAL (R19). -/
  | sealReq (lane : LaneNo) (tag : Byte) (body : List Byte)
  /-- DROP (R22). -/
  | dropReq (lane : LaneNo) (tag : Byte) (body : List Byte)
  /-- POLL (R27). -/
  | pollReq (lane : LaneNo) (tag : Byte) (body : List Byte)
  /-- STATUS (R159). -/
  | statusReq (tag : Byte) (body : List Byte)
  /-- SET_LANE (R163). -/
  | setLane (tag : Byte) (body : List Byte)
  /-- SET_CONFIG (R165). -/
  | setConfig (tag : Byte) (body : List Byte)
  /-- SAVE_CONFIG (R166). -/
  | saveConfig (tag : Byte) (body : List Byte)
  /-- RESEED (R167). -/
  | reseed (tag : Byte) (body : List Byte)
  /-- RESET (R169). -/
  | resetReq (tag : Byte) (body : List Byte)
  /-- LOAD_KEY (R67). -/
  | loadKey (tag : Byte) (body : List Byte)
  /-- WITHDRAW_KEY (R84). -/
  | withdrawKey (tag : Byte) (body : List Byte)
  /-- LIST_SLOT (R88). -/
  | listSlot (tag : Byte) (body : List Byte)
  /-- SET_ROUTE (R98). -/
  | setRoute (tag : Byte) (body : List Byte)
  /-- CLEAR_ROUTE (R99). -/
  | clearRoute (tag : Byte) (body : List Byte)
  /-- QUERY_PASSAGE (R58). -/
  | queryPassage (tag : Byte) (body : List Byte)
  /-- SET_TIME (R144). -/
  | setTime (tag : Byte) (body : List Byte)
  /-- SET_TRIM (R142). -/
  | setTrim (tag : Byte) (body : List Byte)
  /-- READ_TIME (R146). -/
  | readTime (tag : Byte) (body : List Byte)
  /-- MALFORMED_FRAME (R186): a valid frame's kind, request tag, length byte and body. -/
  | malformedFrame (port : Port) (kind tag length : Byte) (body : List Byte)
  /-- FRAME_DISCARDED (R185): the characters received on the port, up to the one that discards the frame. -/
  | frameDiscarded (port : Port) (chars : List LineChar)
  /-- OPEN_COMPLETION (R15). -/
  | openCompletion
  /-- PROVE_COMPLETION (R17). -/
  | proveCompletion
  /-- SEAL_COMPLETION (R21). -/
  | sealCompletion
  /-- LOAD_COMPLETION (R68). -/
  | loadCompletion
  /-- FRACTION_TICK (R138). -/
  | fractionTick
  /-- SECOND_EVENT (R72). -/
  | secondEvent
  /-- PERIOD_START (R142). -/
  | periodStart
  /-- CONTEXT_EXPIRY (R24). -/
  | contextExpiry (lane : LaneNo) (ctx : CtxNo)
  /-- ENTRY_EXPIRY (R54). -/
  | entryExpiry (tagId : TagId)
  /-- LINK_EXPIRY (R191). -/
  | linkExpiry (lane : LaneNo)
  /-- OSCILLATOR_STOP (R148). -/
  | oscillatorStop
  /-- OSCILLATOR_RESTART (R148). -/
  | oscillatorRestart
  /-- BACKUP_LOW_CHANGE (R150): whether the backup supply now stands below its warning threshold. -/
  | backupLowChange (low : Bool)
  /-- MAIN_POWER_FAIL (R151): the point a store action in progress had reached (R176). -/
  | mainPowerFail (point : ActionPoint)
  /-- POWER_ON (R177): BACKUP_LOW as measured at the power-on (R150). -/
  | powerOn (backupLow : Bool)
  /-- START_UP (R178). -/
  | startUp
  /-- STORE_ACTION_COMPLETE (R175). -/
  | storeActionComplete
  /-- STORE_VERIFY_RETRY (R174). -/
  | storeVerifyRetry
  /-- STORE_ACTION_FAILED (R175): how the failed attempt left the record (R174). -/
  | storeActionFailed (left : AttemptLeft)
  /-- ANSWER_TRANSMITTED (R187). -/
  | answerTransmitted (port : Port)
  /-- ABORT_SEQUENCE (R184). -/
  | abortSequence (port : Port)
  /-- OSCILLATOR_STOP_WHILE_MAIN_POWER_OFF (R147): whether the backup domain's storage was lost as well. -/
  | oscillatorStopWhileOff (storageLost : Bool)
  deriving DecidableEq, Repr

end Sys2Proof
end

