-- ==== Sys2Proof/Machine/Bytes.lean ====
section
/-! DEFINITION. Numbers and byte strings: every field of more than one byte is sent most significant byte first (R196). -/

namespace Sys2Proof.Machine

/-- The `n` low bytes of a number, most significant first. -/
def bytesOf : Nat → Nat → List Byte
  | 0, _ => []
  | n + 1, v => BitVec.ofNat 8 (v / 256 ^ n) :: bytesOf n v

/-- The number a byte string spells, most significant byte first. -/
def numberOf (bs : List Byte) : Nat := bs.foldl (fun a b => a * 256 + b.toNat) 0

/-- The field of `n` bytes at offset `off` of a body, as a number of `w` bits. -/
def fieldAt (w : Nat) (bs : List Byte) (off n : Nat) : BitVec w := BitVec.ofNat w (numberOf ((bs.drop off).take n))

/-- The byte at an offset of a body. -/
def byteAt (bs : List Byte) (off : Nat) : Byte := bs.getD off 0

/-- A truth value as bit `i` of a byte. -/
def flagBit (i : Nat) (b : Bool) : Byte := if b then 1 <<< i else 0

/-- A list cut into blocks of 16 bytes, `n` of them. -/
def blocksOf : Nat → List Byte → List Block
  | 0, _ => []
  | n + 1, bs => BitVec.ofNat 128 (numberOf (bs.take 16)) :: blocksOf n (bs.drop 16)

end Sys2Proof.Machine
end

