-- ==== Sys2Proof/Machine/State.lean ====
section
/-! DEFINITION. The state of the module as plain data: every table, queue, register, counter, flag, mode and alert output the
manual gives it, in the manual's own blocks (00_scope.md section 1.3), the queue of waiting commands, and the state
right after reset. -/

namespace Sys2Proof.Machine

/-- Why the machine stops. No command of this block stops it: the type has no constructor, and every command answers a next
state. -/
inductive Fault where
  deriving DecidableEq, Repr

/-- Why a command has no meaning here. -/
inductive Refusal where
  /-- Raised by an arm of `exec` for a row that has no meaning yet (safe). No arm of this package raises it. -/
  | notModelled (mnemonic : String)
  deriving DecidableEq, Repr

/-! ### Codes and small enumerations -/

/-- The service state of the module (R157). -/
inductive Service where
  | starting
  | seedWait
  | serving
  deriving DecidableEq, Repr

/-- The outcome codes (R200). -/
inductive Code where
  | ok | busy | notReady | malformed | seedRequired | laneOff | noContext | stale | inProgress | wrongState | expired
  | denied | unrouted | oldGeneration | unknownGeneration | generationPending | generationExpired | keyWithdrawn
  | authFailed | noSigningKey | dropped
  | slotRange | slotOccupied | slotEmpty | slotBusy | duplicateGeneration | notHome | windowPast | checkFailed
  | storeFailed | routeRange | valueRange
  deriving DecidableEq, Repr

/-- The verdicts of a classification (R38). -/
inductive Verdict where
  | new | suspect | duplicate | reread | rereadUnwritten | suspectHeld
  deriving DecidableEq, Repr

/-- The two verdicts that make a claim and are kept in a context (R2, R17). -/
inductive ClaimVerdict where
  | new | suspect
  deriving DecidableEq, Repr

/-- The end causes of an occupancy (R5). -/
inductive EndCause where
  | sealed | verdict | dropped | expired | revoked | failed | laneReset
  deriving DecidableEq, Repr

/-- The causes a pending end may hold (R2, R6). -/
inductive PendingEnd where
  | dropped | expired | revoked | laneReset
  deriving DecidableEq, Repr

/-- The causes of a CONTEXT_LOST notice (R26). -/
inductive LostCause where
  | expired | revoked
  deriving DecidableEq, Repr

/-- The lane port rates in baud (R183). -/
inductive Rate where
  | r115200 | r230400 | r460800 | r921600
  deriving DecidableEq, Repr

/-- The arbiter modes (R117). -/
inductive ArbMode where
  | rotating | fixedUp | fixedDown
  deriving DecidableEq, Repr

/-- The lane state reported by POLL and STATUS (R27, R160). -/
inductive LaneState where
  | up | down | off
  deriving DecidableEq, Repr

/-- The roles of a key (R61). -/
inductive Role where
  | tagMaster | record
  deriving DecidableEq, Repr

/-- The states of a slot as reported (R62). -/
inductive SlotState where
  | empty | loading | staged | active | expired | withdrawn | erasing
  deriving DecidableEq, Repr

/-! ### Contexts, lane queues and notices (Chapter 1) -/

/-- What an occupancy holds from the OPEN take to its end (R2): the tag fields presented, the route values captured
(R95) and the deadline tick. -/
structure Occupancy where
  tagId : TagId
  generation : Gen
  counter : Counter
  nonce : BitVec 32
  issuer : Byte
  watch : Bool
  strict : Bool
  deadline : Nat
  deriving DecidableEq, Repr

/-- What OPEN completion adds to an occupancy (R2, R15). -/
structure TagProof where
  tagKey : Block
  challenge : Mac
  deriving DecidableEq, Repr

/-- The state of a context with the fields R2 says are present in it. -/
inductive CtxBody where
  | free
  | opening (o : Occupancy) (master : SlotNo)
  | opened (o : Occupancy) (master : SlotNo) (p : TagProof)
  | proving (o : Occupancy) (master : SlotNo) (p : TagProof)
  | proved (o : Occupancy) (p : TagProof) (v : ClaimVerdict)
  | sealing (o : Occupancy) (p : TagProof) (v : ClaimVerdict)
  deriving DecidableEq, Repr

/-- A context record (R2). Its lane and number are its place in the lane. -/
structure Context where
  ticket : BitVec 8
  body : CtxBody
  inFlight : Bool
  pendingEnd : Option PendingEnd
  endCause : EndCause
  deriving DecidableEq, Repr

/-- A context after power-on and after warm reset (R7). -/
def Context.fresh : Context :=
  { ticket := 0, body := .free, inFlight := false, pendingEnd := none, endCause := .laneReset }

/-- The request of a lane queue entry with its own fields (R8). -/
inductive LaneReq where
  | openReq
  | proveReq (response : Mac)
  | sealReq (vehicleClass : BitVec 4) (readerRef : BitVec 16)
  deriving DecidableEq, Repr

/-- The phase of a lane queue entry (R8). -/
inductive EntryPhase where
  | waiting | running | answered
  deriving DecidableEq, Repr

/-- An entry of a lane request queue (R8). `serial` is the model's own name for the entry, by which its answer finds it
when transmitted (log entry 6); `discard` is the mark of R32. -/
structure Entry where
  serial : Nat
  req : LaneReq
  tag : Byte
  ctx : CtxNo
  phase : EntryPhase
  discard : Bool
  deriving DecidableEq, Repr

/-- A CONTEXT_LOST item (R26). -/
structure Lost where
  ticket : BitVec 8
  cause : LostCause
  deriving DecidableEq, Repr

/-- The notice set of a lane (R26): at most one CONTEXT_LOST for each context, and two present-or-absent items. -/
structure Notices where
  lost : Vector (Option Lost) 3
  serviceChanged : Bool
  signingChanged : Bool
  deriving DecidableEq, Repr

/-- The empty notice set. -/
def Notices.empty : Notices :=
  { lost := Vector.replicate 3 none, serviceChanged := false, signingChanged := false }

/-! ### Key slots and routes (Chapters 3 and 4) -/

/-- The fields of a slot that is not EMPTY (R61). -/
structure KeyData where
  issuer : Byte
  role : Role
  generation : Gen
  activation : Seconds
  expiry : Option Seconds
  key : Block
  check : BitVec 32
  deriving DecidableEq, Repr

/-- The stored state of a LOADING slot (R69). -/
inductive LoadState where
  | staged | active
  deriving DecidableEq, Repr

/-- The states of an occupied slot (R62); LOADING carries its stored state. -/
inductive HeldState where
  | loading (stored : LoadState)
  | staged | active | expired | withdrawn | erasing
  deriving DecidableEq, Repr

/-- The state of a slot with the fields present in it (R61). -/
inductive SlotBody where
  | empty
  | held (st : HeldState) (d : KeyData)
  deriving DecidableEq, Repr

/-- A slot record (R61): its state and fields, and its reference count (R83). -/
structure Slot where
  body : SlotBody
  refs : Nat
  deriving DecidableEq, Repr

/-- An EMPTY slot. -/
def Slot.fresh : Slot := { body := .empty, refs := 0 }

/-- A route entry (R89). -/
structure Route where
  enabled : Bool
  compare : TagId
  mask : TagId
  issuer : Byte
  minGen : Gen
  deny : Bool
  watch : Bool
  strict : Bool
  deriving DecidableEq, Repr

/-- The cleared form of a route entry (R89). -/
def Route.cleared : Route :=
  { enabled := false, compare := 0, mask := 0, issuer := 0, minGen := 1, deny := false, watch := false, strict := false }

/-! ### The passage table (Chapter 2) -/

/-- The five fields of a SEALED entry that a previous part keeps (R35). -/
structure SealedPart where
  counter : Counter
  sealTime : Seconds
  expiry : Nat
  lane : LaneNo
  number : Nat
  deriving DecidableEq, Repr

/-- The state of a passage entry with the fields present in it (R35). -/
inductive PassageBody where
  | claimed (ownerCtx : CtxNo) (previous : Option SealedPart)
  | sealed (sealTime : Seconds) (expiry : Nat) (number : Nat)
  deriving DecidableEq, Repr

/-- A passage entry (R35). -/
structure Passage where
  tagId : TagId
  lane : LaneNo
  counter : Counter
  body : PassageBody
  deriving DecidableEq, Repr

/-- The passage table: its entries, kept by rising tag ID so that equal tables are equal data (the table has no order
visible at any port, R36), and its seal count (R52). -/
structure Table where
  entries : List Passage
  sealCount : Nat
  deriving DecidableEq, Repr

/-! ### The working configuration (R153) -/

/-- The settings of one lane (R153). -/
structure LaneSettings where
  enabled : Bool
  dwell : BitVec 16
  linkTimeout : BitVec 16
  deriving DecidableEq, Repr

/-- The items of the working configuration that SET_CONFIG carries (R164). The alert enable mask has one bit for each of the
21 latched flags, at the positions of R205. -/
structure ConfigItems where
  gantry : BitVec 16
  home : Byte
  window : BitVec 16
  holdover : BitVec 16
  mode : ArbMode
  mask : BitVec 21
  rate : Rate
  deriving DecidableEq, Repr

/-- The working configuration (R153). -/
structure WorkingConfig where
  items : ConfigItems
  lanes : Vector LaneSettings 4
  deriving DecidableEq, Repr

/-- The defaults of R178. -/
def WorkingConfig.defaults : WorkingConfig :=
  { items :=
      { gantry := 0, home := 0, window := 60, holdover := 30, mode := .rotating, mask := BitVec.allOnes 21,
        rate := .r460800 }
    lanes := Vector.replicate 4 { enabled := true, dwell := 120, linkTimeout := 500 } }

/-! ### Answers and ports (Chapters 10 and 11) -/

/-- The content of a transit record (R124). -/
structure TransitRecord where
  gantry : BitVec 16
  lane : LaneNo
  seconds : Seconds
  fraction : BitVec 10
  unsynchronised : Bool
  tagId : TagId
  issuer : Byte
  counter : Counter
  vehicleClass : BitVec 4
  generation : Gen
  holdover : Bool
  suspect : Bool
  watch : Bool
  readerRef : BitVec 16
  deriving DecidableEq, Repr

/-- The item a POLL returns (R27). -/
inductive Notice where
  | none
  | contextLost (ctx : CtxNo) (ticket : BitVec 8) (cause : LostCause)
  | serviceChanged
  | signingChanged
  deriving DecidableEq, Repr

/-- What a STATUS answer carries (R159, R160). -/
structure StatusReport where
  flags : BitVec 21
  service : Service
  timeValid : Bool
  backupLow : Bool
  storeBusy : Bool
  lanes : Vector LaneState 4
  entries : Nat
  boot : Option (BitVec 32)
  deriving DecidableEq, Repr

/-- The fields of an occupied slot that LIST_SLOT reports: all but the key (R88). -/
structure KeyReport where
  issuer : Byte
  role : Role
  generation : Gen
  activation : Seconds
  expiry : Option Seconds
  check : BitVec 32
  deriving DecidableEq, Repr

/-- What a POLL answer carries (R27). -/
structure PollReport where
  notice : Notice
  left : Nat
  service : Service
  lane : LaneState
  timeValid : Bool
  signing : Option Gen
  deriving DecidableEq, Repr

/-- What a QUERY_PASSAGE answer carries for an entry found (R59). -/
structure PassageReport where
  claimed : Bool
  lane : LaneNo
  counter : Counter
  sealTime : Option Seconds
  secondsLeft : Option Nat
  previous : Option Counter
  deriving DecidableEq, Repr

/-- What a READ_TIME answer carries (R146). -/
structure TimeReport where
  seconds : Seconds
  fraction : BitVec 10
  timeValid : Bool
  trim : BitVec 8
  backupLow : Bool
  lastLoss : Option Seconds
  deriving DecidableEq, Repr

/-- The values of an answer, fixed when it is produced (R188). `code` is an answer of an outcome code alone (R197); every
other constructor has outcome OK. -/
inductive Reply where
  | code (c : Code)
  /-- OPEN -/
  | opened (ctx : CtxNo) (ticket : BitVec 8) (challenge : Mac)
  /-- PROVE -/
  | verdict (v : Verdict) (watch suspect : Bool) (owner : Option LaneNo) (sealTime : Option Seconds)
  /-- SEAL -/
  | record (r : TransitRecord) (mac : Mac)
  /-- POLL -/
  | poll (p : PollReport)
  /-- STATUS -/
  | status (r : StatusReport)
  /-- SET_LANE -/
  | lane (clamped : Bool) (l : LaneNo) (set : LaneSettings)
  /-- SET_CONFIG -/
  | config (clamped : Bool) (items : ConfigItems)
  /-- LOAD_KEY -/
  | loaded (st : SlotState)
  /-- WITHDRAW_KEY -/
  | withdrawn (st : SlotState) (refs : Nat)
  /-- LIST_SLOT -/
  | slot (st : SlotState) (d : Option KeyReport) (refs : Nat)
  /-- SET_ROUTE -/
  | route (clamped : Bool) (index : RouteNo) (r : Route)
  /-- CLEAR_ROUTE: the index of R99, which the body does not send, and the enabled-before mark (log entry 28) -/
  | cleared (index : RouteNo) (enabledBefore : Bool)
  /-- QUERY_PASSAGE -/
  | passage (found : Option PassageReport)
  /-- SET_TIME -/
  | timeSet (seconds : Seconds) (fraction : BitVec 10) (validBefore : Bool)
  /-- SET_TRIM -/
  | trim (t : BitVec 8)
  /-- READ_TIME -/
  | time (t : TimeReport)
  deriving DecidableEq, Repr

/-- An answer in an answer queue: the kind and request tag of its request, its values, and for the answer of a lane queue
entry that entry's serial. -/
structure Answer where
  kind : Byte
  tag : Byte
  reply : Reply
  serial : Option Nat
  deriving DecidableEq, Repr

/-- The receiver of a port with its receive assembly buffer (R184); `escape` says that 7D hex was the last byte read. -/
inductive Rx where
  | hunt
  | assemble (buffer : List Byte) (escape : Bool)
  deriving DecidableEq, Repr

/-- The transmitter of a port: at rest, sending the line bytes of the answer at the head of the queue at a rate (R188,
R183), or stopped after an answer was cut off (R189), with the line bytes sent in place of the answer's rest, at the rate
the answer ran at. A frame that begins afterwards follows those bytes on the line (log entry 19). -/
inductive Tx where
  | idle
  | sending (line : List Byte) (rate : Rate)
  | cutOff (line : List Byte) (rate : Rate)
  deriving DecidableEq, Repr

/-- A port interface: receiver, answer queue in the order of production (R187), transmitter. -/
structure PortState where
  rx : Rx
  answers : List Answer
  tx : Tx
  deriving DecidableEq, Repr

/-- A port after power-on (R184, R187). -/
def PortState.fresh : PortState := { rx := .hunt, answers := [], tx := .idle }

/-- One lane: its contexts, request queue, notice set, port, link (R190) and alert output (R28, `true` for driven low).
`lastFrame` is the tick of the last valid frame since the start-up (R194); `nextSerial` is the model's own. -/
structure Lane where
  contexts : Vector Context 3
  queue : List Entry
  nextSerial : Nat
  notices : Notices
  port : PortState
  linkUp : Bool
  linkDeadline : Option Nat
  lastFrame : Option Nat
  alert : Bool
  deriving DecidableEq, Repr

/-- A lane at the beginning of a start-up after power-on (R7, R190). -/
def Lane.fresh : Lane :=
  { contexts := Vector.replicate 3 Context.fresh, queue := [], nextSerial := 0, notices := Notices.empty,
    port := PortState.fresh, linkUp := true, linkDeadline := none, lastFrame := none, alert := false }

/-! ### The key function unit (Chapter 5) -/

/-- A LOAD_KEY request that has passed the length and field checks (R67). -/
structure LoadReq where
  slot : SlotNo
  issuer : Byte
  role : Role
  generation : Gen
  activation : Seconds
  expiry : Option Seconds
  wrapped : Block
  check : BitVec 32
  deriving DecidableEq, Repr

/-- The job in flight with its origin, the key read at its start and the inputs taken then (R114, R119). -/
inductive Job where
  | openJob (l : LaneNo) (c : CtxNo) (masterKey : Block) (tagId : TagId) (generation : Gen) (issuer : Byte)
  | proveJob (l : LaneNo) (c : CtxNo) (tagKey : Block) (challenge : Mac) (nonce : BitVec 32) (counter : Counter)
      (tagId : TagId) (response : Mac)
  | sealJob (l : LaneNo) (c : CtxNo) (slot : SlotNo) (key : Block) (generation : Gen) (holdover : Bool)
      (vehicleClass : BitVec 4) (readerRef : BitVec 16)
  | loadJob (req : LoadReq) (transportKey : Block)
  deriving DecidableEq, Repr

/-- The key function unit (R109 to R117). -/
structure Kfu where
  job : Option Job
  stepPointer : LaneNo
  admitPointer : LaneNo
  admitHold : Bool
  boot : Option (BitVec 32)
  sequence : BitVec 32
  transportKey : Block
  challengeKey : Block
  deriving DecidableEq, Repr

/-- The unit after a start-up has begun, with the device keys given (R123). -/
def Kfu.fresh (transportKey challengeKey : Block) : Kfu :=
  { job := none, stepPointer := 0, admitPointer := 0, admitHold := false, boot := none, sequence := 0,
    transportKey := transportKey, challengeKey := challengeKey }

/-! ### The station controller (Chapter 8) -/

/-- The request kinds that enter the station request queue: all but STATUS (R155). -/
inductive StationKind where
  | setLane | setConfig | saveConfig | reseed | reset | loadKey | withdrawKey | listSlot | setRoute | clearRoute
  | queryPassage | setTime | setTrim | readTime
  deriving DecidableEq, Repr

/-- An entry of the station request queue (R154). `answered` marks a RESET whose answer has been produced and which stays
EXECUTING until that answer is transmitted (R169). -/
structure StationEntry where
  kind : StationKind
  tag : Byte
  body : List Byte
  executing : Bool
  answered : Bool
  deriving DecidableEq, Repr

/-- The station controller's queue, the LOAD job that waits for the unit with the tick at which it was queued (R114), the
stored boot count known to RESEED (R167), the station port and the station alert output (R161, `true` for driven low). -/
structure Station where
  queue : List StationEntry
  load : Option (LoadReq × Nat)
  knownBoot : Option (BitVec 32)
  port : PortState
  alert : Bool
  deriving DecidableEq, Repr

/-- The station controller after power-on. -/
def Station.fresh : Station :=
  { queue := [], load := none, knownBoot := none, port := PortState.fresh, alert := false }

/-! ### The time base (Chapter 7) -/

/-- The time base (R137). `running` says that reference pulses arrive, `lastLossIntact` that the last-loss time passes its
check, `trimFromConfig` that the stop mark was set at this power-on and the trim is still to come from the configuration
(R149). `secondEvents` counts second events raised and not yet taken, `periodStarted` marks a period start raised and
not yet taken (log entry 7); `losses` counts the losses of the backup domain's storage (log entry 3). -/
structure Clock where
  seconds : Seconds
  fraction : BitVec 10
  pulse : BitVec 5
  period : BitVec 21
  trimSet : BitVec 8
  trimInUse : BitVec 8
  timeValid : Bool
  stopMark : Bool
  lastLoss : Seconds
  lastLossValid : Bool
  lastLossIntact : Bool
  backupLow : Bool
  mono : Nat
  running : Bool
  trimFromConfig : Bool
  secondEvents : Nat
  periodStarted : Bool
  losses : Nat
  deriving DecidableEq, Repr

/-! ### The non-volatile store (Chapter 9) -/

/-- The condition of a store record when read (R170). The check sequence is represented by the condition it gives. -/
inductive Rec (α : Type) where
  | blank
  | intact (content : α)
  | failing
  deriving DecidableEq, Repr

/-- The stored states of a slot record (R170). -/
inductive StoredState where
  | staged | active | expired | withdrawn
  deriving DecidableEq, Repr

/-- The content of a slot record (R170). -/
structure SlotRecord where
  data : KeyData
  st : StoredState
  deriving DecidableEq, Repr

/-- The content of the configuration image (R166, R170). -/
structure Image where
  config : WorkingConfig
  routes : Vector Route 32
  trim : BitVec 8
  deriving DecidableEq, Repr

/-- An entry of the pending write list (R172): the record, the action desired and any content carried. -/
inductive StoreReq where
  | writeSlot (n : SlotNo)
  | eraseSlot (n : SlotNo)
  | writeImage (i : Image)
  | writeBoot (b : BitVec 32)
  deriving DecidableEq, Repr

/-- What the action in progress does, with the content fixed when it began (R173). -/
inductive StoreAct where
  | writeSlot (n : SlotNo) (r : SlotRecord)
  | eraseSlot (n : SlotNo)
  | writeImage (i : Image)
  | writeBoot (b : BitVec 32)
  deriving DecidableEq, Repr

/-- The store: its 26 records, the action in progress with its attempt, and the pending write list (R170, R171). -/
structure Store where
  slots : Vector (Rec SlotRecord) 24
  image : Rec Image
  boot : Rec (BitVec 32)
  action : Option StoreAct
  second : Bool
  pending : List StoreReq
  deriving DecidableEq, Repr

/-- A store whose records have never been written. -/
def Store.blank : Store :=
  { slots := Vector.replicate 24 .blank, image := .blank, boot := .blank, action := none, second := false, pending := [] }

/-! ### The whole module -/

/-- The state of the module. `power` is main power; `loaded` says that the START_UP of this start has run (the point of
section 9.4's sequence the module has reached); `laneRate` is the rate the lane ports run at (R183); `loadTick` is the
tick of the configuration's loading (R194); `signing` is the current signing generation (R78); `flags` are the 21
latched flags at the bit positions of R205; `pending` is the queue of commands that wait, first in, first out. -/
structure State where
  power : Bool
  service : Service
  loaded : Bool
  clock : Clock
  lanes : Vector Lane 4
  laneRate : Rate
  loadTick : Nat
  table : Table
  slots : Vector Slot 24
  signing : Option Gen
  routes : Vector Route 32
  kfu : Kfu
  station : Station
  config : WorkingConfig
  flags : BitVec 21
  store : Store
  pending : List Instr
  deriving DecidableEq, Repr

/-- The time base of a module at its first power-on, after it has acted on the stop mark with which a backup domain that
holds nothing comes up (R147, R149, R152). Log entries 3 and 8. -/
def Clock.reset : Clock :=
  { seconds := 0, fraction := 0, pulse := 0, period := 0, trimSet := 0, trimInUse := 0, timeValid := false,
    stopMark := false, lastLoss := 0, lastLossValid := false, lastLossIntact := false, backupLow := false, mono := 0,
    running := true, trimFromConfig := true, secondEvents := 0, periodStarted := false, losses := 0 }

/-- The machine right after reset: the first power-on of a module whose store has never been written and whose backup
domain held nothing (log entry 8). POWER_ON has happened: the module is STARTING, TIME_LOST is latched because the stop
mark was set (R149, R177), the alert enable mask has every enable set (R153) so the station alert is driven (R161), and
START_UP is the step to come. Until it loads the slot records every slot is EMPTY with a count of 0 and the current signing
generation is none: R179 and R180 give them from the loading on only (DESIGN CHOICE, log entry 31). -/
def State.reset : State :=
  { power := true
    service := .starting
    loaded := false
    clock := Clock.reset
    lanes := Vector.replicate 4 Lane.fresh
    laneRate := .r460800
    loadTick := 0
    table := { entries := [], sealCount := 0 }
    slots := Vector.replicate 24 Slot.fresh
    signing := none
    routes := Vector.replicate 32 Route.cleared
    kfu := Kfu.fresh Config.transportKey Config.challengeKey
    station := { Station.fresh with alert := true }
    config := WorkingConfig.defaults
    flags := 1
    store := Store.blank
    pending := [] }

end Sys2Proof.Machine
end

