-- ==== Sys2Proof/Machine/Kinds.lean ====
section
/-! DEFINITION. The one-byte codes of R200: request kinds, outcome codes and the enumerations of the message bodies. -/

namespace Sys2Proof.Machine

/-- The lane request kinds (R186). -/
inductive LaneKind where
  | openReq | proveReq | sealReq | dropReq | pollReq
  deriving DecidableEq, Repr

/-- The kind code of a lane request (R200). -/
def LaneKind.code : LaneKind → Byte
  | .openReq => 0x01
  | .proveReq => 0x02
  | .sealReq => 0x03
  | .dropReq => 0x04
  | .pollReq => 0x05

/-- The kind code of STATUS (R200). -/
def statusKind : Byte := 0x10

/-- The kind code of a queued station request (R200). -/
def StationKind.code : StationKind → Byte
  | .setLane => 0x11
  | .setConfig => 0x12
  | .saveConfig => 0x13
  | .reseed => 0x14
  | .reset => 0x15
  | .loadKey => 0x20
  | .withdrawKey => 0x21
  | .listSlot => 0x22
  | .setRoute => 0x28
  | .clearRoute => 0x29
  | .queryPassage => 0x30
  | .setTime => 0x38
  | .setTrim => 0x39
  | .readTime => 0x3A

/-- The lane request a kind byte names on a lane port (R186, R200). -/
def laneKind (k : Byte) : Option LaneKind :=
  [.openReq, .proveReq, .sealReq, .dropReq, .pollReq].find? (fun c => c.code == k)

/-- The queued station request a kind byte names on the station port (R186, R200). -/
def stationKind (k : Byte) : Option StationKind :=
  [.setLane, .setConfig, .saveConfig, .reseed, .reset, .loadKey, .withdrawKey, .listSlot, .setRoute, .clearRoute,
    .queryPassage, .setTime, .setTrim, .readTime].find? (fun c => c.code == k)

/-- Whether a kind byte is a request kind of a port (R186): the station port's kinds are those of Chapter 8. -/
def isRequestKind (p : Port) (k : Byte) : Bool :=
  match p with
  | .lane _ => (laneKind k).isSome
  | .station => k == statusKind || (stationKind k).isSome

/-- The outcome codes (R200). -/
def Code.byte : Code → Byte
  | .ok => 0x00
  | .busy => 0x01
  | .notReady => 0x02
  | .malformed => 0x03
  | .seedRequired => 0x04
  | .laneOff => 0x05
  | .noContext => 0x06
  | .stale => 0x07
  | .inProgress => 0x08
  | .wrongState => 0x09
  | .expired => 0x0A
  | .denied => 0x0B
  | .unrouted => 0x0C
  | .oldGeneration => 0x0D
  | .unknownGeneration => 0x0E
  | .generationPending => 0x0F
  | .generationExpired => 0x10
  | .keyWithdrawn => 0x11
  | .authFailed => 0x12
  | .noSigningKey => 0x13
  | .dropped => 0x14
  | .slotRange => 0x20
  | .slotOccupied => 0x21
  | .slotEmpty => 0x22
  | .slotBusy => 0x23
  | .duplicateGeneration => 0x24
  | .notHome => 0x25
  | .windowPast => 0x26
  | .checkFailed => 0x27
  | .storeFailed => 0x28
  | .routeRange => 0x29
  | .valueRange => 0x2A

def Verdict.byte : Verdict → Byte
  | .new => 1
  | .suspect => 2
  | .duplicate => 3
  | .reread => 4
  | .rereadUnwritten => 5
  | .suspectHeld => 6

def LostCause.byte : LostCause → Byte
  | .expired => 1
  | .revoked => 2

def Service.byte : Service → Byte
  | .starting => 0
  | .seedWait => 1
  | .serving => 2

def LaneState.byte : LaneState → Byte
  | .up => 0
  | .down => 1
  | .off => 2

def SlotState.byte : SlotState → Byte
  | .empty => 0
  | .loading => 1
  | .staged => 2
  | .active => 3
  | .expired => 4
  | .withdrawn => 5
  | .erasing => 6

def Role.byte : Role → Byte
  | .tagMaster => 1
  | .record => 2

def ArbMode.byte : ArbMode → Byte
  | .rotating => 0
  | .fixedUp => 1
  | .fixedDown => 2

def Rate.byte : Rate → Byte
  | .r115200 => 0
  | .r230400 => 1
  | .r460800 => 2
  | .r921600 => 3

/-- The role a code names, if any (R196, R200). -/
def roleOf (b : Byte) : Option Role :=
  if b = 1 then some .tagMaster else if b = 2 then some .record else none

/-- The arbiter mode a code names, if any. -/
def modeOf (b : Byte) : Option ArbMode :=
  if b = 0 then some .rotating else if b = 1 then some .fixedUp else if b = 2 then some .fixedDown else none

/-- The lane port rate a code names, if any. -/
def rateOf (b : Byte) : Option Rate :=
  if b = 0 then some .r115200
  else if b = 1 then some .r230400
  else if b = 2 then some .r460800
  else if b = 3 then some .r921600
  else none

/-- The enabled indication a code names, if any (0 off, 1 on). -/
def enabledOf (b : Byte) : Option Bool :=
  if b = 0 then some false else if b = 1 then some true else none

end Sys2Proof.Machine
end

