-- ==== Sys2Proof/Machine/Layouts.lean ====
section
/-! DEFINITION. The answer bodies of Chapter 11, byte by byte: the transit record (R203), the lane and station answers (R201,
R202, R204, R205) and the rules of R197 and R198. -/

namespace Sys2Proof.Machine

/-- A field of `n` bytes. -/
def wire {w : Nat} (n : Nat) (v : BitVec w) : List Byte := bytesOf n v.toNat

/-- An expiry time of none is FFFFFFFF hex (R198). -/
def expiryWire : Option Seconds → List Byte
  | none => [0xFF, 0xFF, 0xFF, 0xFF]
  | some e => wire 4 e

/-- A generation of none is 0 (R198). -/
def genWire : Option Gen → List Byte
  | none => [0, 0]
  | some g => wire 2 g

/-- A truth value as a byte 0 or 1. -/
def boolByte (b : Bool) : Byte := if b then 1 else 0

/-- The two-byte field of fraction and quality (R203): bit 15 is set for UNSYNCHRONISED, bits 14 to 10 are 0. -/
def fractionQuality (f : BitVec 10) (unsynchronised : Bool) : List Byte :=
  bytesOf 2 (f.toNat + if unsynchronised then 0x8000 else 0)

/-- The 24 bytes of a transit record content (R203). -/
def TransitRecord.bytes (r : TransitRecord) : List Byte :=
  wire 2 r.gantry ++ [BitVec.ofNat 8 r.lane.val] ++ wire 4 r.seconds ++ fractionQuality r.fraction r.unsynchronised
    ++ wire 6 r.tagId ++ [r.issuer] ++ wire 2 r.counter ++ [r.vehicleClass.setWidth 8] ++ wire 2 r.generation
    ++ [flagBit 0 r.holdover ||| flagBit 1 r.suspect ||| flagBit 2 r.watch] ++ wire 2 r.readerRef

/-- The six settings bytes of SET_LANE (R202). -/
def laneWire (l : LaneNo) (set : LaneSettings) : List Byte :=
  [BitVec.ofNat 8 l.val, boolByte set.enabled] ++ wire 2 set.dwell ++ wire 2 set.linkTimeout

/-- The twelve bytes of SET_CONFIG (R202), in the answer as stored (R165). R118 says that the arbiter mode is not reported on any
port, and R165 and R202 put it among the items that the answer carries: it is sent, as the setting stored (DESIGN CHOICE, log
entry 32). No answer reports the mode otherwise. -/
def configWire (c : ConfigItems) : List Byte :=
  wire 2 c.gantry ++ [c.home] ++ wire 2 c.window ++ wire 2 c.holdover ++ [c.mode.byte] ++ wire 3 c.mask ++ [c.rate.byte]

/-- The flags byte of SET_ROUTE (R202): bit 0 DENY, bit 1 WATCH, bit 2 STRICT, bit 3 enabled. -/
def routeFlags (r : Route) : Byte :=
  flagBit 0 r.deny ||| flagBit 1 r.watch ||| flagBit 2 r.strict ||| flagBit 3 r.enabled

/-- The seventeen bytes of SET_ROUTE (R202). -/
def routeWire (i : RouteNo) (r : Route) : List Byte :=
  [BitVec.ofNat 8 i.val, routeFlags r] ++ wire 6 r.compare ++ wire 6 r.mask ++ [r.issuer] ++ wire 2 r.minGen

/-- The notice fields of a POLL answer, offsets 1 to 4 (R201). -/
def Notice.wire : Notice → List Byte
  | .none => [0, 0, 0, 0]
  | .contextLost c t cause => [1, BitVec.ofNat 8 c.val, t, cause.byte]
  | .serviceChanged => [2, 0, 0, 0]
  | .signingChanged => [3, 0, 0, 0]

/-- The body of an answer (R197, R201, R202, R204, R205). Absent fields are sent as 0 (R196). CLEAR_ROUTE's OK answer has the two
bytes of R202, without the index that R99 says it carries: section 1.6 gives the byte positions of a message to Chapter 11,
and R197 the length to its table (DEDUCED, log entry 28). -/
def Reply.bytes : Reply → List Byte
  | .code c => [c.byte]
  | .opened c t ch => [0, BitVec.ofNat 8 c.val, t] ++ wire 8 ch
  | .verdict v watch suspect owner sealTime =>
      [0, v.byte, flagBit 0 watch ||| flagBit 1 suspect ||| flagBit 2 owner.isSome ||| flagBit 3 sealTime.isSome,
        BitVec.ofNat 8 ((owner.map Fin.val).getD 0)] ++ wire 4 (sealTime.getD 0)
  | .record r mac => [0] ++ r.bytes ++ wire 8 mac
  | .poll p =>
      [0] ++ p.notice.wire ++ [BitVec.ofNat 8 p.left, p.service.byte, p.lane.byte, flagBit 0 p.timeValid]
        ++ genWire p.signing
  | .status r =>
      [0] ++ wire 3 r.flags
        ++ [r.service.byte,
            flagBit 0 r.timeValid ||| flagBit 1 r.backupLow ||| flagBit 2 r.storeBusy ||| flagBit 3 r.boot.isSome]
        ++ (List.finRange 4).map (fun l => (r.lanes[l]).byte) ++ bytesOf 2 r.entries ++ wire 4 (r.boot.getD 0)
  | .lane clamped l set => [0, flagBit 0 clamped] ++ laneWire l set
  | .config clamped items => [0, flagBit 0 clamped] ++ configWire items
  | .loaded st => [0, st.byte]
  | .withdrawn st refs => [0, st.byte, BitVec.ofNat 8 refs]
  | .slot st none _ => [0, st.byte] ++ List.replicate 17 0
  | .slot st (some d) refs =>
      [0, st.byte, d.issuer, d.role.byte] ++ wire 2 d.generation ++ wire 4 d.activation ++ expiryWire d.expiry
        ++ wire 4 d.check ++ [BitVec.ofNat 8 refs]
  | .route clamped i r => [0, flagBit 0 clamped] ++ routeWire i r
  | .cleared _ before => [0, boolByte before]
  | .passage none => [0, 0] ++ List.replicate 12 0
  | .passage (some p) =>
      [0, if p.claimed then 1 else 2, BitVec.ofNat 8 p.lane.val] ++ wire 2 p.counter ++ wire 4 (p.sealTime.getD 0)
        ++ bytesOf 2 (p.secondsLeft.getD 0) ++ [boolByte p.previous.isSome] ++ wire 2 (p.previous.getD 0)
  | .timeSet s f v => [0] ++ wire 4 s ++ wire 2 f ++ [boolByte v]
  | .trim t => [0, t]
  | .time t =>
      [0] ++ wire 4 t.seconds ++ wire 2 t.fraction
        ++ [flagBit 0 t.timeValid ||| flagBit 1 t.backupLow ||| flagBit 2 t.lastLoss.isSome, t.trim]
        ++ wire 4 (t.lastLoss.getD 0)

end Sys2Proof.Machine
end

