-- ==== Sys2Proof/Machine/Cipher.lean ====
section
/-! DEFINITION. The block function's two forms and the six operations of the key function unit (R102 to R108, R134). -/

namespace Sys2Proof.Machine

/-- One forward pass of the block function (R102). -/
def encipher (key x : Block) : Block := Config.blockFunction key x

/-- One pass of the inverse block function (R102). -/
def decipher (key y : Block) : Block := (Config.blockFunction key).symm y

/-- The first 8 bytes of a block. -/
def firstEight (b : Block) : Mac := b.extractLsb' 64 64

/-- R103 step 1: one byte 80 hex, then zero bytes until the length is a multiple of 16. -/
def padded (msg : List Byte) : List Byte :=
  (msg ++ [0x80]) ++ List.replicate ((16 - (msg.length + 1) % 16) % 16) 0

/-- R103 step 2. -/
def messageBlocks (msg : List Byte) : List Block := blocksOf ((padded msg).length / 16) (padded msg)

/-- R103 step 3: each block is enciphered exclusive-or the output before it; before block 0 the output stands as 0. -/
def chainOutput (key : Block) (blocks : List Block) : Block :=
  blocks.foldl (fun out b => encipher key (b ^^^ out)) 0

/-- The chained form of the block function (R103). -/
def chained (key : Block) (msg : List Byte) : Mac := firstEight (chainOutput key (messageBlocks msg))

/-- Derive (R104): tag ID, tag generation, issuer and seven zero bytes under the master key. -/
def derive (masterKey : Block) (tagId : TagId) (generation : Gen) (issuer : Byte) : Block :=
  encipher masterKey (tagId ++ generation ++ issuer ++ (0 : BitVec 56))

/-- Challenge (R105): boot count in use, challenge sequence, lane, context number and six zero bytes under the device
challenge key. -/
def challenge (challengeKey : Block) (boot sequence : BitVec 32) (l : LaneNo) (c : CtxNo) : Mac :=
  firstEight
    (encipher challengeKey
      (boot ++ sequence ++ BitVec.ofNat 8 l.val ++ BitVec.ofNat 8 c.val ++ (0 : BitVec 48)))

/-- Response (R106): challenge, tag nonce, tag counter and tag ID, chained under the tag key. -/
def response (tagKey : Block) (ch : Mac) (nonce : BitVec 32) (counter : Counter) (tagId : TagId) : Mac :=
  chained tagKey (wire 8 ch ++ wire 4 nonce ++ wire 2 counter ++ wire 6 tagId)

/-- Record MAC (R107, R134): the 24 bytes of the record content, chained under the signing key. -/
def recordMac (key : Block) (r : TransitRecord) : Mac := chained key r.bytes

/-- Unwrap (R108): the inverse block function under the device transport key. -/
def unwrap (transportKey wrapped : Block) : Block := decipher transportKey wrapped

/-- Check value (R108): the first 4 bytes of the enciphered zero block. -/
def checkValue (key : Block) : BitVec 32 := (encipher key 0).extractLsb' 96 32

end Sys2Proof.Machine
end

