-- ==== Sys2Proof/Machine/Flags.lean ====
section
/-! DEFINITION. The 21 latched flags (R158, R205) and the five alert outputs that follow the notice sets and the flags (R28,
R161, R195). -/

namespace Sys2Proof.Machine

/-- The latched flags (R158). -/
inductive Flag where
  | timeLost | slotLost | configDefaulted | bootRecordLost | keyOverrun | passageEvicted | suspectSeen | storeFault
  | laneDown (l : LaneNo)
  | frameFault (p : Port)
  | flood (l : LaneNo)
  deriving DecidableEq, Repr

/-- The bit position of a flag in the STATUS answer, the clear mask and the alert enable mask (R205). -/
def Flag.bit : Flag → Nat
  | .timeLost => 0
  | .slotLost => 1
  | .configDefaulted => 2
  | .bootRecordLost => 3
  | .keyOverrun => 4
  | .passageEvicted => 5
  | .suspectSeen => 6
  | .storeFault => 7
  | .laneDown l => 8 + l.val
  | .frameFault (.lane l) => 12 + l.val
  | .frameFault .station => 16
  | .flood l => 17 + l.val

/-- The flag alone, as a mask. -/
def Flag.mask (f : Flag) : BitVec 21 := 1#21 <<< f.bit

/-- A flag is set and stays set (R158). -/
def State.latch (s : State) (f : Flag) : State := { s with flags := s.flags ||| f.mask }

/-- Whether a flag is set. -/
def State.flag (s : State) (f : Flag) : Bool := s.flags.getLsbD f.bit

/-- STATUS clears every flag set in its mask (R159). -/
def State.clearFlags (s : State) (mask : BitVec 21) : State := { s with flags := s.flags &&& ~~~mask }

/-- The number of items in a notice set (R26). -/
def Notices.count (n : Notices) : Nat :=
  ((List.finRange 3).countP fun c => n.lost[c].isSome)
    + (if n.serviceChanged then 1 else 0) + (if n.signingChanged then 1 else 0)

/-- The condition of a lane alert output (R28): the lane's notice set holds at least one item. -/
def Lane.alertDue (ln : Lane) : Bool := ln.notices.count != 0

/-- The condition of the station alert output (R161): a latched flag is set whose enable is set. -/
def State.stationAlertDue (s : State) : Bool := s.flags &&& s.config.items.mask != 0

/-- Each alert output follows its condition from the event that changes it, with no wait (R195). -/
def State.driveAlerts (s : State) : State :=
  { s with
    lanes := Vector.ofFn fun l : LaneNo => { s.lanes[l] with alert := s.lanes[l].alertDue }
    station := { s.station with alert := s.stationAlertDue } }

end Sys2Proof.Machine
end

