-- ==== Sys2Proof/Machine/Framing.lean ====
section
/-! DEFINITION. Frames on the line (Chapter 10): the CRC (R185), the receiver (R184), and the answer frame as sent (R188). -/

namespace Sys2Proof.Machine

/-- One bit of the CRC-16 of R185: shift one place; when the bit shifted out differs from the data bit, exclusive-or
1021 hex. -/
def crcBit (reg : BitVec 16) (bit : Bool) : BitVec 16 :=
  if reg.msb != bit then (reg <<< 1) ^^^ 0x1021 else reg <<< 1

/-- One byte of the CRC, most significant bit first. -/
def crcByte (reg : BitVec 16) (b : Byte) : BitVec 16 :=
  [7, 6, 5, 4, 3, 2, 1, 0].foldl (fun r i => crcBit r (b.getLsbD i)) reg

/-- The CRC-16 of R185 over a byte string, starting from FFFF hex. -/
def crc16 (bs : List Byte) : BitVec 16 := bs.foldl crcByte 0xFFFF

/-- The content of a frame (R199): kind, request tag, length, body and CRC. -/
def frameContent (kind tag : Byte) (body : List Byte) : List Byte :=
  let head := [kind, tag, BitVec.ofNat 8 body.length] ++ body
  head ++ wire 2 (crc16 head)

/-- A content byte as sent: 7E hex as 7D 5E, 7D hex as 7D 5D (R188). -/
def escaped (b : Byte) : List Byte :=
  if b = 0x7E then [0x7D, 0x5E] else if b = 0x7D then [0x7D, 0x5D] else [b]

/-- A frame on the line: an opening flag, the escaped content and a closing flag (R188). -/
def frameLine (content : List Byte) : List Byte := [0x7E] ++ content.flatMap escaped ++ [0x7E]

/-- The kind of an answer: the request kind with its most significant bit set (R188). -/
def answerKind (kind : Byte) : Byte := kind ||| 0x80

/-- The line bytes of an answer, formed when its transmission begins (R188). -/
def Answer.line (a : Answer) : List Byte := frameLine (frameContent (answerKind a.kind) a.tag a.reply.bytes)

/-- The frame check of R185: at least 5 bytes, and the last two bytes are the CRC of those before them. -/
def framePasses (content : List Byte) : Bool :=
  decide (5 ≤ content.length)
    && crc16 (content.take (content.length - 2)) == fieldAt 16 content (content.length - 2) 2

/-- A valid frame, cut by R199: kind, request tag, length byte and body bytes. -/
structure Frame where
  kind : Byte
  tag : Byte
  length : Byte
  body : List Byte
  deriving DecidableEq, Repr

/-- The parts of a valid frame's content. -/
def frameOf (content : List Byte) : Frame :=
  { kind := byteAt content 0, tag := byteAt content 1, length := byteAt content 2,
    body := (content.drop 3).take (content.length - 5) }

/-- What a received character leads to beside the receiver's own state. -/
inductive RxEvent where
  /-- nothing -/
  | quiet
  /-- a frame is discarded, and the frame fault of the port is latched (R185) -/
  | fault
  /-- a valid frame -/
  | frame (f : Frame)
  deriving DecidableEq, Repr

/-- A content byte stored; the 65th of a frame discards it as over length (R184). -/
def rxStore (buffer : List Byte) (b : Byte) : Rx × RxEvent :=
  if 64 ≤ buffer.length then (.hunt, .fault) else (.assemble (buffer ++ [b]) false, .quiet)

/-- A flag closes the frame and opens the next; a flag pair with no content between is not a frame (R184, R185). -/
def rxClose (buffer : List Byte) : Rx × RxEvent :=
  (.assemble [] false,
    if buffer = [] then .quiet else if framePasses buffer then .frame (frameOf buffer) else .fault)

/-- The receiver's step on one character (R184). -/
def rxStep : Rx → LineChar → Rx × RxEvent
  | .hunt, .byte b => if b = 0x7E then (.assemble [] false, .quiet) else (.hunt, .quiet)
  | .hunt, .error => (.hunt, .quiet)
  | .assemble buffer false, .byte b =>
      if b = 0x7E then rxClose buffer
      else if b = 0x7D then (.assemble buffer true, .quiet)
      else rxStore buffer b
  | .assemble buffer true, .byte b =>
      if b = 0x5E then rxStore buffer 0x7E
      else if b = 0x5D then rxStore buffer 0x7D
      else if b = 0x7E then (.assemble [] false, .quiet)
      else (.hunt, .fault)
  | .assemble _ _, .error => (.hunt, .fault)

/-- The receiver over a run of characters, with the events in their order. -/
def rxRun : Rx → List LineChar → Rx × List RxEvent
  | rx, [] => (rx, [])
  | rx, c :: cs =>
    let r := rxStep rx c
    let rest := rxRun r.1 cs
    (rest.1, r.2 :: rest.2)

/-- The receiver after a valid frame has closed: the buffer is empty and the next frame is open (R184). -/
def Rx.opened : Rx := .assemble [] false

end Sys2Proof.Machine
end

