-- ==== Sys2Proof/Machine/Ops.lean ====
section
/-! DEFINITION. The shared operations on the state: updates of one part, answers and answer places (R9, R187), the lane queue's
answers (R8), notices (R26), store requests (R172, R173) and slot references (R83, R86). -/

namespace Sys2Proof.Machine

/-! ### Updates of one part -/

def State.onLane (s : State) (l : LaneNo) (f : Lane → Lane) : State :=
  { s with lanes := s.lanes.set l (f s.lanes[l]) }

def State.ctx (s : State) (l : LaneNo) (c : CtxNo) : Context := s.lanes[l].contexts[c]

def Lane.onCtx (ln : Lane) (c : CtxNo) (f : Context → Context) : Lane :=
  { ln with contexts := ln.contexts.set c (f ln.contexts[c]) }

def State.onCtx (s : State) (l : LaneNo) (c : CtxNo) (f : Context → Context) : State :=
  s.onLane l fun ln => ln.onCtx c f

def State.onSlot (s : State) (n : SlotNo) (f : Slot → Slot) : State :=
  { s with slots := s.slots.set n (f s.slots[n]) }

/-- The port interface of a port. -/
def State.portOf (s : State) : Port → PortState
  | .lane l => s.lanes[l].port
  | .station => s.station.port

def State.onPort (s : State) (p : Port) (f : PortState → PortState) : State :=
  match p with
  | .lane l => s.onLane l fun ln => { ln with port := f ln.port }
  | .station => { s with station := { s.station with port := f s.station.port } }

/-- The settings of a lane in the working configuration. -/
def State.settings (s : State) (l : LaneNo) : LaneSettings := s.config.lanes[l]

/-- The monotonic tick count (R139). -/
def State.now (s : State) : Nat := s.clock.mono

/-- Milliseconds as monotonic ticks: times 1024, divided by 1000, rounded up (R23, R190). -/
def ticksOf (ms : BitVec 16) : Nat := (ms.toNat * 1024 + 999) / 1000

/-! ### Answers and answer places -/

/-- The rate of a port's line (R183): the station port runs at 115 200 baud at all times. -/
def State.rateOfPort (s : State) : Port → Rate
  | .lane _ => s.laneRate
  | .station => .r115200

/-- An answer enters the answer queue; when no answer is before it its transmission begins at once (R187, R188). -/
def PortState.enqueue (ps : PortState) (rate : Rate) (a : Answer) : PortState :=
  { ps with answers := ps.answers ++ [a], tx := if ps.answers = [] then .sending a.line rate else ps.tx }

/-- An answer is produced on a port (R10, R187). -/
def State.produce (s : State) (p : Port) (a : Answer) : State :=
  s.onPort p fun ps => ps.enqueue (s.rateOfPort p) a

/-- The answers of a list produced in its order. -/
def State.produceAll (s : State) (p : Port) (as : List Answer) : State := as.foldl (fun s a => s.produce p a) s

/-- The last byte of the answer at the head has been sent: its place is freed and the next answer, if any, begins
(R187). -/
def PortState.sent (ps : PortState) (rate : Rate) : PortState :=
  match ps.answers.drop 1 with
  | [] => { ps with answers := [], tx := .idle }
  | a :: rest => { ps with answers := a :: rest, tx := .sending a.line rate }

/-- The abort sequence on the line: an escape byte and a flag (R189). -/
def abortLine : List Byte := [0x7D, 0x7E]

/-- The answer queue is emptied; an answer in transmission is cut off: in place of its rest the abort sequence is sent, at
the rate the answer runs at (R189, R183). With no answer in transmission nothing is sent. -/
def PortState.cutOff (ps : PortState) : PortState :=
  { ps with
    answers := []
    tx := match ps.tx with
      | .sending _ rate => .cutOff abortLine rate
      | t => t }

/-- The number of places of an answer queue (R9, R187). -/
def answerPlaces : Nat := 6

/-- The number of entries of a lane request queue (R8). -/
def laneQueueSize : Nat := 4

/-- An entry that is WAITING or RUNNING: it has a reserved answer place (R9). -/
def Entry.live (e : Entry) : Bool := e.phase != .answered

/-- The places held on a lane port (R9): answers not yet transmitted and reservations. -/
def Lane.placesHeld (ln : Lane) : Nat := ln.port.answers.length + ln.queue.countP Entry.live

/-- The places held on the station port (R155): answers not yet transmitted and the reservations of queue entries. -/
def Station.placesHeld (st : Station) : Nat := st.port.answers.length + st.queue.countP fun e => !e.answered

/-- An immediate answer on a lane port (R9). -/
def State.laneReply (s : State) (l : LaneNo) (kind tag : Byte) (r : Reply) : State :=
  s.produce (.lane l) { kind := kind, tag := tag, reply := r, serial := none }

/-- An immediate answer on the station port (R155). -/
def State.stationReply (s : State) (kind tag : Byte) (r : Reply) : State :=
  s.produce .station { kind := kind, tag := tag, reply := r, serial := none }

/-- The kind of the request an entry was made for (R8). -/
def LaneReq.kind : LaneReq → LaneKind
  | .openReq => .openReq
  | .proveReq _ => .proveReq
  | .sealReq _ _ => .sealReq

/-- The answer that fills an entry's reservation (R9). -/
def Entry.answer (e : Entry) (r : Reply) : Answer :=
  { kind := e.req.kind.code, tag := e.tag, reply := r, serial := some e.serial }

/-- The WAITING entries that `pick` names are removed from WAITING and answered, in queue order: each becomes ANSWERED
(R8). -/
def State.answerWaiting (s : State) (l : LaneNo) (pick : Entry → Bool) (r : Reply) : State :=
  let hit (e : Entry) : Bool := e.phase == .waiting && pick e
  let as := (s.lanes[l].queue.filter hit).map fun e => e.answer r
  (s.onLane l fun ln =>
    { ln with queue := ln.queue.map fun e => if hit e then { e with phase := .answered } else e }).produceAll (.lane l) as

/-- The RUNNING entry of a context is answered at its job's completion; one marked to be discarded leaves the queue and
frees its place without an answer (R8, R32). -/
def State.answerRunning (s : State) (l : LaneNo) (c : CtxNo) (r : Reply) : State :=
  let hit (e : Entry) : Bool := e.phase == .running && e.ctx == c
  let as := (s.lanes[l].queue.filter fun e => hit e && !e.discard).map fun e => e.answer r
  (s.onLane l fun ln =>
    { ln with
      queue := (ln.queue.filter fun e => !(hit e && e.discard)).map fun e =>
        if hit e then { e with phase := .answered } else e }).produceAll (.lane l) as

/-- Whether a lane queue entry of the context is WAITING. -/
def Lane.waiting (ln : Lane) (c : CtxNo) : Bool := ln.queue.any fun e => e.phase == .waiting && e.ctx == c

/-- Whether a lane queue entry of the context is WAITING or RUNNING (R12). -/
def Lane.inProgress (ln : Lane) (c : CtxNo) : Bool := ln.queue.any fun e => e.live && e.ctx == c

/-! ### Notices -/

/-- CONTEXT_LOST for a context replaces one already in the set (R26). -/
def State.addLost (s : State) (l : LaneNo) (c : CtxNo) (n : Lost) : State :=
  s.onLane l fun ln => { ln with notices := { ln.notices with lost := ln.notices.lost.set c (some n) } }

def State.addServiceChanged (s : State) (l : LaneNo) : State :=
  s.onLane l fun ln => { ln with notices := { ln.notices with serviceChanged := true } }

/-- SERVICE_CHANGED is added to the notice set of every lane, enabled or not (R157). -/
def State.serviceChangedAll (s : State) : State :=
  (List.finRange 4).foldl (fun s l => s.addServiceChanged l) s

/-- SIGNING_CHANGED is added to every enabled lane (R26, R78). -/
def State.signingChangedAll (s : State) : State :=
  (List.finRange 4).foldl
    (fun s l =>
      if (s.settings l).enabled then
        s.onLane l fun ln => { ln with notices := { ln.notices with signingChanged := true } }
      else s)
    s

/-! ### Store requests -/

/-- Whether two requests name the same record. -/
def StoreReq.sameRecord : StoreReq → StoreReq → Bool
  | .writeSlot a, .writeSlot b => a == b
  | .writeSlot a, .eraseSlot b => a == b
  | .eraseSlot a, .writeSlot b => a == b
  | .eraseSlot a, .eraseSlot b => a == b
  | .writeImage _, .writeImage _ => true
  | .writeBoot _, .writeBoot _ => true
  | _, _ => false

/-- The content of a slot's record (R69, R170, R173): a LOADING slot gives its stored state; a slot that is EMPTY or
ERASING has none. -/
def Slot.record (sl : Slot) : Option SlotRecord :=
  match sl.body with
  | .held (.loading .staged) d => some { data := d, st := .staged }
  | .held (.loading .active) d => some { data := d, st := .active }
  | .held .staged d => some { data := d, st := .staged }
  | .held .active d => some { data := d, st := .active }
  | .held .expired d => some { data := d, st := .expired }
  | .held .withdrawn d => some { data := d, st := .withdrawn }
  | .held .erasing _ => none
  | .empty => none

/-- The action a request becomes when it begins, its content fixed then (R173). A write of a slot that has no record
content (no run reaches it, since every such slot's entry is an erase) is performed as an erase. -/
def State.actionOf (s : State) : StoreReq → StoreAct
  | .writeSlot n =>
    match s.slots[n].record with
    | some r => .writeSlot n r
    | none => .eraseSlot n
  | .eraseSlot n => .eraseSlot n
  | .writeImage i => .writeImage i
  | .writeBoot b => .writeBoot b

/-- A request begins as the action in progress, at its first attempt (R173). -/
def State.beginAction (s : State) (r : StoreReq) : State :=
  { s with store := { s.store with action := some (s.actionOf r), second := false } }

/-- A store action is requested (R172): an entry of the same record is replaced in place; with the store idle and the
list empty the action begins at once; otherwise it is appended. -/
def State.requestStore (s : State) (r : StoreReq) : State :=
  if s.store.pending.any fun q => q.sameRecord r then
    { s with store := { s.store with pending := s.store.pending.map fun q => if q.sameRecord r then r else q } }
  else if s.store.action = none ∧ s.store.pending = [] then s.beginAction r
  else { s with store := { s.store with pending := s.store.pending ++ [r] } }

/-- When no action is in progress, the entry at the head of the list is removed and begins (R173). -/
def State.beginNext (s : State) : State :=
  match s.store.action, s.store.pending with
  | none, r :: rest => State.beginAction { s with store := { s.store with pending := rest } } r
  | _, _ => s

/-- STORE_BUSY (R160, R171). -/
def Store.busy (st : Store) : Bool := st.action.isSome || !st.pending.isEmpty

/-! ### Slots and references -/

/-- The key fields of an occupied slot. -/
def Slot.data (sl : Slot) : Option KeyData :=
  match sl.body with
  | .held _ d => some d
  | .empty => none

/-- The state of a slot as reported (R62). -/
def Slot.state (sl : Slot) : SlotState :=
  match sl.body with
  | .empty => .empty
  | .held (.loading _) _ => .loading
  | .held .staged _ => .staged
  | .held .active _ => .active
  | .held .expired _ => .expired
  | .held .withdrawn _ => .withdrawn
  | .held .erasing _ => .erasing

/-- A slot that is not EMPTY is occupied (R62). -/
def Slot.occupied (sl : Slot) : Bool := sl.body != .empty

/-- A WITHDRAWN slot whose reference count is zero becomes ERASING and its erase is requested (R86). -/
def State.eraseIfUnused (s : State) (n : SlotNo) : State :=
  match s.slots[n].body with
  | .held .withdrawn d =>
    if s.slots[n].refs = 0 then
      (s.onSlot n fun sl => { sl with body := .held .erasing d }).requestStore (.eraseSlot n)
    else s
  | _ => s

/-- A reference on a slot is taken (R83). -/
def State.reference (s : State) (n : SlotNo) : State := s.onSlot n fun sl => { sl with refs := sl.refs + 1 }

/-- A reference on a slot is released; the release that brings a WITHDRAWN slot to zero erases it (R83, R86). -/
def State.release (s : State) (n : SlotNo) : State :=
  (s.onSlot n fun sl => { sl with refs := sl.refs - 1 }).eraseIfUnused n

end Sys2Proof.Machine
end

