-- ==== Sys2Proof/Machine/Passages.lean ====
section
/-! DEFINITION. The passage table (Chapter 2): its entries by tag ID, classification (R39 to R46), release (R47), seal (R50) and
the expiry of an entry (R54). -/

namespace Sys2Proof.Machine

/-- The best element of a list by a comparison; of equals the first. -/
def bestOf {α : Type} (better : α → α → Bool) (xs : List α) : Option α :=
  xs.foldl
    (fun best x =>
      match best with
      | none => some x
      | some b => if better x b then some x else some b)
    none

/-- The most entries the table holds (R36). -/
def tableSize : Nat := 256

/-- The entry of a tag ID (R36). -/
def Table.find (t : Table) (id : TagId) : Option Passage := t.entries.find? fun e => e.tagId == id

/-- An entry put in its place by tag ID, in place of an entry of the same tag ID. -/
def putEntry (e : Passage) : List Passage → List Passage
  | [] => [e]
  | x :: xs => if e.tagId < x.tagId then e :: x :: xs else if e.tagId = x.tagId then e :: xs else x :: putEntry e xs

def Table.put (t : Table) (e : Passage) : Table := { t with entries := putEntry e t.entries }

def Table.remove (t : Table) (id : TagId) : Table := { t with entries := t.entries.filter fun e => e.tagId != id }

/-- Whether an entry is the claim of a context (R35). -/
def Passage.claimedBy (e : Passage) (l : LaneNo) (c : CtxNo) : Bool :=
  match e.body with
  | .claimed oc _ => e.lane == l && oc == c
  | .sealed _ _ _ => false

/-- The CLAIMED entry owned by a context, if any (R47). -/
def Table.claimOf (t : Table) (l : LaneNo) (c : CtxNo) : Option Passage := t.entries.find? fun e => e.claimedBy l c

/-- The eviction key of a SEALED entry: its expiry tick, then its seal number (R36). -/
def Passage.evictionKey (e : Passage) : Option (Nat × Nat) :=
  match e.body with
  | .sealed _ x n => some (x, n)
  | .claimed _ _ => none

/-- The SEALED entry with the earliest expiry tick, of those the one sealed first (R45). -/
def Table.evictee (t : Table) : Option Passage :=
  (bestOf (fun a b : Passage × Nat × Nat => a.2.1 < b.2.1 || (a.2.1 == b.2.1 && a.2.2 < b.2.2))
    (t.entries.filterMap fun e => e.evictionKey.map fun k => (e, k))).map Prod.fst

/-- When the table holds 256 entries one SEALED entry is evicted and PASSAGE_EVICTED is latched (R45). A full table always
has one (R45), so the second case meets no run. -/
def State.makeRoom (s : State) : State :=
  if tableSize ≤ s.table.entries.length then
    match s.table.evictee with
    | some e => State.latch { s with table := s.table.remove e.tagId } .passageEvicted
    | none => s
  else s

/-- What a classify call returns (R38): the verdict, for DUPLICATE the owner lane, for REREAD and REREAD_UNWRITTEN the
owner lane and the seal time. -/
structure Classified where
  verdict : Verdict
  owner : Option LaneNo
  sealTime : Option Seconds
  deriving DecidableEq, Repr

/-- The claim a context makes over a SEALED entry in place (R43). -/
def Passage.overlay (e : Passage) (l : LaneNo) (c : CtxNo) (counter : Counter) : Passage :=
  match e.body with
  | .sealed time expiry number =>
    { tagId := e.tagId, lane := l, counter := counter
      body := .claimed c (some { counter := e.counter, sealTime := time, expiry := expiry, lane := e.lane, number := number }) }
  | .claimed _ _ => e

/-- The classify call (R38 to R45). -/
def State.classify (s : State) (l : LaneNo) (c : CtxNo) (id : TagId) (counter : Counter) (strict : Bool) :
    State × Classified :=
  match s.table.find id with
  | none =>
    let s := s.makeRoom
    ({ s with table := s.table.put { tagId := id, lane := l, counter := counter, body := .claimed c none } },
      { verdict := .new, owner := none, sealTime := none })
  | some e =>
    match e.body with
    | .claimed _ _ => (s, { verdict := .duplicate, owner := some e.lane, sealTime := none })
    | .sealed time _ _ =>
      let d := (counter - e.counter).toNat
      if d = 0 then (s, { verdict := .reread, owner := some e.lane, sealTime := some time })
      else if d = 65535 then (s, { verdict := .rereadUnwritten, owner := some e.lane, sealTime := some time })
      else if d ≤ 32767 then
        ({ s with table := s.table.put (e.overlay l c counter) }, { verdict := .new, owner := none, sealTime := none })
      else if strict then (s.latch .suspectSeen, { verdict := .suspectHeld, owner := none, sealTime := none })
      else
        (State.latch { s with table := s.table.put (e.overlay l c counter) } .suspectSeen,
          { verdict := .suspect, owner := none, sealTime := none })

/-- A SEALED entry as its previous part kept it (R47). -/
def SealedPart.restore (p : SealedPart) (id : TagId) : Passage :=
  { tagId := id, lane := p.lane, counter := p.counter, body := .sealed p.sealTime p.expiry p.number }

/-- The release call (R47): the claim is removed, or its previous part restored while that part's expiry tick has not been
reached. -/
def State.releaseClaim (s : State) (l : LaneNo) (c : CtxNo) : State :=
  match s.table.claimOf l c with
  | none => s
  | some e =>
    match e.body with
    | .claimed _ (some p) =>
      if p.expiry ≤ s.now then { s with table := s.table.remove e.tagId }
      else { s with table := s.table.put (p.restore e.tagId) }
    | _ => { s with table := s.table.remove e.tagId }

/-- The seal call (R50): the context's claim becomes SEALED with the record counter and the seconds of the record time; W
is the suppression window standing at the completion. -/
def State.sealClaim (s : State) (l : LaneNo) (c : CtxNo) (counter : Counter) (seconds : Seconds) : State :=
  match s.table.claimOf l c with
  | none => s
  | some e =>
    let count := s.table.sealCount + 1
    let t := s.table.put
      { e with counter := counter, body := .sealed seconds (s.now + s.config.items.window.toNat * 1024) count }
    { s with table := { t with sealCount := count } }

/-- What QUERY_PASSAGE reports of an entry (R59). -/
def Passage.report (e : Passage) (now : Nat) : PassageReport :=
  match e.body with
  | .sealed time expiry _ =>
    { claimed := false, lane := e.lane, counter := e.counter, sealTime := some time,
      secondsLeft := some ((expiry - now) / 1024), previous := none }
  | .claimed _ p =>
    { claimed := true, lane := e.lane, counter := e.counter, sealTime := none, secondsLeft := none,
      previous := p.map SealedPart.counter }

/-- ENTRY_EXPIRY (R54): the expiry event arrives when the count has reached the expiry tick of a SEALED entry, which is
then removed; otherwise no event arrives and nothing changes (log entry 9). -/
def execEntryExpiry (id : TagId) (s : State) : Host.Outcome State Fault Refusal :=
  match s.table.find id with
  | some e =>
    match e.body with
    | .sealed _ expiry _ => if expiry ≤ s.now then .next { s with table := s.table.remove id } else .next s
    | .claimed _ _ => .next s
  | none => .next s

end Sys2Proof.Machine
end

