-- ==== Sys2Proof/Machine/Slots.lean ====
section
/-! DEFINITION. The slot table (Chapter 3): activation and expiry (R72), the current signing generation (R78), master selection
(R76) and signing selection (R79, R80). -/

namespace Sys2Proof.Machine

/-! ### Activation and expiry -/

/-- Whether an expiry time has been reached at seconds `sec`. -/
def expiryReached (e : Option Seconds) (sec : Seconds) : Bool :=
  match e with
  | none => false
  | some e => decide (e ≤ sec)

/-- R72 steps 1 and 2 for one slot. -/
def Slot.evaluated (sl : Slot) (sec : Seconds) : Slot :=
  match sl.body with
  | .held .staged d =>
    if d.activation ≤ sec then
      { sl with body := .held (if expiryReached d.expiry sec then .expired else .active) d }
    else sl
  | .held .active d => if expiryReached d.expiry sec then { sl with body := .held .expired d } else sl
  | _ => sl

/-- A key that is a record key of the home issuer; a home issuer of 0 is none (R67, R78). -/
def KeyData.isHomeRecord (d : KeyData) (home : Byte) : Bool := home != 0 && d.role == .record && d.issuer == home

/-- Whether a slot holds a record key of the home issuer in a given state. -/
def Slot.homeRecordIn (sl : Slot) (home : Byte) (st : HeldState) : Bool :=
  match sl.body with
  | .held st' d => st' == st && d.isHomeRecord home
  | .empty => false

/-- Whether some record key of the home issuer is ACTIVE. -/
def State.homeActive (s : State) : Bool :=
  (List.finRange 24).any fun n => s.slots[n].homeRecordIn s.config.items.home .active

/-- The slots whose state an evaluation at the wall time changes, in slot order. -/
def State.evaluationChanges (s : State) : List SlotNo :=
  (List.finRange 24).filter fun n => (s.slots[n].evaluated s.clock.seconds).body != s.slots[n].body

/-- The slot table after an evaluation at the wall time: every slot treated in one step (R72). -/
def State.evaluateSlots (s : State) : State :=
  { s with slots := Vector.ofFn fun n : SlotNo => s.slots[n].evaluated s.clock.seconds }

/-- Whether an evaluation has made a record key of the home issuer EXPIRED and left none ACTIVE (R81). -/
def State.overrunAfter (s : State) (changed : List SlotNo) : Bool :=
  (changed.any fun n => s.slots[n].homeRecordIn s.config.items.home .expired) && !s.homeActive

/-- The activation and expiry evaluation (R72): each change requests a write of the slot's record (R73), and KEY_OVERRUN
is considered (R81). It runs while TIME_VALID holds. The current signing generation is formed by the caller. -/
def State.evaluate (s : State) : State :=
  if s.clock.timeValid then
    let changed := s.evaluationChanges
    let t := changed.foldl (fun t n => t.requestStore (.writeSlot n)) s.evaluateSlots
    if s.evaluateSlots.overrunAfter changed then t.latch .keyOverrun else t
  else s

/-! ### The current signing generation -/

/-- The record keys of the home issuer in a state, with their slots, in slot order. -/
def State.homeRecords (s : State) (st : HeldState) : List (SlotNo × KeyData) :=
  (List.finRange 24).filterMap fun n =>
    match s.slots[n].body with
    | .held st' d => if st' == st && d.isHomeRecord s.config.items.home then some (n, d) else none
    | .empty => none

/-- The ACTIVE record key of the home issuer with the highest generation (R78, R79); of two of one generation, which R64 does not
have, the lower slot (DESIGN CHOICE, log entry 27). -/
def State.activeSigner (s : State) : Option (SlotNo × KeyData) :=
  bestOf (fun a b => decide (b.2.generation < a.2.generation)) (s.homeRecords .active)

/-- The current signing generation as R78 forms it. -/
def State.formSigning (s : State) : Option Gen := s.activeSigner.map fun x => x.2.generation

/-- The current signing generation is formed again; SIGNING_CHANGED is added to each enabled lane if it differs (R78). -/
def State.reformSigning (s : State) : State :=
  if s.formSigning = s.signing then s else State.signingChangedAll { s with signing := s.formSigning }

/-! ### Selection -/

/-- Whether a slot holds an issuer's tag master key of a generation in a state that master selection finds (R76). -/
def Slot.foundAsMaster (sl : Slot) (issuer : Byte) (g : Gen) : Bool :=
  match sl.body with
  | .held st d =>
    d.issuer == issuer && d.role == .tagMaster && d.generation == g
      && (st == .staged || st == .active || st == .expired)
  | .empty => false

/-- Master selection (R76): the slot selected, or the refusal. R64 has at most one slot of one issuer, role and generation; where
two stand after a first write that failed and left the new content (R174, R65), the lower slot is the one found (DESIGN
CHOICE, log entry 27). -/
def masterSelection (slots : Vector Slot 24) (issuer : Byte) (m g : Gen) : Except Code SlotNo :=
  if g < m then .error .oldGeneration
  else
    match (List.finRange 24).find? fun n => slots[n].foundAsMaster issuer g with
    | none => .error .unknownGeneration
    | some n =>
      match slots[n].state with
      | .staged => .error .generationPending
      | .expired => .error .generationExpired
      | _ => .ok n

/-- A signing selection (R79): the slot, its key and generation, and whether it is a holdover. -/
structure Signer where
  slot : SlotNo
  key : Block
  generation : Gen
  holdover : Bool
  deriving DecidableEq, Repr

/-- Whether an expired key is within holdover: s < E + 60 × H, formed without wrap (R80). -/
def withinHoldover (d : KeyData) (sec : Seconds) (h : BitVec 16) : Bool :=
  match d.expiry with
  | none => false
  | some e => decide (sec.toNat < e.toNat + 60 * h.toNat)

/-- The order of holdover candidates: the latest E, then the higher generation (R80). -/
def laterExpiry (a b : SlotNo × KeyData) : Bool :=
  let ea := (a.2.expiry.getD 0).toNat
  let eb := (b.2.expiry.getD 0).toNat
  decide (eb < ea) || (eb == ea && decide (b.2.generation < a.2.generation))

/-- The holdover selection (R80); of two of one expiry and generation, which R64 does not have, the lower slot (DESIGN CHOICE, log
entry 27). -/
def State.holdoverSigner (s : State) : Option (SlotNo × KeyData) :=
  bestOf laterExpiry
    ((s.homeRecords .expired).filter fun x => withinHoldover x.2 s.clock.seconds s.config.items.holdover)

/-- The signing selection (R79). -/
def State.signingSelection (s : State) : Option Signer :=
  match s.activeSigner with
  | some (n, d) => some { slot := n, key := d.key, generation := d.generation, holdover := false }
  | none =>
    if s.clock.timeValid then
      s.holdoverSigner.map fun x =>
        { slot := x.1, key := x.2.key, generation := x.2.generation, holdover := true }
    else none

/-- SECOND_EVENT (R72, R138): a second event that the fraction wrap has raised is taken. The seconds have advanced in the
same fraction tick (R138); while TIME_VALID holds, and once the slot records of this start-up are loaded (R152), the slot
table evaluates and the current signing generation is formed again. With no second event raised nothing changes (log
entries 7 and 9). -/
def execSecondEvent (s : State) : Host.Outcome State Fault Refusal :=
  if s.clock.secondEvents = 0 then .next s
  else
    let t := { s with clock := { s.clock with secondEvents := s.clock.secondEvents - 1 } }
    if t.loaded && t.clock.timeValid then .next t.evaluate.reformSigning.driveAlerts else .next t

end Sys2Proof.Machine
end

