-- ==== Sys2Proof/Machine/Routes.lean ====
section
/-! DEFINITION. The route table (Chapter 4): matching (R91), specificity (R92) and the route result (R93). -/

namespace Sys2Proof.Machine

/-- Whether a tag ID matches an entry: every cared bit agrees (R91). -/
def Route.matchesTag (r : Route) (id : TagId) : Bool := r.enabled && (id ^^^ r.compare) &&& ~~~r.mask == 0

/-- The number of cared bits of an entry (R92). -/
def Route.specificity (r : Route) : Nat := (List.range 48).countP fun i => !r.mask.getLsbD i

/-- A route result (R93): the flags, and the issuer with the minimum generation when an issuer route matched. -/
structure RouteResult where
  deny : Bool
  watch : Bool
  strict : Bool
  issuer : Option (Byte × Gen)
  deriving DecidableEq, Repr

/-- The entries a tag ID matches, in index order. -/
def matchingRoutes (routes : Vector Route 32) (id : TagId) : List Route :=
  ((List.finRange 32).map fun i => routes[i]).filter fun r => r.matchesTag id

/-- The issuer route chosen: of the matching entries with an issuer the one with the highest specificity, of those the
one with the lowest index (R93). -/
def issuerRoute (rs : List Route) : Option Route :=
  bestOf (fun a b => decide (b.specificity < a.specificity)) (rs.filter fun r => r.issuer != 0)

/-- The route lookup (R93). -/
def routeLookup (routes : Vector Route 32) (id : TagId) : RouteResult :=
  let rs := matchingRoutes routes id
  { deny := rs.any Route.deny, watch := rs.any Route.watch, strict := rs.any Route.strict,
    issuer := (issuerRoute rs).map fun r => (r.issuer, r.minGen) }

end Sys2Proof.Machine
end

