-- ==== Sys2Proof/Machine/Contexts.lean ====
section
/-! DEFINITION. How contexts end (R5, R6), and the treatments that reach all the contexts of a lane: disable (R30), link down
(R32), leaving service (R34) and the withdrawal of a master key (R29). -/

namespace Sys2Proof.Machine

/-- The end cause a pending end gives (R6). -/
def PendingEnd.cause : PendingEnd → EndCause
  | .dropped => .dropped
  | .expired => .expired
  | .revoked => .revoked
  | .laneReset => .laneReset

/-- The master slot reference, present in OPENING, OPENED and PROVING (R2). -/
def CtxBody.master : CtxBody → Option SlotNo
  | .opening _ m => some m
  | .opened _ m _ => some m
  | .proving _ m _ => some m
  | _ => none

/-- Whether a context holds a claim: it is PROVED or SEALING (R3). -/
def CtxBody.hasClaim : CtxBody → Bool
  | .proved _ _ _ => true
  | .sealing _ _ _ => true
  | _ => false

/-- What an occupancy holds. -/
def CtxBody.occupancy : CtxBody → Option Occupancy
  | .free => none
  | .opening o _ => some o
  | .opened o _ _ => some o
  | .proving o _ _ => some o
  | .proved o _ _ => some o
  | .sealing o _ _ => some o

/-- R5 steps 3 to 5: the fields and the pending end become absent, the state FREE, the end cause is recorded, and EXPIRED or
REVOKED adds a CONTEXT_LOST notice. -/
def State.freeContext (s : State) (l : LaneNo) (c : CtxNo) (cause : EndCause) : State :=
  let ticket := (s.ctx l c).ticket
  let t := s.onCtx l c fun x => { x with body := .free, pendingEnd := none, endCause := cause }
  match cause with
  | .expired => t.addLost l c { ticket := ticket, cause := .expired }
  | .revoked => t.addLost l c { ticket := ticket, cause := .revoked }
  | _ => t

/-- A context ends (R5): the master reference is released, then the claim, then the record is freed. -/
def State.endContext (s : State) (l : LaneNo) (c : CtxNo) (cause : EndCause) : State :=
  let b := (s.ctx l c).body
  let t := match b.master with
    | some n => s.release n
    | none => s
  let u := if b.hasClaim then t.releaseClaim l c else t
  u.freeContext l c cause

/-- A cause is recorded as the pending end (R6): LANE_RESET always, another cause when none is present. -/
def State.recordPending (s : State) (l : LaneNo) (c : CtxNo) (p : PendingEnd) : State :=
  s.onCtx l c fun x =>
    { x with pendingEnd := if p = .laneReset then some p else x.pendingEnd.or (some p) }

/-- An ending from outside a job reaches a context (R5, R6): a FREE context is left, a context whose job is in flight takes
the cause as its pending end, any other ends at once. -/
def State.reachEnd (s : State) (l : LaneNo) (c : CtxNo) (p : PendingEnd) : State :=
  if (s.ctx l c).body = .free then s
  else if (s.ctx l c).inFlight then s.recordPending l c p
  else s.endContext l c p.cause

/-- At a job's completion the pending end is applied to a context the completion has left open; a context the completion
has ended keeps that ending (R6). -/
def State.applyPending (s : State) (l : LaneNo) (c : CtxNo) : State :=
  match (s.ctx l c).pendingEnd with
  | none => s
  | some p => if (s.ctx l c).body = .free then s else s.endContext l c p.cause

/-- Each context of a lane is reached by LANE_RESET, in context order. -/
def State.resetContexts (s : State) (l : LaneNo) : State :=
  (List.finRange 3).foldl (fun s c => s.reachEnd l c .laneReset) s

/-- SET_LANE disables a lane (R30). -/
def State.disableLane (s : State) (l : LaneNo) : State :=
  ((s.answerWaiting l (fun _ => true) (.code .laneOff)).resetContexts l).addServiceChanged l

/-- A lane when the module leaves SERVING for SEED_WAIT (R34). -/
def State.leaveServiceLane (s : State) (l : LaneNo) : State :=
  ((s.answerWaiting l (fun _ => true) (.code .seedRequired)).resetContexts l).addServiceChanged l

/-- The module leaves SERVING for SEED_WAIT (R34, R157). -/
def State.leaveService (s : State) : State :=
  (List.finRange 4).foldl (fun s l => s.leaveServiceLane l) { s with service := .seedWait }

/-- The module enters SERVING: SERVICE_CHANGED is added to every lane (R157, R182). -/
def State.enterServing (s : State) : State := State.serviceChangedAll { s with service := .serving }

/-- A lane's link goes DOWN (R191 steps 1 and 2, R32 steps 1 to 3 and 6): waiting and answered entries leave the queue, a
running entry is marked to be discarded, the answer queue is emptied with the answer in transmission cut off, and the
CONTEXT_LOST items are removed. -/
def Lane.cleared (ln : Lane) : Lane :=
  { ln with
    linkUp := false
    linkDeadline := none
    queue := (ln.queue.filter fun e => e.phase == .running).map fun e => { e with discard := true }
    port := ln.port.cutOff
    notices := { ln.notices with lost := Vector.replicate 3 none } }

/-- The link expiry of a lane port (R191, R32). The lane is cleared, its contexts are reached by LANE_RESET, and LANE_DOWN
is latched. No ending with cause LANE_RESET adds a CONTEXT_LOST item, so removing the items first leaves the same
set. -/
def State.linkDown (s : State) (l : LaneNo) : State :=
  ((s.onLane l Lane.cleared).resetContexts l).latch (.laneDown l)

/-- Whether a context is PROVING with a reference to a slot. -/
def CtxBody.provingOn (b : CtxBody) (n : SlotNo) : Bool :=
  match b with
  | .proving _ m _ => m == n
  | _ => false

/-- The withdrawal of a master key reaches one context (R29): OPENED ends REVOKED, OPENING with its job running takes
REVOKED as its pending end, PROVING whose entry waited (and has been answered) ends REVOKED; other contexts are not
affected. -/
def State.withdrawContext (s : State) (n : SlotNo) (l : LaneNo) (c : CtxNo) : State :=
  match (s.ctx l c).body with
  | .opened _ m _ => if m = n then s.endContext l c .revoked else s
  | .opening _ m => if m = n ∧ (s.ctx l c).inFlight then s.recordPending l c .revoked else s
  | .proving _ m _ => if m = n ∧ ¬ (s.ctx l c).inFlight then s.endContext l c .revoked else s
  | _ => s

/-- The withdrawal of a master key on one lane (R29): waiting PROVE entries of contexts naming the slot are answered
KEY_WITHDRAWN in queue order, then the contexts are reached. -/
def State.withdrawLane (s : State) (n : SlotNo) (l : LaneNo) : State :=
  let t := s.answerWaiting l (fun e => (s.ctx l e.ctx).body.provingOn n) (.code .keyWithdrawn)
  (List.finRange 3).foldl (fun t c => t.withdrawContext n l c) t

/-- The contexts naming a withdrawn tag master slot (R29). -/
def State.withdrawMaster (s : State) (n : SlotNo) : State :=
  (List.finRange 4).foldl (fun s l => s.withdrawLane n l) s

end Sys2Proof.Machine
end

