-- ==== Sys2Proof/Machine/Arbiter.lean ====
section
/-! DEFINITION. The arbiter of the key function unit (R115 to R118) and the start of the jobs (R15, R20, R119). -/

namespace Sys2Proof.Machine

/-- A waiting entry whose job is of class STEP (R114). -/
def Entry.isStep (e : Entry) : Bool := e.phase == .waiting && e.req.kind != .openReq

/-- A waiting entry whose job is of class ADMIT (R114). -/
def Entry.isAdmit (e : Entry) : Bool := e.phase == .waiting && e.req.kind == .openReq

/-- The oldest STEP candidate of a lane (R117). -/
def State.stepCandidate (s : State) (l : LaneNo) : Option Entry := s.lanes[l].queue.find? Entry.isStep

/-- The oldest ADMIT candidate of a lane: none while the ADMIT hold is set (R112, R114). -/
def State.admitCandidate (s : State) (l : LaneNo) : Option Entry :=
  if s.kfu.admitHold then none else s.lanes[l].queue.find? Entry.isAdmit

/-- The order in which a choice looks at the lanes (R117). -/
def laneOrder (mode : ArbMode) (pointer : LaneNo) : List LaneNo :=
  match mode with
  | .rotating => [pointer, pointer + 1, pointer + 2, pointer + 3]
  | .fixedUp => [0, 1, 2, 3]
  | .fixedDown => [3, 2, 1, 0]

/-- The lane selected with its candidate. -/
def selectLane (order : List LaneNo) (cand : LaneNo → Option Entry) : Option (LaneNo × Entry) :=
  order.findSome? fun l => (cand l).map fun e => (l, e)

/-- A choice of the arbiter. -/
inductive Choice where
  | step (l : LaneNo) (e : Entry)
  | admitting (l : LaneNo) (e : Entry)
  | load (req : LoadReq)
  deriving DecidableEq, Repr

/-- The wait after which a MAINT job is promoted: 256 ticks, 250 ms (R116). -/
def promotionTicks : Nat := 256

/-- The arbiter's choice (R116, R117), `none` when there is no candidate. -/
def State.choose (s : State) : Option Choice :=
  match selectLane (laneOrder s.config.items.mode s.kfu.stepPointer) s.stepCandidate with
  | some (l, e) => some (.step l e)
  | none =>
    let admitting := (selectLane (laneOrder s.config.items.mode s.kfu.admitPointer) s.admitCandidate).map
      fun x => Choice.admitting x.1 x.2
    match s.station.load with
    | none => admitting
    | some (req, queued) =>
      if promotionTicks ≤ s.now - queued then some (.load req) else admitting.or (some (.load req))

/-- The entry with a serial leaves WAITING for RUNNING, and its context's job-in-flight mark is set (R119). -/
def State.setRunning (s : State) (l : LaneNo) (e : Entry) : State :=
  s.onLane l fun ln =>
    { ln.onCtx e.ctx fun x => { x with inFlight := true } with
      queue := ln.queue.map fun q => if q.serial = e.serial then { q with phase := .running } else q }

/-- A job goes in flight (R114). -/
def State.setJob (s : State) (j : Job) : State := { s with kfu := { s.kfu with job := some j } }

/-- An entry answered at its job's start, without passes (R15, R20). -/
def State.answerAtStart (s : State) (l : LaneNo) (e : Entry) (c : Code) : State :=
  s.answerWaiting l (fun q => q.serial == e.serial) (.code c)

/-- A waiting entry whose context is not in the state its kind has while it waits. No run reaches this (R3, R8): the entry
leaves the queue. -/
def State.discardEntry (s : State) (l : LaneNo) (e : Entry) : State :=
  s.onLane l fun ln => { ln with queue := ln.queue.filter fun q => q.serial != e.serial }

/-- An OPEN job starts (R15): the master slot named by the context is checked. A slot that is neither ACTIVE nor EXPIRED
is taken as WITHDRAWN: a slot with a reference is in no other state (R83). -/
def State.startOpen (s : State) (l : LaneNo) (e : Entry) : State :=
  match (s.ctx l e.ctx).body with
  | .opening o m =>
    match s.slots[m].body with
    | .held .active d => (s.setRunning l e).setJob (.openJob l e.ctx d.key o.tagId o.generation o.issuer)
    | .held .expired _ => (s.answerAtStart l e .generationExpired).endContext l e.ctx .failed
    | _ => (s.answerAtStart l e .keyWithdrawn).endContext l e.ctx .revoked
  | _ => s.discardEntry l e

/-- A PROVE job starts (R119). -/
def State.startProve (s : State) (l : LaneNo) (e : Entry) (resp : Mac) : State :=
  match (s.ctx l e.ctx).body with
  | .proving o _ p =>
    (s.setRunning l e).setJob (.proveJob l e.ctx p.tagKey p.challenge o.nonce o.counter o.tagId resp)
  | _ => s.discardEntry l e

/-- A SEAL job starts (R20, R79, R81): the signing selection is made; with none the entry is answered NO_SIGNING_KEY and
the context returns to PROVED. -/
def State.startSeal (s : State) (l : LaneNo) (e : Entry) (cls : BitVec 4) (ref : BitVec 16) : State :=
  match (s.ctx l e.ctx).body with
  | .sealing o p v =>
    match s.signingSelection with
    | none => (s.answerAtStart l e .noSigningKey).onCtx l e.ctx fun x => { x with body := .proved o p v }
    | some g =>
      let t := ((s.reference g.slot).setRunning l e).setJob (.sealJob l e.ctx g.slot g.key g.generation g.holdover cls ref)
      if g.holdover then t.latch .keyOverrun else t
  | _ => s.discardEntry l e

/-- The job of a waiting entry starts. -/
def State.startEntry (s : State) (l : LaneNo) (e : Entry) : State :=
  match e.req with
  | .openReq => s.startOpen l e
  | .proveReq r => s.startProve l e r
  | .sealReq cls ref => s.startSeal l e cls ref

/-- The pointer after a lane is selected: it moves in ROTATING mode only (R117). -/
def movedPointer (mode : ArbMode) (pointer l : LaneNo) : LaneNo :=
  if mode = .rotating then l + 1 else pointer

/-- The job chosen starts at once (R115, R119). -/
def State.startChoice (s : State) : Choice → State
  | .step l e =>
    State.startEntry
      { s with kfu := { s.kfu with stepPointer := movedPointer s.config.items.mode s.kfu.stepPointer l } } l e
  | .admitting l e =>
    State.startEntry
      { s with kfu := { s.kfu with admitPointer := movedPointer s.config.items.mode s.kfu.admitPointer l } } l e
  | .load req =>
    State.setJob { s with station := { s.station with load := none } } (.loadJob req s.kfu.transportKey)

/-- Choices made one after another while the unit is free and has a candidate: a job that ends at its start leaves the
unit free, and the next choice is made (R115, R119). -/
def State.arbitrateFor : Nat → State → State
  | 0, s => s
  | n + 1, s =>
    if s.kfu.job.isSome then s
    else
      match s.choose with
      | none => s
      | some ch => (s.startChoice ch).arbitrateFor n

/-- The number of waiting entries of all lanes. -/
def State.waitingCount (s : State) : Nat :=
  ((List.finRange 4).map fun l => s.lanes[l].queue.countP fun e => e.phase == .waiting).sum

/-- The arbiter makes its choice, if the unit is free (R115). Each choice starts a job or ends a waiting entry, so one more
than the waiting entries are enough. -/
def State.arbitrate (s : State) : State := s.arbitrateFor (s.waitingCount + 1)

end Sys2Proof.Machine
end

