-- ==== Sys2Proof/Machine/Jobs.lean ====
section
/-! DEFINITION. The completions of the OPEN, PROVE and SEAL jobs (R15, R17, R21, R111, R112, R120, R125). -/

namespace Sys2Proof.Machine

/-- The unit becomes free (R120). -/
def State.freeUnit (s : State) : State := { s with kfu := { s.kfu with job := none } }

/-- The job-in-flight mark of a context is cleared. -/
def State.clearMark (s : State) (l : LaneNo) (c : CtxNo) : State := s.onCtx l c fun x => { x with inFlight := false }

/-- The boot count a challenge is formed under; an absent one is not used (R110), and stands free here. -/
def Kfu.bootCount (k : Kfu) : BitVec 32 := k.boot.getD Config.absentBootCount

/-- The last value of the challenge sequence and of the boot count. -/
def lastCount : BitVec 32 := 0xFFFFFFFF

/-- The challenge sequence advances at an OPEN completion (R111); an exhaustion below the last boot count moves to the next
one, requests its write and sets the ADMIT hold (R112). -/
def State.advanceSequence (s : State) : State :=
  if s.kfu.sequence ≠ lastCount then { s with kfu := { s.kfu with sequence := s.kfu.sequence + 1 } }
  else if s.kfu.bootCount = lastCount then { s with kfu := { s.kfu with sequence := 0 } }
  else
    let b := s.kfu.bootCount + 1
    State.requestStore { s with kfu := { s.kfu with boot := some b, sequence := 0, admitHold := true } } (.writeBoot b)

/-- Whether an OPEN completion exhausts the sequence under the last boot count, so that the module leaves SERVING
(R112). -/
def Kfu.lastExhaustion (k : Kfu) : Bool := k.sequence == lastCount && k.bootCount == lastCount

/-- The OPEN completion applied to its context (R15, R6): the tag key and challenge are recorded, the answer is produced
(KEY_WITHDRAWN when the pending end is REVOKED), and the pending end is applied. -/
def State.applyOpen (s : State) (l : LaneNo) (c : CtxNo) (key : Block) (ch : Mac) : State :=
  match (s.ctx l c).body with
  | .opening o m =>
    let t := (s.clearMark l c).onCtx l c fun x => { x with body := .opened o m { tagKey := key, challenge := ch } }
    let reply : Reply :=
      if (s.ctx l c).pendingEnd = some .revoked then .code .keyWithdrawn else .opened c (s.ctx l c).ticket ch
    (t.answerRunning l c reply).applyPending l c
  | _ => s

/-- OPEN_COMPLETION (R15, R104, R105, R111, R112, R120). With no OPEN job in flight no completion arrives and nothing
changes (log entry 9). -/
def execOpenCompletion (s : State) : Host.Outcome State Fault Refusal :=
  match s.kfu.job with
  | some (.openJob l c masterKey tagId generation issuer) =>
    let key := derive masterKey tagId generation issuer
    let ch := challenge s.kfu.challengeKey s.kfu.bootCount s.kfu.sequence l c
    let t := s.freeUnit.advanceSequence.applyOpen l c key ch
    let u := if s.kfu.lastExhaustion then t.leaveService else t
    .next u.arbitrate.driveAlerts
  | _ => .next s

/-- The claim verdict a classification leaves in the context, for the two verdicts that make a claim (R17, R38). -/
def Verdict.claim : Verdict → Option ClaimVerdict
  | .new => some .new
  | .suspect => some .suspect
  | _ => none

/-- The SUSPECT flag of a PROVE answer (R18). -/
def Verdict.suspectFlag : Verdict → Bool
  | .suspect => true
  | .suspectHeld => true
  | _ => false

/-- The answer of a PROVE whose response matched (R18). -/
def Classified.reply (r : Classified) (watch : Bool) : Reply :=
  .verdict r.verdict watch r.verdict.suspectFlag r.owner r.sealTime

/-- A PROVE completion whose response matched (R17, R18): the passage is classified, the answer is produced, and the context
becomes PROVED or ends VERDICT. -/
def State.applyMatch (s : State) (l : LaneNo) (c : CtxNo) (o : Occupancy) (p : TagProof) : State :=
  let r := s.classify l c o.tagId o.counter o.strict
  let t := r.1.answerRunning l c (r.2.reply o.watch)
  match r.2.verdict.claim with
  | some v => (t.onCtx l c fun x => { x with body := .proved o p v }).applyPending l c
  | none => t.freeContext l c .verdict

/-- The PROVE completion applied to its context (R17): the master reference is released in every case. -/
def State.applyProve (s : State) (l : LaneNo) (c : CtxNo) (same : Bool) : State :=
  match (s.ctx l c).body with
  | .proving o m p =>
    let t := (s.clearMark l c).release m
    if same then t.applyMatch l c o p
    else (t.answerRunning l c (.code .authFailed)).freeContext l c .failed
  | _ => s

/-- PROVE_COMPLETION (R17, R106, R120). With no PROVE job in flight nothing changes (log entry 9). -/
def execProveCompletion (s : State) : Host.Outcome State Fault Refusal :=
  match s.kfu.job with
  | some (.proveJob l c key ch nonce counter tagId resp) =>
    .next (s.freeUnit.applyProve l c (response key ch nonce counter tagId == resp)).arbitrate.driveAlerts
  | _ => .next s

/-- The transit record assembled at a SEAL completion (R124 to R133). -/
def State.assemble (s : State) (l : LaneNo) (o : Occupancy) (v : ClaimVerdict) (g : Gen) (holdover : Bool)
    (cls : BitVec 4) (ref : BitVec 16) : TransitRecord :=
  { gantry := s.config.items.gantry, lane := l, seconds := s.clock.seconds, fraction := s.clock.fraction,
    unsynchronised := !s.clock.timeValid, tagId := o.tagId, issuer := o.issuer, counter := o.counter + 1,
    vehicleClass := cls, generation := g, holdover := holdover, suspect := v == .suspect, watch := o.watch,
    readerRef := ref }

/-- The SEAL completion applied to its context (R21): the record and its MAC, the seal of the passage entry, the release of
the signing slot, the end SEALED and the answer. -/
def State.applySeal (s : State) (l : LaneNo) (c : CtxNo) (n : SlotNo) (key : Block) (g : Gen) (holdover : Bool)
    (cls : BitVec 4) (ref : BitVec 16) : State :=
  match (s.ctx l c).body with
  | .sealing o _ v =>
    let r := s.assemble l o v g holdover cls ref
    let t := (s.sealClaim l c r.counter r.seconds).release n
    ((t.clearMark l c).freeContext l c .sealed).answerRunning l c (.record r (recordMac key r))
  | _ => s

/-- SEAL_COMPLETION (R21, R107, R120). With no SEAL job in flight nothing changes (log entry 9). -/
def execSealCompletion (s : State) : Host.Outcome State Fault Refusal :=
  match s.kfu.job with
  | some (.sealJob l c n key g holdover cls ref) =>
    .next (s.freeUnit.applySeal l c n key g holdover cls ref).arbitrate.driveAlerts
  | _ => .next s

end Sys2Proof.Machine
end

