-- ==== Sys2Proof/Machine/Operands.lean ====
section
/-! DEFINITION. The request bodies of Chapter 11 (R201, R202): each reader gives the request's fields, or `none` for a body
that is malformed by the checks of its block (R11 for the lanes, the rule of each station request). -/

namespace Sys2Proof.Machine

/-- A lane's context number from a byte field, `none` above 2 (R11). -/
def ctxNo (n : Nat) : Option CtxNo := if h : n < 3 then some ⟨n, h⟩ else none

structure OpenArgs where
  tagId : TagId
  generation : Gen
  counter : Counter
  nonce : BitVec 32
  deriving DecidableEq, Repr

/-- OPEN, length 14; the tag generation is 1 to 4095 (R11, R201). -/
def readOpen (b : List Byte) : Option OpenArgs :=
  let g : Gen := fieldAt 16 b 6 2
  if b.length = 14 ∧ 1 ≤ g.toNat ∧ g.toNat ≤ 4095 then
    some { tagId := fieldAt 48 b 0 6, generation := g, counter := fieldAt 16 b 8 2, nonce := fieldAt 32 b 10 4 }
  else none

structure ProveArgs where
  ctx : CtxNo
  ticket : BitVec 8
  response : Mac
  deriving DecidableEq, Repr

/-- PROVE, length 10 (R201). -/
def readProve (b : List Byte) : Option ProveArgs :=
  if b.length = 10 then
    (ctxNo (byteAt b 0).toNat).map fun c => { ctx := c, ticket := byteAt b 1, response := fieldAt 64 b 2 8 }
  else none

structure SealArgs where
  ctx : CtxNo
  ticket : BitVec 8
  vehicleClass : BitVec 4
  readerRef : BitVec 16
  deriving DecidableEq, Repr

/-- SEAL, length 4: bits 7 to 6 of the first byte name the context, bits 5 to 0 the vehicle class, at most 15 (R11,
R201). -/
def readSeal (b : List Byte) : Option SealArgs :=
  let first := (byteAt b 0).toNat
  if b.length = 4 ∧ first % 64 ≤ 15 then
    (ctxNo (first / 64)).map fun c =>
      { ctx := c, ticket := byteAt b 1, vehicleClass := BitVec.ofNat 4 (first % 64), readerRef := fieldAt 16 b 2 2 }
  else none

structure DropArgs where
  ctx : CtxNo
  ticket : BitVec 8
  deriving DecidableEq, Repr

/-- DROP, length 2 (R201). -/
def readDrop (b : List Byte) : Option DropArgs :=
  if b.length = 2 then (ctxNo (byteAt b 0).toNat).map fun c => { ctx := c, ticket := byteAt b 1 } else none

/-- POLL and the station requests without a body, length 0 (R201, R202). -/
def readEmpty (b : List Byte) : Option Unit := if b.length = 0 then some () else none

/-- STATUS: the clear mask; bits that name no flag have no effect (R159, R205). -/
def readStatus (b : List Byte) : Option (BitVec 21) := if b.length = 3 then some (fieldAt 21 b 0 3) else none

/-- A value brought to the nearer end of a range (R1, Clamping). -/
def clamp (lo hi v : BitVec 16) : BitVec 16 := if v < lo then lo else if hi < v then hi else v

structure LaneArgs where
  lane : LaneNo
  set : LaneSettings
  clamped : Bool
  deriving DecidableEq, Repr

/-- The link timeout as stored: 0 is off, any other value is clamped to 50 to 5000 ms (R162). -/
def clampTimeout (t : BitVec 16) : BitVec 16 := if t = 0 then 0 else clamp 50 5000 t

/-- SET_LANE with the clamping of R162. -/
def readSetLane (b : List Byte) : Option LaneArgs :=
  let dwell : BitVec 16 := fieldAt 16 b 2 2
  let timeout : BitVec 16 := fieldAt 16 b 4 2
  if h : b.length = 6 ∧ (byteAt b 0).toNat < 4 then
    (enabledOf (byteAt b 1)).map fun e =>
      { lane := ⟨(byteAt b 0).toNat, h.2⟩
        set := { enabled := e, dwell := clamp 10 500 dwell, linkTimeout := clampTimeout timeout }
        clamped := clamp 10 500 dwell != dwell || clampTimeout timeout != timeout }
  else none

structure ConfigArgs where
  items : ConfigItems
  clamped : Bool
  deriving DecidableEq, Repr

/-- SET_CONFIG with the checks and clamping of R164; mask bits that name no flag are stored as 0. -/
def readSetConfig (b : List Byte) : Option ConfigArgs :=
  let window : BitVec 16 := fieldAt 16 b 3 2
  let holdover : BitVec 16 := fieldAt 16 b 5 2
  match modeOf (byteAt b 7), rateOf (byteAt b 11) with
  | some m, some r =>
    if b.length = 12 ∧ byteAt b 2 ≠ 255 then
      some
        { items :=
            { gantry := fieldAt 16 b 0 2, home := byteAt b 2, window := clamp 1 3600 window,
              holdover := clamp 0 1440 holdover, mode := m, mask := fieldAt 21 b 8 3, rate := r }
          clamped := clamp 1 3600 window != window || clamp 0 1440 holdover != holdover }
    else none
  | _, _ => none

/-- RESEED: the boot count value (R167). -/
def readReseed (b : List Byte) : Option (BitVec 32) := if b.length = 4 then some (fieldAt 32 b 0 4) else none

/-- An expiry time of FFFFFFFF hex is none (R61, R198). -/
def expiryOf (e : Seconds) : Option Seconds := if e = 0xFFFFFFFF then none else some e

/-- Whether an expiry time is none or greater than the activation time (R67 row 1). -/
def expiryAfter (a : Seconds) : Option Seconds → Bool
  | none => true
  | some e => decide (a < e)

/-- The fields of LOAD_KEY with the slot number still a byte: the field checks of R67 come before SLOT_RANGE. -/
structure LoadArgs where
  slot : Nat
  issuer : Byte
  role : Role
  generation : Gen
  activation : Seconds
  expiry : Option Seconds
  wrapped : Block
  check : BitVec 32
  deriving DecidableEq, Repr

/-- LOAD_KEY: the length check of R66 and the field checks of R67 row 1. -/
def readLoadKey (b : List Byte) : Option LoadArgs :=
  let g : Gen := fieldAt 16 b 3 2
  let a : Seconds := fieldAt 32 b 5 4
  let e : Option Seconds := expiryOf (fieldAt 32 b 9 4)
  match roleOf (byteAt b 2) with
  | some r =>
    if b.length = 33 ∧ byteAt b 1 ≠ 0 ∧ byteAt b 1 ≠ 255 ∧ 1 ≤ g.toNat ∧ g.toNat ≤ 4095 ∧ expiryAfter a e then
      some
        { slot := (byteAt b 0).toNat, issuer := byteAt b 1, role := r, generation := g, activation := a, expiry := e,
          wrapped := fieldAt 128 b 13 16, check := fieldAt 32 b 29 4 }
    else none
  | none => none

/-- WITHDRAW_KEY, LIST_SLOT and CLEAR_ROUTE carry one byte (R202). -/
def readByte (b : List Byte) : Option Nat := if b.length = 1 then some (byteAt b 0).toNat else none

/-- A slot number, `none` for 24 or more (R66). -/
def slotNo (n : Nat) : Option SlotNo := if h : n < 24 then some ⟨n, h⟩ else none

/-- A route index, `none` for 32 or more (R97). -/
def routeNo (n : Nat) : Option RouteNo := if h : n < 32 then some ⟨n, h⟩ else none

structure RouteArgs where
  index : Nat
  route : Route
  clamped : Bool
  deriving DecidableEq, Repr

/-- SET_ROUTE: the checks of R97 row 1 and the two adjustments of R98. -/
def readSetRoute (b : List Byte) : Option RouteArgs :=
  let flags := byteAt b 1
  let mask : TagId := fieldAt 48 b 8 6
  let minGen : Gen := fieldAt 16 b 15 2
  if b.length = 17 ∧ byteAt b 14 ≠ 255 then
    some
      { index := (byteAt b 0).toNat
        route :=
          { enabled := flags.getLsbD 3, compare := fieldAt 48 b 2 6 &&& ~~~mask, mask := mask, issuer := byteAt b 14,
            minGen := clamp 1 4095 minGen, deny := flags.getLsbD 0, watch := flags.getLsbD 1,
            strict := flags.getLsbD 2 }
        clamped := clamp 1 4095 minGen != minGen }
  else none

/-- QUERY_PASSAGE: the tag ID (R58). -/
def readTagId (b : List Byte) : Option TagId := if b.length = 6 then some (fieldAt 48 b 0 6) else none

/-- SET_TIME: the seconds (R144). -/
def readSetTime (b : List Byte) : Option Seconds := if b.length = 4 then some (fieldAt 32 b 0 4) else none

/-- SET_TRIM: the trim, one byte in two's complement (R142, R196). -/
def readSetTrim (b : List Byte) : Option (BitVec 8) := if b.length = 1 then some (byteAt b 0) else none

end Sys2Proof.Machine
end

