-- ==== Sys2Proof/Machine/Lanes.lean ====
section
/-! DEFINITION. The lane ports and the lane requests (Chapter 1, sections 10.3 and 10.5): the link (R190 to R192), the checks
(R11, R12), OPEN, PROVE, SEAL, DROP and POLL, and the expiry events of contexts and links (R24, R191). -/

namespace Sys2Proof.Machine

/-! ### A valid frame on a lane port -/

/-- The link deadline a valid frame sets (R190): the tick count at its closing flag plus the timeout ticks. With the timeout 0
R190 has the frame set none, and the deadline stands as it was. A link that went DOWN before the loading can hold one from the
loading when such a frame brings it UP, and then still expires at it (DESIGN CHOICE, log entry 34). -/
def State.frameDeadline (s : State) (l : LaneNo) (old : Option Nat) : Option Nat :=
  if (s.settings l).linkTimeout = 0 then old else some (s.now + ticksOf (s.settings l).linkTimeout)

/-- A valid frame at its closing flag: the receiver opens the next frame (R184); a link that was DOWN returns UP with
SERVICE_CHANGED (R192); the link deadline is set (R190). -/
def State.laneFrameArrives (s : State) (l : LaneNo) : State :=
  s.onLane l fun ln =>
    { ln with
      port := { ln.port with rx := Rx.opened }
      linkUp := true
      linkDeadline := s.frameDeadline l ln.linkDeadline
      lastFrame := some s.now
      notices := { ln.notices with serviceChanged := ln.notices.serviceChanged || !ln.linkUp } }

/-- R186 steps 1 and 2 on a lane port: the link, then the answer places. With all 6 held the frame is discarded and FLOOD is
latched (R9); otherwise it is dealt with. -/
def State.laneFrame (s : State) (l : LaneNo) (deal : State → State) : State :=
  let t := s.laneFrameArrives l
  if answerPlaces ≤ t.lanes[l].placesHeld then t.latch (.flood l) else deal t

/-! ### The checks common to the lane requests -/

/-- Checks 1 and 3 of R11 for PROVE and SEAL. -/
def State.laneServiceCheck (s : State) (l : LaneNo) : Option Code :=
  if s.service = .starting then some .notReady
  else if (s.settings l).enabled then none
  else some .laneOff

/-- Checks 1 to 3 of R11 for OPEN. -/
def State.openServiceCheck (s : State) (l : LaneNo) : Option Code :=
  if s.service = .starting then some .notReady
  else if s.service = .seedWait then some .seedRequired
  else if (s.settings l).enabled then none
  else some .laneOff

/-- Whether a context is in the state PROVE requires. -/
def CtxBody.isOpened : CtxBody → Bool
  | .opened _ _ _ => true
  | _ => false

/-- Whether a context is in the state SEAL requires. -/
def CtxBody.isProved : CtxBody → Bool
  | .proved _ _ _ => true
  | _ => false

/-- Context resolution (R12), from the top of its table down; `none` passes. -/
def State.resolve (s : State) (l : LaneNo) (c : CtxNo) (ticket : BitVec 8) (required : CtxBody → Bool) : Option Code :=
  let x := s.ctx l c
  if x.ticket ≠ ticket then some .stale
  else if x.body = .free then
    match x.endCause with
    | .expired => some .expired
    | .revoked => some .keyWithdrawn
    | _ => some .stale
  else if s.lanes[l].inProgress c then some .inProgress
  else if required x.body then none
  else some .wrongState

/-- Whether the lane request queue holds 4 entries (R8, R11 check 6). -/
def State.laneBusy (s : State) (l : LaneNo) : Bool := laneQueueSize ≤ s.lanes[l].queue.length

/-- A new WAITING entry is appended to the lane request queue (R8). -/
def State.appendEntry (s : State) (l : LaneNo) (req : LaneReq) (tag : Byte) (c : CtxNo) : State :=
  s.onLane l fun ln =>
    { ln with
      queue := ln.queue ++
        [{ serial := ln.nextSerial, req := req, tag := tag, ctx := c, phase := .waiting, discard := false }]
      nextSerial := ln.nextSerial + 1 }

/-! ### OPEN -/

/-- The lowest-numbered FREE context of a lane (R14 step 1). -/
def State.freeContextOf (s : State) (l : LaneNo) : Option CtxNo :=
  (List.finRange 3).find? fun c => (s.ctx l c).body == .free

/-- The OPEN take (R14), R4's ticket included. -/
def State.takeOpen (s : State) (l : LaneNo) (tag : Byte) (c : CtxNo) (a : OpenArgs) (issuer : Byte)
    (watch strict : Bool) (n : SlotNo) : State :=
  let o : Occupancy :=
    { tagId := a.tagId, generation := a.generation, counter := a.counter, nonce := a.nonce, issuer := issuer,
      watch := watch, strict := strict, deadline := s.now + ticksOf (s.settings l).dwell }
  (((s.onCtx l c fun x => { x with ticket := x.ticket + 1, body := .opening o n }).reference n).appendEntry l .openReq tag
    c).arbitrate

/-- What the take checks of R13 and R94 find for an OPEN: a refusal, or the issuer, WATCH, STRICT and master slot. -/
def State.openSelection (s : State) (a : OpenArgs) : Except Code (Byte × Bool × Bool × SlotNo) :=
  let r := routeLookup s.routes a.tagId
  if r.deny then .error .denied
  else
    match r.issuer with
    | none => .error .unrouted
    | some (issuer, m) =>
      match masterSelection s.slots issuer m a.generation with
      | .error e => .error e
      | .ok n => .ok (issuer, r.watch, r.strict, n)

/-- OPEN: the checks of R11 in their order, then R13, then the take. -/
def State.openRequest (s : State) (l : LaneNo) (tag : Byte) (body : List Byte) : State :=
  let refuse (c : Code) : State := s.laneReply l LaneKind.openReq.code tag (.code c)
  match s.openServiceCheck l with
  | some c => refuse c
  | none =>
    match readOpen body with
    | none => refuse .malformed
    | some a =>
      if s.laneBusy l then refuse .busy
      else
        match s.freeContextOf l with
        | none => refuse .noContext
        | some c =>
          match s.openSelection a with
          | .error e => refuse e
          | .ok (issuer, watch, strict, n) => s.takeOpen l tag c a issuer watch strict n

/-! ### PROVE and SEAL -/

/-- PROVE (R16): the take makes an OPENED context PROVING. -/
def State.proveRequest (s : State) (l : LaneNo) (tag : Byte) (body : List Byte) : State :=
  let refuse (c : Code) : State := s.laneReply l LaneKind.proveReq.code tag (.code c)
  match s.laneServiceCheck l with
  | some c => refuse c
  | none =>
    match readProve body with
    | none => refuse .malformed
    | some a =>
      match s.resolve l a.ctx a.ticket CtxBody.isOpened with
      | some c => refuse c
      | none =>
        if s.laneBusy l then refuse .busy
        else
          match (s.ctx l a.ctx).body with
          | .opened o m p =>
            ((s.onCtx l a.ctx fun x => { x with body := .proving o m p }).appendEntry l (.proveReq a.response) tag
              a.ctx).arbitrate
          | _ => s

/-- SEAL (R19): the take makes a PROVED context SEALING. -/
def State.sealRequest (s : State) (l : LaneNo) (tag : Byte) (body : List Byte) : State :=
  let refuse (c : Code) : State := s.laneReply l LaneKind.sealReq.code tag (.code c)
  match s.laneServiceCheck l with
  | some c => refuse c
  | none =>
    match readSeal body with
    | none => refuse .malformed
    | some a =>
      match s.resolve l a.ctx a.ticket CtxBody.isProved with
      | some c => refuse c
      | none =>
        if s.laneBusy l then refuse .busy
        else
          match (s.ctx l a.ctx).body with
          | .proved o p v =>
            ((s.onCtx l a.ctx fun x => { x with body := .sealing o p v }).appendEntry l
              (.sealReq a.vehicleClass a.readerRef) tag a.ctx).arbitrate
          | _ => s

/-! ### DROP and POLL -/

/-- An outside ending that answers a waiting entry of the context first (R22, R24): the entry is removed from WAITING with
the answer given, then the ending reaches the context. -/
def State.removeAndEnd (s : State) (l : LaneNo) (c : CtxNo) (p : PendingEnd) (code : Code) : State :=
  (s.answerWaiting l (fun e => e.ctx == c) (.code code)).reachEnd l c p

/-- DROP (R22). -/
def State.dropRequest (s : State) (l : LaneNo) (tag : Byte) (body : List Byte) : State :=
  let reply (s : State) (c : Code) : State := s.laneReply l LaneKind.dropReq.code tag (.code c)
  if s.service = .starting then reply s .notReady
  else
    match readDrop body with
    | none => reply s .malformed
    | some a =>
      if (s.ctx l a.ctx).ticket ≠ a.ticket ∨ (s.ctx l a.ctx).body = .free then reply s .stale
      else reply (s.removeAndEnd l a.ctx .dropped .dropped) .ok

/-- The lowest-numbered context with a CONTEXT_LOST item, with the item (R27). -/
def Notices.firstLost (n : Notices) : Option (CtxNo × Lost) :=
  (List.finRange 3).findSome? fun c => (n.lost[c]).map fun x => (c, x)

/-- The item of highest priority in a notice set, and the set without it (R27). -/
def Notices.take (n : Notices) : Notice × Notices :=
  match n.firstLost with
  | some (c, x) => (.contextLost c x.ticket x.cause, { n with lost := n.lost.set c none })
  | none =>
    if n.serviceChanged then (.serviceChanged, { n with serviceChanged := false })
    else if n.signingChanged then (.signingChanged, { n with signingChanged := false })
    else (.none, n)

/-- The lane state POLL reports: OFF while the lane is disabled and UP otherwise (R27). -/
def State.pollLaneState (s : State) (l : LaneNo) : LaneState := if (s.settings l).enabled then .up else .off

/-- What a POLL of a lane answers (R27). -/
def State.pollReport (s : State) (l : LaneNo) : PollReport :=
  let n := s.lanes[l].notices
  { notice := n.take.1, left := n.take.2.count, service := s.service, lane := s.pollLaneState l,
    timeValid := s.clock.timeValid, signing := s.signing }

/-- POLL (R27). -/
def State.pollRequest (s : State) (l : LaneNo) (tag : Byte) (body : List Byte) : State :=
  let reply (s : State) (r : Reply) : State := s.laneReply l LaneKind.pollReq.code tag r
  if s.service = .starting then reply s (.code .notReady)
  else
    match readEmpty body with
    | none => reply s (.code .malformed)
    | some _ =>
      reply (s.onLane l fun ln => { ln with notices := ln.notices.take.2 }) (.poll (s.pollReport l))

/-! ### The commands -/

/-- A command that reaches the module only while main power is present (R151): with main power off nothing happens (log
entry 9). -/
def State.powered (s : State) (f : State → State) : Host.Outcome State Fault Refusal :=
  if s.power then .next (f s).driveAlerts else .next s

/-- OPEN (R11, R13, R14, R186). -/
def execOpen (l : LaneNo) (tag : Byte) (body : List Byte) (s : State) : Host.Outcome State Fault Refusal :=
  s.powered fun s => s.laneFrame l fun t => t.openRequest l tag body

/-- PROVE (R11, R12, R16, R186). -/
def execProve (l : LaneNo) (tag : Byte) (body : List Byte) (s : State) : Host.Outcome State Fault Refusal :=
  s.powered fun s => s.laneFrame l fun t => t.proveRequest l tag body

/-- SEAL (R11, R12, R19, R186). -/
def execSeal (l : LaneNo) (tag : Byte) (body : List Byte) (s : State) : Host.Outcome State Fault Refusal :=
  s.powered fun s => s.laneFrame l fun t => t.sealRequest l tag body

/-- DROP (R22, R186). -/
def execDrop (l : LaneNo) (tag : Byte) (body : List Byte) (s : State) : Host.Outcome State Fault Refusal :=
  s.powered fun s => s.laneFrame l fun t => t.dropRequest l tag body

/-- POLL (R27, R186). -/
def execPoll (l : LaneNo) (tag : Byte) (body : List Byte) (s : State) : Host.Outcome State Fault Refusal :=
  s.powered fun s => s.laneFrame l fun t => t.pollRequest l tag body

/-- Whether the monotonic tick count has reached the deadline of a context that is not FREE (R24). -/
def State.deadlineReached (s : State) (l : LaneNo) (c : CtxNo) : Bool :=
  match (s.ctx l c).body.occupancy with
  | none => false
  | some o => decide (o.deadline ≤ s.now)

/-- CONTEXT_EXPIRY (R24): when the count has reached the deadline tick of a context that is not FREE, a waiting entry is
answered EXPIRED and the context ends EXPIRED, or takes EXPIRED as its pending end while its job runs. Otherwise no event
arrives and nothing changes (log entry 9). -/
def execContextExpiry (l : LaneNo) (c : CtxNo) (s : State) : Host.Outcome State Fault Refusal :=
  if s.deadlineReached l c then .next (s.removeAndEnd l c .expired .expired).driveAlerts else .next s

/-- Whether a lane's link deadline has been reached while its link is UP (R191). -/
def State.linkDeadlineReached (s : State) (l : LaneNo) : Bool :=
  match s.lanes[l].linkUp, s.lanes[l].linkDeadline with
  | true, some t => decide (t ≤ s.now)
  | _, _ => false

/-- LINK_EXPIRY (R191, R32): the link goes DOWN and the lane is cleared. Without a deadline reached on an UP link no event
arrives and nothing changes (log entry 9). -/
def execLinkExpiry (l : LaneNo) (s : State) : Host.Outcome State Fault Refusal :=
  if s.linkDeadlineReached l then .next (s.linkDown l).driveAlerts else .next s

end Sys2Proof.Machine
end

