-- ==== Sys2Proof/Machine/Station.lean ====
section
/-! DEFINITION. The station requests (Chapters 2, 3, 4, 7 and 8): what each does when it is EXECUTING, the station request queue
(R154 to R156), and the fifteen rows that arrive on the station port. A request's execution gives the new state and its
answer, or no answer while it stays EXECUTING (R156). -/

namespace Sys2Proof.Machine

/-- A state and the answer produced, if any. -/
abbrev Executed := State × Option Reply

/-- A refusal or an outcome alone. -/
def answers (s : State) (c : Code) : Executed := (s, some (.code c))

/-! ### STATUS -/

/-- The lane state STATUS reports (R160): OFF while the lane is disabled, otherwise its link state. -/
def State.laneState (s : State) (l : LaneNo) : LaneState :=
  if (s.settings l).enabled then (if s.lanes[l].linkUp then .up else .down) else .off

/-- The STATUS report (R159, R160): the flags as noted and the real-time conditions. -/
def State.statusReport (s : State) : StatusReport :=
  { flags := s.flags, service := s.service, timeValid := s.clock.timeValid, backupLow := s.clock.backupLow,
    storeBusy := s.store.busy, lanes := Vector.ofFn fun l : LaneNo => s.laneState l,
    entries := s.table.entries.length, boot := s.kfu.boot }

/-- STATUS (R159): the flags are noted, those in the mask cleared, and the answer produced. -/
def State.statusRequest (s : State) (tag : Byte) (body : List Byte) : State :=
  match readStatus body with
  | none => s.stationReply statusKind tag (.code .malformed)
  | some mask => (s.clearFlags mask).stationReply statusKind tag (.status s.statusReport)

/-! ### Lane settings and configuration -/

/-- The settings of a lane are replaced in the working configuration (R163). -/
def State.setSettings (s : State) (l : LaneNo) (set : LaneSettings) : State :=
  { s with config := { s.config with lanes := s.config.lanes.set l set } }

/-- A changed enabled state acts on the lane (R30, R31); an unchanged one does not. -/
def State.applyEnabled (s : State) (l : LaneNo) (before after : Bool) : State :=
  if before = after then s
  else if after then s.addServiceChanged l
  else s.disableLane l

/-- The tick from which a new link timeout is counted (R194): the last valid frame since the start-up, else the loading of
the configuration. -/
def State.lastFrameTick (s : State) (l : LaneNo) : Nat := s.lanes[l].lastFrame.getD s.loadTick

/-- A new link timeout is applied to an UP link (R194), and a deadline already reached takes the link down at once. -/
def State.applyTimeout (s : State) (l : LaneNo) (timeout : BitVec 16) : State :=
  if s.lanes[l].linkUp then
    let t := s.onLane l fun ln =>
      { ln with linkDeadline := if timeout = 0 then none else some (s.lastFrameTick l + ticksOf timeout) }
    if t.linkDeadlineReached l then t.linkDown l else t
  else s

/-- SET_LANE at its execution (R162, R163). -/
def State.runSetLane (s : State) (body : List Byte) : Executed :=
  match readSetLane body with
  | none => answers s .malformed
  | some a =>
    let t := (s.setSettings a.lane a.set).applyEnabled a.lane (s.settings a.lane).enabled a.set.enabled
    (t.applyTimeout a.lane a.set.linkTimeout, some (.lane a.clamped a.lane a.set))

/-- SET_CONFIG at its execution (R164, R165); a changed home issuer forms the current signing generation again (R82). -/
def State.runSetConfig (s : State) (body : List Byte) : Executed :=
  match readSetConfig body with
  | none => answers s .malformed
  | some a =>
    let t := { s with config := { s.config with items := a.items } }
    (if a.items.home = s.config.items.home then t else t.reformSigning, some (.config a.clamped a.items))

/-- The content of the configuration image (R166). -/
def State.image (s : State) : Image := { config := s.config, routes := s.routes, trim := s.clock.trimSet }

/-- SAVE_CONFIG at its execution (R166): the image write is requested, and the request stays EXECUTING. -/
def State.runSaveConfig (s : State) (body : List Byte) : Executed :=
  match readEmpty body with
  | none => answers s .malformed
  | some _ => (s.requestStore (.writeImage s.image), none)

/-- Whether a value passes check 4 of R167. -/
def aboveKnown (known : Option (BitVec 32)) (v : BitVec 32) : Bool :=
  match known with
  | none => true
  | some k => decide (k < v)

/-- RESEED at its execution (R167): the boot record write is requested, and the request stays EXECUTING. -/
def State.runReseed (s : State) (body : List Byte) : Executed :=
  match readReseed body with
  | none => answers s .malformed
  | some v =>
    if s.service = .serving ∨ v = 0 ∨ v = lastCount ∨ ¬ aboveKnown s.station.knownBoot v then answers s .valueRange
    else (s.requestStore (.writeBoot v), none)

/-- RESET at its execution (R169): the answer is produced at once and the request stays EXECUTING until that answer has
been transmitted. -/
def State.runReset (s : State) (tag : Byte) (body : List Byte) : Executed :=
  match readEmpty body with
  | none => answers s .malformed
  | some _ =>
    (State.stationReply
      { s with station :=
          { s.station with
            queue := s.station.queue.map fun e => if e.executing then { e with answered := true } else e } }
      StationKind.reset.code tag (.code .ok), none)

/-! ### Key slots -/

/-- Whether another occupied slot holds the same issuer, role and generation (R64, R67 check 4). -/
def State.hasGeneration (s : State) (a : LoadArgs) : Bool :=
  (List.finRange 24).any fun n =>
    match s.slots[n].data with
    | some d => d.issuer == a.issuer && d.role == a.role && d.generation == a.generation
    | none => false

/-- Checks 3 to 6 of R67 at a slot. -/
def State.loadCheck (s : State) (n : SlotNo) (a : LoadArgs) : Option Code :=
  if s.slots[n].occupied then some .slotOccupied
  else if s.hasGeneration a then some .duplicateGeneration
  else if a.role = .record ∧ (s.config.items.home = 0 ∨ a.issuer ≠ s.config.items.home) then some .notHome
  else if s.clock.timeValid && expiryReached a.expiry s.clock.seconds then some .windowPast
  else none

/-- LOAD_KEY at its execution (R66, R67, R68): a load that passes every check becomes a LOAD job, and the arbiter makes its
choice if the unit is free (R115). -/
def State.runLoadKey (s : State) (body : List Byte) : Executed :=
  match readLoadKey body with
  | none => answers s .malformed
  | some a =>
    match slotNo a.slot with
    | none => answers s .slotRange
    | some n =>
      match s.loadCheck n a with
      | some c => answers s c
      | none =>
        let req : LoadReq :=
          { slot := n, issuer := a.issuer, role := a.role, generation := a.generation, activation := a.activation,
            expiry := a.expiry, wrapped := a.wrapped, check := a.check }
        (State.arbitrate { s with station := { s.station with load := some (req, s.now) } }, none)

/-- A slot becomes WITHDRAWN with everything R84 does, in its order. -/
def State.withdraw (s : State) (n : SlotNo) (d : KeyData) : State :=
  let t := (s.onSlot n fun sl => { sl with body := .held .withdrawn d }).requestStore (.writeSlot n)
  let u := if d.role = .tagMaster then t.withdrawMaster n else t
  (u.eraseIfUnused n).reformSigning

/-- WITHDRAW_KEY at its execution (R66, R84). -/
def State.runWithdrawKey (s : State) (body : List Byte) : Executed :=
  match readByte body with
  | none => answers s .malformed
  | some k =>
    match slotNo k with
    | none => answers s .slotRange
    | some n =>
      match s.slots[n].body with
      | .empty => answers s .slotEmpty
      | .held (.loading _) _ => answers s .slotBusy
      | .held .withdrawn _ => answers s .slotBusy
      | .held .erasing _ => answers s .slotBusy
      | .held _ d =>
        let t := s.withdraw n d
        (t, some (.withdrawn t.slots[n].state t.slots[n].refs))

/-- What LIST_SLOT reports of a key: all but the key itself (R88). -/
def KeyData.report (d : KeyData) : KeyReport :=
  { issuer := d.issuer, role := d.role, generation := d.generation, activation := d.activation, expiry := d.expiry,
    check := d.check }

/-- LIST_SLOT at its execution (R66, R88). -/
def State.runListSlot (s : State) (body : List Byte) : Executed :=
  match readByte body with
  | none => answers s .malformed
  | some k =>
    match slotNo k with
    | none => answers s .slotRange
    | some n => (s, some (.slot s.slots[n].state (s.slots[n].data.map KeyData.report) s.slots[n].refs))

/-! ### Routes and passages -/

/-- SET_ROUTE at its execution (R97, R98). -/
def State.runSetRoute (s : State) (body : List Byte) : Executed :=
  match readSetRoute body with
  | none => answers s .malformed
  | some a =>
    match routeNo a.index with
    | none => answers s .routeRange
    | some i => ({ s with routes := s.routes.set i a.route }, some (.route a.clamped i a.route))

/-- CLEAR_ROUTE at its execution (R99). -/
def State.runClearRoute (s : State) (body : List Byte) : Executed :=
  match readByte body with
  | none => answers s .malformed
  | some k =>
    match routeNo k with
    | none => answers s .routeRange
    | some i => ({ s with routes := s.routes.set i Route.cleared }, some (.cleared i s.routes[i].enabled))

/-- QUERY_PASSAGE at its execution (R58, R59). -/
def State.runQueryPassage (s : State) (body : List Byte) : Executed :=
  match readTagId body with
  | none => answers s .malformed
  | some id => (s, some (.passage ((s.table.find id).map fun e => e.report s.now)))

/-! ### Time -/

/-- A period start that the count has raised is taken: the trim in use becomes the trim set (R142). -/
def Clock.takePeriodStart (k : Clock) : Clock :=
  if k.periodStarted then { k with trimInUse := k.trimSet, periodStarted := false } else k

/-- SET_TIME at its execution (R144, R74). -/
def State.runSetTime (s : State) (body : List Byte) : Executed :=
  match readSetTime body with
  | none => answers s .malformed
  | some sec =>
    let t := { s with clock := { s.clock with seconds := sec, fraction := 0, timeValid := true } }
    (t.evaluate.reformSigning, some (.timeSet s.clock.seconds s.clock.fraction s.clock.timeValid))

/-- SET_TRIM at its execution (R142). A period start raised before it takes the former trim set. -/
def State.runSetTrim (s : State) (body : List Byte) : Executed :=
  match readSetTrim body with
  | none => answers s .malformed
  | some t => ({ s with clock := { s.clock.takePeriodStart with trimSet := t } }, some (.trim t))

/-- What READ_TIME reports: the items of R146 and R202. R137 says that every item but the two positions and the trim in use is
reported, which would take in the stop mark and the monotonic tick count; neither has a field in R202's body, and neither is
reported here (DESIGN CHOICE, log entry 30). -/
def Clock.report (k : Clock) : TimeReport :=
  { seconds := k.seconds, fraction := k.fraction, timeValid := k.timeValid, trim := k.trimSet,
    backupLow := k.backupLow, lastLoss := if k.lastLossValid then some k.lastLoss else none }

/-- READ_TIME at its execution (R146). -/
def State.runReadTime (s : State) (body : List Byte) : Executed :=
  match readEmpty body with
  | none => answers s .malformed
  | some _ => (s, some (.time s.clock.report))

/-! ### The station request queue -/

/-- What an EXECUTING request does (R156). -/
def State.execute (s : State) (e : StationEntry) : Executed :=
  match e.kind with
  | .setLane => s.runSetLane e.body
  | .setConfig => s.runSetConfig e.body
  | .saveConfig => s.runSaveConfig e.body
  | .reseed => s.runReseed e.body
  | .reset => s.runReset e.tag e.body
  | .loadKey => s.runLoadKey e.body
  | .withdrawKey => s.runWithdrawKey e.body
  | .listSlot => s.runListSlot e.body
  | .setRoute => s.runSetRoute e.body
  | .clearRoute => s.runClearRoute e.body
  | .queryPassage => s.runQueryPassage e.body
  | .setTime => s.runSetTime e.body
  | .setTrim => s.runSetTrim e.body
  | .readTime => s.runReadTime e.body

/-- The station request queue replaced. -/
def State.withQueue (s : State) (q : List StationEntry) : State := { s with station := { s.station with queue := q } }

/-- The executing request leaves the queue and its answer is produced (R154). -/
def State.answerExecuting (s : State) (r : Reply) : State :=
  match s.station.queue with
  | [] => s
  | e :: rest => (s.withQueue rest).stationReply e.kind.code e.tag r

/-- The request at the head of the queue becomes EXECUTING; one that is answered in the same step leaves, and the request
behind it becomes EXECUTING in its turn (R154, R156). `n` bounds the requests executed. -/
def State.runStationFor : Nat → State → State
  | 0, s => s
  | n + 1, s =>
    match s.station.queue with
    | [] => s
    | e :: rest =>
      let x := (s.withQueue ({ e with executing := true } :: rest)).execute e
      match x.2 with
      | some r => (x.1.answerExecuting r).runStationFor n
      | none => x.1

/-- The queue runs from its head: at most as many requests as it holds. -/
def State.runStation (s : State) : State := s.runStationFor s.station.queue.length

/-- The executing request is answered, and the request waiting behind it becomes EXECUTING (R154). -/
def State.finishExecuting (s : State) (r : Reply) : State := (s.answerExecuting r).runStation

/-- Whether the executing request is of a kind. -/
def Station.isExecuting (st : Station) (k : StationKind) : Bool :=
  match st.queue with
  | e :: _ => e.executing && e.kind == k
  | [] => false

/-- The number of entries of the station request queue (R154). -/
def stationQueueSize : Nat := 2

/-- Steps 3 to 5 of R155: NOT_READY in STARTING, BUSY with the queue full, otherwise the take (R154). -/
def State.stationRequest (s : State) (k : StationKind) (tag : Byte) (body : List Byte) : State :=
  if s.service = .starting then s.stationReply k.code tag (.code .notReady)
  else if stationQueueSize ≤ s.station.queue.length then s.stationReply k.code tag (.code .busy)
  else
    let t := s.withQueue
      (s.station.queue ++ [{ kind := k, tag := tag, body := body, executing := false, answered := false }])
    if s.station.queue = [] then t.runStation else t

/-- A valid frame at its closing flag on the station port: the receiver opens the next frame (R184). -/
def State.stationFrameArrives (s : State) : State :=
  { s with station := { s.station with port := { s.station.port with rx := Rx.opened } } }

/-- A valid frame on the station port (R186 step 2, R155 step 1): with all 6 answer places held it is discarded. -/
def State.stationFrame (s : State) (deal : State → State) : State :=
  let t := s.stationFrameArrives
  if answerPlaces ≤ t.station.placesHeld then t else deal t

/-- STATUS (R155 step 2, R159). -/
def execStatus (tag : Byte) (body : List Byte) (s : State) : Host.Outcome State Fault Refusal :=
  s.powered fun s => s.stationFrame fun t => t.statusRequest tag body

/-- SET_LANE (R155, R162, R163). -/
def execSetLane (tag : Byte) (body : List Byte) (s : State) : Host.Outcome State Fault Refusal :=
  s.powered fun s => s.stationFrame fun t => t.stationRequest .setLane tag body

/-- SET_CONFIG (R155, R164, R165). -/
def execSetConfig (tag : Byte) (body : List Byte) (s : State) : Host.Outcome State Fault Refusal :=
  s.powered fun s => s.stationFrame fun t => t.stationRequest .setConfig tag body

/-- SAVE_CONFIG (R155, R166). -/
def execSaveConfig (tag : Byte) (body : List Byte) (s : State) : Host.Outcome State Fault Refusal :=
  s.powered fun s => s.stationFrame fun t => t.stationRequest .saveConfig tag body

/-- RESEED (R155, R167). -/
def execReseed (tag : Byte) (body : List Byte) (s : State) : Host.Outcome State Fault Refusal :=
  s.powered fun s => s.stationFrame fun t => t.stationRequest .reseed tag body

/-- RESET (R155, R169). -/
def execReset (tag : Byte) (body : List Byte) (s : State) : Host.Outcome State Fault Refusal :=
  s.powered fun s => s.stationFrame fun t => t.stationRequest .reset tag body

/-- LOAD_KEY (R155, R67). -/
def execLoadKey (tag : Byte) (body : List Byte) (s : State) : Host.Outcome State Fault Refusal :=
  s.powered fun s => s.stationFrame fun t => t.stationRequest .loadKey tag body

/-- WITHDRAW_KEY (R155, R84). -/
def execWithdrawKey (tag : Byte) (body : List Byte) (s : State) : Host.Outcome State Fault Refusal :=
  s.powered fun s => s.stationFrame fun t => t.stationRequest .withdrawKey tag body

/-- LIST_SLOT (R155, R88). -/
def execListSlot (tag : Byte) (body : List Byte) (s : State) : Host.Outcome State Fault Refusal :=
  s.powered fun s => s.stationFrame fun t => t.stationRequest .listSlot tag body

/-- SET_ROUTE (R155, R97, R98). -/
def execSetRoute (tag : Byte) (body : List Byte) (s : State) : Host.Outcome State Fault Refusal :=
  s.powered fun s => s.stationFrame fun t => t.stationRequest .setRoute tag body

/-- CLEAR_ROUTE (R155, R99). -/
def execClearRoute (tag : Byte) (body : List Byte) (s : State) : Host.Outcome State Fault Refusal :=
  s.powered fun s => s.stationFrame fun t => t.stationRequest .clearRoute tag body

/-- QUERY_PASSAGE (R155, R58). -/
def execQueryPassage (tag : Byte) (body : List Byte) (s : State) : Host.Outcome State Fault Refusal :=
  s.powered fun s => s.stationFrame fun t => t.stationRequest .queryPassage tag body

/-- SET_TIME (R155, R144). -/
def execSetTime (tag : Byte) (body : List Byte) (s : State) : Host.Outcome State Fault Refusal :=
  s.powered fun s => s.stationFrame fun t => t.stationRequest .setTime tag body

/-- SET_TRIM (R155, R142). -/
def execSetTrim (tag : Byte) (body : List Byte) (s : State) : Host.Outcome State Fault Refusal :=
  s.powered fun s => s.stationFrame fun t => t.stationRequest .setTrim tag body

/-- READ_TIME (R155, R146). -/
def execReadTime (tag : Byte) (body : List Byte) (s : State) : Host.Outcome State Fault Refusal :=
  s.powered fun s => s.stationFrame fun t => t.stationRequest .readTime tag body

/-! ### LOAD_COMPLETION -/

/-- The stored state fixed at a LOAD completion (R69). -/
def State.storedState (s : State) (a : Seconds) : LoadState :=
  if s.clock.timeValid ∧ a ≤ s.clock.seconds then .active else .staged

/-- The slot filled at a LOAD completion whose check value is confirmed (R69); its first write is requested. -/
def State.fillSlot (s : State) (req : LoadReq) (key : Block) : State :=
  let d : KeyData :=
    { issuer := req.issuer, role := req.role, generation := req.generation, activation := req.activation,
      expiry := req.expiry, key := key, check := req.check }
  (s.onSlot req.slot fun sl => { sl with body := .held (.loading (s.storedState req.activation)) d }).requestStore
    (.writeSlot req.slot)

/-- LOAD_COMPLETION (R68, R69, R108, R120): the computed check value is compared; the slot enters LOADING, or the LOAD_KEY is
answered CHECK_FAILED. With no LOAD job in flight nothing changes (log entry 9). -/
def execLoadCompletion (s : State) : Host.Outcome State Fault Refusal :=
  match s.kfu.job with
  | some (.loadJob req transportKey) =>
    let key := unwrap transportKey req.wrapped
    let t :=
      if checkValue key = req.check then s.freeUnit.fillSlot req key
      else s.freeUnit.finishExecuting (.code .checkFailed)
    .next t.arbitrate.driveAlerts
  | _ => .next s

end Sys2Proof.Machine
end

