-- ==== Sys2Proof/Machine/Ports.lean ====
section
/-! DEFINITION. The port interfaces byte by byte (Chapter 10): the hand-off of a valid frame (R186), received characters (R184,
R185), the abort sequence, and the end of an answer's transmission (R187), after which a RESET begins its warm reset
(R169, R177). -/

namespace Sys2Proof.Machine

/-- Steps 3 to 5 of R186 on a lane port: the length byte, the kind, the hand-off. -/
def State.handLane (s : State) (l : LaneNo) (f : Frame) : State :=
  if f.length.toNat ≠ f.body.length then s.laneReply l f.kind f.tag (.code .malformed)
  else
    match laneKind f.kind with
    | none => s.laneReply l f.kind f.tag (.code .malformed)
    | some .openReq => s.openRequest l f.tag f.body
    | some .proveReq => s.proveRequest l f.tag f.body
    | some .sealReq => s.sealRequest l f.tag f.body
    | some .dropReq => s.dropRequest l f.tag f.body
    | some .pollReq => s.pollRequest l f.tag f.body

/-- Steps 3 to 5 of R186 on the station port. -/
def State.handStation (s : State) (f : Frame) : State :=
  if f.length.toNat ≠ f.body.length then s.stationReply f.kind f.tag (.code .malformed)
  else if f.kind = statusKind then s.statusRequest f.tag f.body
  else
    match stationKind f.kind with
    | none => s.stationReply f.kind f.tag (.code .malformed)
    | some k => s.stationRequest k f.tag f.body

/-- A valid frame on a port, examined and handed off (R186). -/
def State.portFrame (s : State) (p : Port) (f : Frame) : State :=
  match p with
  | .lane l => s.laneFrame l fun t => t.handLane l f
  | .station => s.stationFrame fun t => t.handStation f

/-- MALFORMED_FRAME (R186): a valid frame whose length byte disagrees with its body or whose kind is unknown to the port. -/
def execMalformedFrame (p : Port) (kind tag length : Byte) (body : List Byte) (s : State) :
    Host.Outcome State Fault Refusal :=
  s.powered fun s => s.portFrame p { kind := kind, tag := tag, length := length, body := body }

/-- One character received on a port (R184): a discard latches the frame fault of the port (R185), a valid frame is handed
off (R186). -/
def State.receive (s : State) (p : Port) (c : LineChar) : State :=
  let x := rxStep (s.portOf p).rx c
  let t := s.onPort p fun ps => { ps with rx := x.1 }
  match x.2 with
  | .quiet => t
  | .fault => t.latch (.frameFault p)
  | .frame f => t.portFrame p f

/-- A run of characters received on a port. -/
def State.receiveAll (s : State) (p : Port) (cs : List LineChar) : State := cs.foldl (fun s c => s.receive p c) s

/-- FRAME_DISCARDED (R184, R185): the receiver reads the characters up to the one that discards the frame, and the frame
fault of the port is latched. -/
def execFrameDiscarded (p : Port) (cs : List LineChar) (s : State) : Host.Outcome State Fault Refusal :=
  s.powered fun s => s.receiveAll p cs

/-- ABORT_SEQUENCE (R184): the frame so far is discarded silently, and the flag opens a new frame. -/
def execAbortSequence (p : Port) (s : State) : Host.Outcome State Fault Refusal :=
  s.powered fun s => s.onPort p fun ps => { ps with rx := Rx.opened }

/-! ### Warm reset -/

/-- A lane at the beginning of a warm reset (R7, R187, R189, R190): as after power-on, with an answer in transmission cut
off. -/
def Lane.warmReset (ln : Lane) : Lane :=
  { Lane.fresh with port := { ln.port.cutOff with rx := .hunt } }

/-- The beginning of a warm reset (R169, R177): the latched flags, the working configuration, the store and the backup domain
stand, and the slot table is held unchanged until START_UP loads it anew; everything else is as at a start-up. The station
port is at rest: the answer of the RESET is the last sent and nothing there is cut off (R189). -/
def State.warmReset (s : State) : State :=
  { s with
    service := .starting
    loaded := false
    clock := { s.clock with mono := 0, secondEvents := 0 }
    lanes := Vector.ofFn fun l : LaneNo => s.lanes[l].warmReset
    loadTick := 0
    table := { entries := [], sealCount := 0 }
    kfu := Kfu.fresh s.kfu.transportKey s.kfu.challengeKey
    station :=
      { s.station with queue := [], load := none, port := PortState.fresh } }

/-! ### The end of a transmission -/

/-- The entry whose answer has been transmitted leaves the lane request queue (R8). -/
def Lane.dropEntry (ln : Lane) (serial : Option Nat) : Lane :=
  match serial with
  | none => ln
  | some n => { ln with queue := ln.queue.filter fun e => e.serial != n }

/-- The last byte of the answer at the head of a port's queue has been sent (R187). -/
def State.answerSent (s : State) (p : Port) (a : Answer) : State :=
  let t := s.onPort p fun ps => ps.sent (s.rateOfPort p)
  match p with
  | .lane l => t.onLane l fun ln => ln.dropEntry a.serial
  | .station => t

/-- Whether an answer is the OK of a RESET: its transmission begins the warm reset (R169). -/
def Answer.beginsReset (a : Answer) (p : Port) : Bool :=
  p == .station && a.kind == StationKind.reset.code && a.reply == .code .ok

/-- ANSWER_TRANSMITTED (R187, R8, R169): the place is freed, the entry leaves its queue and the next answer begins; after the
answer of a RESET the warm reset begins. With no answer in the queue nothing changes (log entry 9). -/
def execAnswerTransmitted (p : Port) (s : State) : Host.Outcome State Fault Refusal :=
  match (s.portOf p).answers with
  | [] => .next s
  | a :: _ =>
    let t := s.answerSent p a
    .next (if a.beginsReset p then t.warmReset else t).driveAlerts

end Sys2Proof.Machine
end

