-- ==== Sys2Proof/Machine/Time.lean ====
section
/-! DEFINITION. The time base (Chapter 7): reference pulses, trim and fraction ticks (R138 to R142), oscillator stop and restart
(R147, R148) and the backup supply (R150). -/

namespace Sys2Proof.Machine

/-- The number of corrections of a period: the magnitude of the trim in use (R141). -/
def correctionCount (trim : BitVec 8) : Nat := trim.toInt.natAbs

/-- Whether a correction falls at a reference pulse: it is the whole part of (2k + 1) × 1,048,576 / |c| for some k below |c|
(R141). -/
def isCorrection (trim : BitVec 8) (pulse : Nat) : Bool :=
  (List.range (correctionCount trim)).any fun k => (2 * k + 1) * 1048576 / correctionCount trim == pulse

/-- How often a reference pulse is counted (R141): twice at a correction of a positive trim, not at all at one of a
negative trim, once otherwise. -/
def pulseWeight (trim : BitVec 8) (pulse : Nat) : Nat :=
  if isCorrection trim pulse then (if trim.msb then 0 else 2) else 1

/-- One reference pulse (R138, R141): the period position counts it, and when that passes from 2,097,151 to 0 a period start
is raised. The pulse position is advanced by the caller. -/
def Clock.countPeriod (k : Clock) : Clock :=
  { k with period := k.period + 1, periodStarted := k.periodStarted || k.period == BitVec.allOnes 21 }

/-- Reference pulses counted until the pulse position passes from 31 to 0 (R138); `fuel` bounds them. -/
def Clock.countPulses : Nat → Clock → Clock
  | 0, k => k
  | fuel + 1, k =>
    let p := k.pulse.toNat + pulseWeight k.trimInUse k.period.toNat
    let k := { k.countPeriod with pulse := BitVec.ofNat 5 p }
    if 32 ≤ p then k else k.countPulses fuel

/-- The reference pulses of one fraction tick: at most 32 and one more for a pulse not counted, since no tick holds more
than one correction (R141). -/
def tickPulses : Nat := 33

/-- The count after the next monotonic tick (R139). -/
def nextTick (t : Nat) : Nat := if t + 1 < 2 ^ 48 then t + 1 else Config.tickAfterLast.toNat

/-- The fraction and seconds at a fraction tick (R138): the seconds hold at their last value. -/
def Clock.advanceWall (k : Clock) : Clock :=
  if k.fraction = 1023 then
    { k with fraction := 0, seconds := if k.seconds = 0xFFFFFFFF then k.seconds else k.seconds + 1 }
  else { k with fraction := k.fraction + 1 }

/-- One fraction tick of the time base (R138). While main power is present the monotonic tick count advances and a wrap of
the fraction raises a second event; while it is off the wall time and the periods alone go on (R138, R151). -/
def Clock.tick (k : Clock) (power : Bool) : Clock :=
  let t := (k.takePeriodStart.countPulses tickPulses).advanceWall
  if power then
    { t with
      mono := nextTick k.mono
      secondEvents := if k.fraction = 1023 then k.secondEvents + 1 else k.secondEvents }
  else t

/-- FRACTION_TICK (R138, R139, R141): while reference pulses arrive, the pulses up to the next fraction tick are counted and
the tick occurs. While they do not, no tick occurs (R148) and nothing changes. -/
def execFractionTick (s : State) : Host.Outcome State Fault Refusal :=
  if s.clock.running then .next { s with clock := s.clock.tick s.power } else .next s

/-- PERIOD_START (R142): a period start that the count has raised is taken. With none raised nothing changes (log entries 7
and 9). -/
def execPeriodStart (s : State) : Host.Outcome State Fault Refusal :=
  .next { s with clock := s.clock.takePeriodStart }

/-- The time base acting on a stop while running (R148): the stop mark, set by the detector, is cleared at once. -/
def Clock.stopWhileRunning (k : Clock) : Clock :=
  { k.takePeriodStart with
    seconds := 0, fraction := 0, pulse := 0, period := 0, timeValid := false, stopMark := false, running := false }

/-- OSCILLATOR_STOP (R148): a stop declared while main power is present, once for each time the pulses cease. -/
def execOscillatorStop (s : State) : Host.Outcome State Fault Refusal :=
  if s.power && s.clock.running then
    .next (State.latch { s with clock := s.clock.stopWhileRunning } .timeLost).driveAlerts
  else .next s

/-- OSCILLATOR_RESTART (R148): pulses resume and are counted from pulse position 0 and period position 0; the trim in use
stands until the next period start (log entry 10). -/
def execOscillatorRestart (s : State) : Host.Outcome State Fault Refusal :=
  if s.clock.running then .next s
  else .next { s with clock := { s.clock with running := true, pulse := 0, period := 0, periodStarted := false } }

/-- BACKUP_LOW_CHANGE (R150): BACKUP_LOW follows the supply while main power is present, and is not measured while it is
off. -/
def execBackupLowChange (low : Bool) (s : State) : Host.Outcome State Fault Refusal :=
  if s.power then .next { s with clock := { s.clock with backupLow := low } } else .next s

/-- The backup domain when a stop is declared while main power is off, or when its storage loses its contents (R147): the
stop mark becomes set; lost storage also takes the trim set and the check of the last-loss time (log entry 3). -/
def Clock.stopWhileOff (k : Clock) (storageLost : Bool) : Clock :=
  if storageLost then
    { k with
      stopMark := true, running := false, trimSet := Config.lostTrim k.losses, lastLossIntact := false
      losses := k.losses + 1 }
  else { k with stopMark := true, running := false }

/-- OSCILLATOR_STOP_WHILE_MAIN_POWER_OFF (R147): the next power-on acts on the mark (R149). While main power is present a
stop is OSCILLATOR_STOP, and a stop is declared once for each time the pulses cease (R148): otherwise nothing changes
here (log entry 9). -/
def execOscillatorStopWhileOff (storageLost : Bool) (s : State) : Host.Outcome State Fault Refusal :=
  if !s.power && (s.clock.running || storageLost) then .next { s with clock := s.clock.stopWhileOff storageLost }
  else .next s

end Sys2Proof.Machine
end

