-- ==== Sys2Proof/Machine/StoreActions.lean ====
section
/-! DEFINITION. How store actions end (Chapter 9): what the record holds (R170, R174), what the completion or the second failure
does to the block concerned (R175), and the next action (R173). -/

namespace Sys2Proof.Machine

/-- The store with an action's record as a completed action leaves it (R170). -/
def Store.applied (st : Store) : StoreAct → Store
  | .writeSlot n r => { st with slots := st.slots.set n (.intact r) }
  | .eraseSlot n => { st with slots := st.slots.set n .blank }
  | .writeImage i => { st with image := .intact i }
  | .writeBoot b => { st with boot := .intact b }

/-- The store with an action's record failing its check. -/
def Store.torn (st : Store) : StoreAct → Store
  | .writeSlot n _ => { st with slots := st.slots.set n .failing }
  | .eraseSlot n => { st with slots := st.slots.set n .failing }
  | .writeImage _ => { st with image := .failing }
  | .writeBoot _ => { st with boot := .failing }

/-- The store with an action's record as a failed second attempt left it: the former content, the new one or one that fails its
check (R174, and R166 for the image; that R90 and R100 speak of the former image only is log entry 29). The new content of an
erase is none: blank (log entry 17). -/
def Store.left (st : Store) (a : StoreAct) : AttemptLeft → Store
  | .former => st
  | .new => st.applied a
  | .failing => st.torn a

/-- The first store write of a LOADING slot completes (R70). -/
def State.firstWriteDone (s : State) (n : SlotNo) (stored : LoadState) (d : KeyData) : State :=
  let st : HeldState := match stored with
    | .staged => .staged
    | .active => .active
  let t := (s.onSlot n fun sl => { sl with body := .held st d }).evaluate.reformSigning
  t.finishExecuting (.loaded t.slots[n].state)

/-- The first store write of a LOADING slot fails twice (R71); STORE_FAULT has been latched. -/
def State.firstWriteFailed (s : State) (n : SlotNo) : State :=
  ((s.onSlot n fun sl => { sl with body := .empty }).requestStore (.eraseSlot n)).finishExecuting (.code .storeFailed)

/-- A slot record write ends (R175). -/
def State.slotWriteEnds (s : State) (n : SlotNo) (ok : Bool) : State :=
  match s.slots[n].body with
  | .held (.loading stored) d => if ok then s.firstWriteDone n stored d else s.firstWriteFailed n
  | _ => s

/-- A slot record erase ends (R175, R86): an ERASING slot becomes EMPTY when the erase completes. -/
def State.slotEraseEnds (s : State) (n : SlotNo) (ok : Bool) : State :=
  match s.slots[n].body with
  | .held .erasing _ => if ok then s.onSlot n fun sl => { sl with body := .empty } else s
  | _ => s

/-- A configuration image write ends (R166, R175). -/
def State.imageWriteEnds (s : State) (ok : Bool) : State :=
  if s.station.isExecuting .saveConfig then s.finishExecuting (.code (if ok then .ok else .storeFailed)) else s

/-- A boot record write completes or fails twice while the module is STARTING (R181). -/
def State.startBootEnds (s : State) (ok : Bool) : State :=
  if ok then s.enterServing else { s with service := .seedWait }

/-- The ADMIT hold is cleared (R113). -/
def State.clearHold (s : State) : State := { s with kfu := { s.kfu with admitHold := false } }

/-- The boot record write of an exhaustion ends (R113). -/
def State.exhaustionBootEnds (s : State) (ok : Bool) : State :=
  if ok then s.clearHold.arbitrate else s.clearHold.leaveService

/-- The boot record write of a RESEED ends (R168). -/
def State.reseedBootEnds (s : State) (b : BitVec 32) (ok : Bool) : State :=
  if s.station.isExecuting .reseed then
    if ok then
      (State.enterServing { s with kfu := { s.kfu with boot := some b, sequence := 0 } }).finishExecuting (.code .ok)
    else s.finishExecuting (.code .storeFailed)
  else s

/-- A boot record write ends (R175): a completed one makes its count the stored boot count known to RESEED (R167). -/
def State.bootWriteEnds (s : State) (b : BitVec 32) (ok : Bool) : State :=
  let t := if ok then { s with station := { s.station with knownBoot := some b } } else s
  match s.service with
  | .starting => t.startBootEnds ok
  | .serving => t.exhaustionBootEnds ok
  | .seedWait => t.reseedBootEnds b ok

/-- The consequence of an action's end (R175); while a warm reset drains the list, none (R177). -/
def State.actionEnds (s : State) (a : StoreAct) (ok : Bool) : State :=
  if s.service = .starting ∧ ¬ s.loaded then s
  else
    match a with
    | .writeSlot n _ => s.slotWriteEnds n ok
    | .eraseSlot n => s.slotEraseEnds n ok
    | .writeImage _ => s.imageWriteEnds ok
    | .writeBoot b => s.bootWriteEnds b ok

/-- The store with no action in progress. -/
def Store.idle (st : Store) : Store := { st with action := none, second := false }

/-- STORE_ACTION_COMPLETE (R173, R174, R175): the record holds what the action wrote, the completion is handed to the owning
block, and the next pending action begins. With no action in progress nothing changes (log entry 9). -/
def execStoreActionComplete (s : State) : Host.Outcome State Fault Refusal :=
  match s.store.action with
  | none => .next s
  | some a => .next ((State.actionEnds { s with store := (s.store.applied a).idle } a true).beginNext).driveAlerts

/-- STORE_VERIFY_RETRY (R174): the first attempt has failed its verify, and the action is performed again at once. With no
action in progress, or one in its second attempt, nothing changes (log entry 9). -/
def execStoreVerifyRetry (s : State) : Host.Outcome State Fault Refusal :=
  if s.store.action.isSome && !s.store.second then .next { s with store := { s.store with second := true } }
  else .next s

/-- STORE_ACTION_FAILED (R174, R175): the second attempt has failed its verify; STORE_FAULT is latched, the failure is handed
to the owning block, and the next pending action begins. With no action in its second attempt nothing changes (log entry
9). -/
def execStoreActionFailed (left : AttemptLeft) (s : State) : Host.Outcome State Fault Refusal :=
  match s.store.action, s.store.second with
  | some a, true =>
    .next
      (((State.latch { s with store := (s.store.left a left).idle } .storeFault).actionEnds a false).beginNext).driveAlerts
  | _, _ => .next s

end Sys2Proof.Machine
end

