-- ==== Sys2Proof/Machine/Start.lean ====
section
/-! DEFINITION. Main power and start-up (R151, R176 to R182, R149, R152). -/

namespace Sys2Proof.Machine

/-! ### Main power -/

/-- The main domain without its contents: everything a loss of main power takes (R151, R176) and every value a power-on
begins from (R7, R37, R123, R152 to R154, R158, R171, R183, R184, R187, R190). The backup domain, the store's records, the
device keys and the queue of commands stand. The slot table and the current signing generation, which R179 and R180 give from
the loading of the records on only, are EMPTY slots with counts of 0 and none until then (DESIGN CHOICE, log entry 31). -/
def State.mainLost (s : State) : State :=
  { State.reset with
    power := false
    clock := { s.clock with mono := 0, secondEvents := 0 }
    kfu := Kfu.fresh s.kfu.transportKey s.kfu.challengeKey
    station := Station.fresh
    flags := 0
    store := { s.store.idle with pending := [] }
    pending := s.pending }

/-- The store when main power fails, by the point the action in progress had reached (R176). -/
def Store.powerLost (st : Store) (p : ActionPoint) : Store :=
  match st.action, p with
  | none, _ => st
  | some _, .beforeChange => st
  | some a, .changing => st.torn a
  | some a, .changed => st.applied a

/-- The capture of the last-loss time (R151). -/
def Clock.capture (k : Clock) : Clock :=
  { k with lastLoss := k.seconds, lastLossValid := k.timeValid, lastLossIntact := true }

/-- MAIN_POWER_FAIL (R151, R176): the last-loss time is captured, the main domain stops and its state is lost. -/
def execMainPowerFail (p : ActionPoint) (s : State) : Host.Outcome State Fault Refusal :=
  if s.power then
    .next (State.mainLost { s with clock := s.clock.capture, store := s.store.powerLost p }).driveAlerts
  else .next s

/-- The time base acting on its stop mark at power-on (R149). Main power feeds the oscillator from here, and the wall time
counts from its first pulse (log entry 11). -/
def Clock.stopAtPowerOn (k : Clock) : Clock :=
  { k with
    seconds := 0, fraction := 0, pulse := 0, period := 0, timeValid := false, trimInUse := 0, trimFromConfig := true,
    lastLossValid := k.lastLossValid && k.lastLossIntact, stopMark := false, running := true, periodStarted := false }

/-- The time base at power-on (R149, R150, R152). With the stop mark clear everything continues. R149 takes it that the oscillator
has then run; after a stop acted on while main power was present (R148), from which pulses had not resumed when main power
failed, the mark is clear too, and the model has the pulses stay away until OSCILLATOR_RESTART (DESIGN CHOICE, log entry
33). -/
def Clock.powerOn (k : Clock) (low : Bool) : Clock :=
  let t := { k with backupLow := low, trimFromConfig := false }
  if k.stopMark then t.stopAtPowerOn else t

/-- The module at power-on (R177): STARTING, the flags clear but for TIME_LOST when the stop mark was set. -/
def State.powerOn (s : State) (low : Bool) : State :=
  let t := s.mainLost
  let u := { t with power := true, clock := t.clock.powerOn low }
  if s.clock.stopMark then u.latch .timeLost else u

/-- POWER_ON (R177, R149, R152). With main power present already nothing changes (log entry 9). -/
def execPowerOn (low : Bool) (s : State) : Host.Outcome State Fault Refusal :=
  if s.power then .next s else .next (s.powerOn low).driveAlerts

/-! ### Start-up -/

/-- The configuration image, or the defaults when it is blank or failing (R178). -/
def Store.imageOrDefaults (st : Store) : Image :=
  match st.image with
  | .intact i => i
  | _ => { config := WorkingConfig.defaults, routes := Vector.replicate 32 Route.cleared, trim := 0 }

/-- Whether a record is intact. -/
def Rec.isIntact {α : Type} : Rec α → Bool
  | .intact _ => true
  | _ => false

/-- A lane when the configuration is loaded (R178 steps 1 and 2, R183, R190): a frame being received is discarded without a
flag when the rate changes, and the link deadline is set, also on a link that is DOWN (R190; log entry 34). -/
def Lane.configured (ln : Lane) (set : LaneSettings) (rateChanges : Bool) (now : Nat) : Lane :=
  { ln with
    port := { ln.port with rx := if rateChanges then .hunt else ln.port.rx }
    linkDeadline := if set.linkTimeout = 0 then none else some (now + ticksOf set.linkTimeout) }

/-- The trim handed to the time base at the loading, only when the stop mark was set at this power-on (R149, R178). A period start
raised before the loading takes the trim set that stood then, so that the trim handed over comes into use at the next period
start after it (R149 step 4, R142; DEDUCED, log entry 7). -/
def Clock.configured (k : Clock) (trim : BitVec 8) : Clock :=
  if k.trimFromConfig then { k.takePeriodStart with trimSet := trim, trimFromConfig := false } else k

/-- The loading of the working configuration (R178, R90). -/
def State.loadConfig (s : State) : State :=
  let i := s.store.imageOrDefaults
  let t :=
    { s with
      config := i.config
      routes := i.routes
      clock := s.clock.configured i.trim
      laneRate := i.config.items.rate
      loadTick := s.now
      lanes := Vector.ofFn fun l : LaneNo =>
        s.lanes[l].configured i.config.lanes[l] (i.config.items.rate != s.laneRate) s.now }
  if s.store.image.isIntact then t else t.latch .configDefaulted

/-- A slot filled from its record (R65, R179). -/
def slotFrom : Rec SlotRecord → Slot
  | .blank => Slot.fresh
  | .failing => Slot.fresh
  | .intact r =>
    { body :=
        match r.st with
        | .staged => .held .staged r.data
        | .active => .held .active r.data
        | .expired => .held .expired r.data
        | .withdrawn => .held .erasing r.data
      refs := 0 }

/-- Whether the loading of a record requests its erase (R65, R179). -/
def eraseAtStart : Rec SlotRecord → Bool
  | .failing => true
  | .intact r => r.st == .withdrawn
  | .blank => false

/-- The loading of one slot record beyond the slot itself: SLOT_LOST for a failing record, and the erases (R179). -/
def State.loadSlotRecord (s : State) (n : SlotNo) : State :=
  let r := s.store.slots[n]
  let t := if r == .failing then s.latch .slotLost else s
  if eraseAtStart r then t.requestStore (.eraseSlot n) else t

/-- The slot records are read into the slot table, in slot order (R179). -/
def State.loadSlots (s : State) : State :=
  (List.finRange 24).foldl (fun s n => s.loadSlotRecord n)
    { s with slots := Vector.ofFn fun n : SlotNo => slotFrom s.store.slots[n] }

/-- The evaluation at start-up and the current signing generation formed without a notice (R180). -/
def State.startSlots (s : State) : State :=
  let t := s.loadSlots.evaluate
  { t with signing := t.formSigning }

/-- The boot record is read (R181, R110). -/
def State.loadBoot (s : State) : State :=
  match s.store.boot with
  | .intact b =>
    let t := { s with station := { s.station with knownBoot := some b } }
    if b = lastCount then { t with service := .seedWait, kfu := { t.kfu with boot := some lastCount } }
    else State.requestStore { t with kfu := { t.kfu with boot := some (b + 1) } } (.writeBoot (b + 1))
  | _ =>
    State.latch
      { s with service := .seedWait, kfu := { s.kfu with boot := none }, station := { s.station with knownBoot := none } }
      .bootRecordLost

/-- Whether the start-up sequence is to go on with the configuration image (R177): STARTING, the records not yet loaded, and
the store with nothing left to do. -/
def State.startReady (s : State) : Bool :=
  s.power && s.service == .starting && !s.loaded && !s.store.busy

/-- START_UP (R178 to R181): the configuration image, the slot records and the boot record are loaded in this order. Where
the sequence is not at this point nothing changes (log entry 9). -/
def execStartUp (s : State) : Host.Outcome State Fault Refusal :=
  if s.startReady then .next (State.loadBoot { s.loadConfig.startSlots with loaded := true }).driveAlerts
  else .next s

end Sys2Proof.Machine
end

