-- ==== Sys2Proof/Machine/Dispatch.lean ====
section
/-! DEFINITION. Dispatch: one arm per command, each one call of that command's own meaning. -/

namespace Sys2Proof.Machine

def exec (i : Instr) (s : State) : Host.Outcome State Fault Refusal :=
  match i with
  | .openReq lane tag body => Sys2Proof.Machine.execOpen lane tag body s
  | .proveReq lane tag body => Sys2Proof.Machine.execProve lane tag body s
  | .sealReq lane tag body => Sys2Proof.Machine.execSeal lane tag body s
  | .dropReq lane tag body => Sys2Proof.Machine.execDrop lane tag body s
  | .pollReq lane tag body => Sys2Proof.Machine.execPoll lane tag body s
  | .statusReq tag body => Sys2Proof.Machine.execStatus tag body s
  | .setLane tag body => Sys2Proof.Machine.execSetLane tag body s
  | .setConfig tag body => Sys2Proof.Machine.execSetConfig tag body s
  | .saveConfig tag body => Sys2Proof.Machine.execSaveConfig tag body s
  | .reseed tag body => Sys2Proof.Machine.execReseed tag body s
  | .resetReq tag body => Sys2Proof.Machine.execReset tag body s
  | .loadKey tag body => Sys2Proof.Machine.execLoadKey tag body s
  | .withdrawKey tag body => Sys2Proof.Machine.execWithdrawKey tag body s
  | .listSlot tag body => Sys2Proof.Machine.execListSlot tag body s
  | .setRoute tag body => Sys2Proof.Machine.execSetRoute tag body s
  | .clearRoute tag body => Sys2Proof.Machine.execClearRoute tag body s
  | .queryPassage tag body => Sys2Proof.Machine.execQueryPassage tag body s
  | .setTime tag body => Sys2Proof.Machine.execSetTime tag body s
  | .setTrim tag body => Sys2Proof.Machine.execSetTrim tag body s
  | .readTime tag body => Sys2Proof.Machine.execReadTime tag body s
  | .malformedFrame port kind tag length body => Sys2Proof.Machine.execMalformedFrame port kind tag length body s
  | .frameDiscarded port chars => Sys2Proof.Machine.execFrameDiscarded port chars s
  | .openCompletion => Sys2Proof.Machine.execOpenCompletion s
  | .proveCompletion => Sys2Proof.Machine.execProveCompletion s
  | .sealCompletion => Sys2Proof.Machine.execSealCompletion s
  | .loadCompletion => Sys2Proof.Machine.execLoadCompletion s
  | .fractionTick => Sys2Proof.Machine.execFractionTick s
  | .secondEvent => Sys2Proof.Machine.execSecondEvent s
  | .periodStart => Sys2Proof.Machine.execPeriodStart s
  | .contextExpiry lane ctx => Sys2Proof.Machine.execContextExpiry lane ctx s
  | .entryExpiry tagId => Sys2Proof.Machine.execEntryExpiry tagId s
  | .linkExpiry lane => Sys2Proof.Machine.execLinkExpiry lane s
  | .oscillatorStop => Sys2Proof.Machine.execOscillatorStop s
  | .oscillatorRestart => Sys2Proof.Machine.execOscillatorRestart s
  | .backupLowChange low => Sys2Proof.Machine.execBackupLowChange low s
  | .mainPowerFail point => Sys2Proof.Machine.execMainPowerFail point s
  | .powerOn backupLow => Sys2Proof.Machine.execPowerOn backupLow s
  | .startUp => Sys2Proof.Machine.execStartUp s
  | .storeActionComplete => Sys2Proof.Machine.execStoreActionComplete s
  | .storeVerifyRetry => Sys2Proof.Machine.execStoreVerifyRetry s
  | .storeActionFailed left => Sys2Proof.Machine.execStoreActionFailed left s
  | .answerTransmitted port => Sys2Proof.Machine.execAnswerTransmitted port s
  | .abortSequence port => Sys2Proof.Machine.execAbortSequence port s
  | .oscillatorStopWhileOff storageLost => Sys2Proof.Machine.execOscillatorStopWhileOff storageLost s

end Sys2Proof.Machine
end

