-- ==== Sys2Proof/WellFormed.lean ====
section
/-! DEFINITION. Which commands are well formed: a request's body fits a frame (R184, R199), a malformed frame is one (R186), a
discarded frame has characters (R185). A command that is not well formed still has its meaning; no port can send it. -/

namespace Sys2Proof

open Sys2Proof.Machine

/-- The most body bytes of a frame: 64 content bytes less header and CRC (section 10.2, R199). -/
def maxBody : Nat := 59

/-- A body that fits a frame. -/
def bodyFits (body : List Byte) : Bool := body.length ≤ maxBody

/-- A valid frame that R186 answers MALFORMED: its length byte disagrees with its body, or its kind is no request kind of the
port. -/
def frameMalformed (port : Port) (kind length : Byte) (body : List Byte) : Bool :=
  length.toNat != body.length || !isRequestKind port kind

/-- At least one character. -/
def charsGiven (chars : List LineChar) : Bool := !chars.isEmpty

/-- The port, kind, request tag and body of a request row (R186, R200); `none` for a row that is no request. -/
def Instr.request : Instr → Option (Port × Byte × Byte × List Byte)
  | .openReq l tag body => some (.lane l, LaneKind.openReq.code, tag, body)
  | .proveReq l tag body => some (.lane l, LaneKind.proveReq.code, tag, body)
  | .sealReq l tag body => some (.lane l, LaneKind.sealReq.code, tag, body)
  | .dropReq l tag body => some (.lane l, LaneKind.dropReq.code, tag, body)
  | .pollReq l tag body => some (.lane l, LaneKind.pollReq.code, tag, body)
  | .statusReq tag body => some (.station, statusKind, tag, body)
  | .setLane tag body => some (.station, StationKind.setLane.code, tag, body)
  | .setConfig tag body => some (.station, StationKind.setConfig.code, tag, body)
  | .saveConfig tag body => some (.station, StationKind.saveConfig.code, tag, body)
  | .reseed tag body => some (.station, StationKind.reseed.code, tag, body)
  | .resetReq tag body => some (.station, StationKind.reset.code, tag, body)
  | .loadKey tag body => some (.station, StationKind.loadKey.code, tag, body)
  | .withdrawKey tag body => some (.station, StationKind.withdrawKey.code, tag, body)
  | .listSlot tag body => some (.station, StationKind.listSlot.code, tag, body)
  | .setRoute tag body => some (.station, StationKind.setRoute.code, tag, body)
  | .clearRoute tag body => some (.station, StationKind.clearRoute.code, tag, body)
  | .queryPassage tag body => some (.station, StationKind.queryPassage.code, tag, body)
  | .setTime tag body => some (.station, StationKind.setTime.code, tag, body)
  | .setTrim tag body => some (.station, StationKind.setTrim.code, tag, body)
  | .readTime tag body => some (.station, StationKind.readTime.code, tag, body)
  | .malformedFrame _ _ _ _ _ => none
  | .frameDiscarded _ _ => none
  | .openCompletion => none
  | .proveCompletion => none
  | .sealCompletion => none
  | .loadCompletion => none
  | .fractionTick => none
  | .secondEvent => none
  | .periodStart => none
  | .contextExpiry _ _ => none
  | .entryExpiry _ => none
  | .linkExpiry _ => none
  | .oscillatorStop => none
  | .oscillatorRestart => none
  | .backupLowChange _ => none
  | .mainPowerFail _ => none
  | .powerOn _ => none
  | .startUp => none
  | .storeActionComplete => none
  | .storeVerifyRetry => none
  | .storeActionFailed _ => none
  | .answerTransmitted _ => none
  | .abortSequence _ => none
  | .oscillatorStopWhileOff _ => none

/-- Whether a command is well formed. -/
def Instr.wellFormed (i : Instr) : Bool :=
  match i.request with
  | some (_, _, _, body) => bodyFits body
  | none =>
    match i with
    | .malformedFrame port kind _ length body => bodyFits body && frameMalformed port kind length body
    | .frameDiscarded _ chars => charsGiven chars
    | _ => true

end Sys2Proof
end

