-- ==== Sys2Proof/Safety.lean ====
section
/-! DEFINITION. What counts as a safe run, and the invariants in which claims are stated: every step goes on (R1: every request
is dealt with), and the alerts, the passage table, the queues, the store list, the reference counts and the generations stay
as the manual says they are. -/

namespace Sys2Proof.Machine

/-- The machine goes on: its next step answers a state. -/
def goesOn (s : State) : Prop := ∃ t, step s = .next t

/-! ### Alert outputs (R28, R161, R195) -/

/-- Every alert output is as its condition says. -/
def State.AlertsFollow (s : State) : Prop :=
  (∀ l : LaneNo, s.lanes[l].alert = s.lanes[l].alertDue) ∧ s.station.alert = s.stationAlertDue

/-! ### The passage table and the claims (R3, R36) -/

/-- The entries stand by rising tag ID: never two with the same tag ID, and equal tables are equal data. -/
def Table.Ordered (t : Table) : Prop := t.entries.Pairwise fun a b => a.tagId < b.tagId

/-- The owner context of a CLAIMED entry. -/
def Passage.owner (e : Passage) : Option CtxNo :=
  match e.body with
  | .claimed c _ => some c
  | .sealed _ _ _ => none

/-- The tag ID and counter under which a PROVED or SEALING context holds its claim. -/
def CtxBody.claim : CtxBody → Option (TagId × Counter)
  | .proved o _ _ => some (o.tagId, o.counter)
  | .sealing o _ _ => some (o.tagId, o.counter)
  | _ => none

/-- A context is PROVED or SEALING exactly when the table holds a CLAIMED entry it owns (R3). -/
def State.ClaimsMatch (s : State) : Prop :=
  (∀ e ∈ s.table.entries, ∀ c : CtxNo, e.owner = some c → (s.ctx e.lane c).body.claim = some (e.tagId, e.counter))
    ∧ ∀ (l : LaneNo) (c : CtxNo), (s.ctx l c).body.hasClaim = true → (s.table.claimOf l c).isSome = true

/-- The passage table in order, within its size and tied to the contexts. -/
def State.TableSound (s : State) : Prop := s.table.Ordered ∧ s.table.entries.length ≤ tableSize ∧ s.ClaimsMatch

/-! ### The pending write list (R172, R173) -/

/-- At most one entry for each record, and nothing waits while no action is in progress. -/
def Store.ListSound (st : Store) : Prop :=
  (st.pending.Pairwise fun a b => a.sameRecord b = false) ∧ (st.action = none → st.pending = [])

/-! ### Jobs and reference counts (R2, R83, R114) -/

/-- The context a lane job runs for. -/
def Job.origin : Job → Option (LaneNo × CtxNo)
  | .openJob l c _ _ _ _ => some (l, c)
  | .proveJob l c _ _ _ _ _ _ => some (l, c)
  | .sealJob l c _ _ _ _ _ _ => some (l, c)
  | .loadJob _ _ => none

/-- The context state a job of each kind runs in. -/
def Job.fits : Job → CtxBody → Bool
  | .openJob _ _ _ _ _ _, .opening _ _ => true
  | .proveJob _ _ _ _ _ _ _ _, .proving _ _ _ => true
  | .sealJob _ _ _ _ _ _ _ _, .sealing _ _ _ => true
  | _, _ => false

/-- The signing slot of a SEAL job. -/
def Job.signer : Job → Option SlotNo
  | .sealJob _ _ n _ _ _ _ _ => some n
  | _ => none

/-- The uses of a slot: contexts in OPENING, OPENED or PROVING that name it, and a SEAL job in flight that signs with it
(R83). -/
def State.usesOf (s : State) (n : SlotNo) : Nat :=
  ((List.finRange 4).map fun l => (List.finRange 3).countP fun c => (s.ctx l c).body.master == some n).sum
    + if s.kfu.job.bind Job.signer = some n then 1 else 0

/-- The job-in-flight marks stand for the job in flight (R2), whose context is in the state of its kind. -/
def State.JobSound (s : State) : Prop :=
  (∀ (l : LaneNo) (c : CtxNo), (s.ctx l c).inFlight = true ↔ s.kfu.job.bind Job.origin = some (l, c))
    ∧ ∀ (j : Job) (l : LaneNo) (c : CtxNo), s.kfu.job = some j → j.origin = some (l, c) → j.fits (s.ctx l c).body = true

/-- Until the records of a start are loaded the module is STARTING, and in STARTING no job is in flight, no station request
waits or executes and every context is FREE (R7, R123, R154, R177). -/
def State.StartSound (s : State) : Prop :=
  (s.loaded = false → s.service = .starting)
    ∧ (s.service = .starting →
        s.kfu.job = none ∧ s.station.queue = [] ∧ s.station.load = none ∧ ∀ (l : LaneNo) (c : CtxNo), (s.ctx l c).body = .free)

/-- Every reference count equals the uses of its slot (R83), from the loading of the slot records on (R177, R179). -/
def State.RefsSound (s : State) : Prop :=
  s.JobSound ∧ s.StartSound ∧ (s.loaded = true → ∀ n : SlotNo, s.slots[n].refs = s.usesOf n)

/-! ### The LOAD in hand (R68, R70, R154) -/

/-- The LOAD_KEY requests whose job waits for the unit or is in flight (R68, R114). -/
def State.loadRequests (s : State) : List LoadReq :=
  (s.station.load.map Prod.fst).toList ++ (match s.kfu.job with | some (.loadJob q _) => [q] | _ => [])

/-- The slots in LOADING, each of which waits for its first store write (R69, R70). -/
def State.loadingSlots (s : State) : List SlotNo := (List.finRange 24).filter fun n => s.slots[n].state == .loading

/-- From the loading of the slot records on, at most one LOAD_KEY is in hand, and while one is, it is the station request
that executes (R154, R156): from its checks to its answer, as a waiting job, a job in flight or a LOADING slot. -/
def State.LoadSound (s : State) : Prop :=
  s.loaded = true → s.loadRequests.length + s.loadingSlots.length ≤ 1
    ∧ (s.loadRequests ≠ [] ∨ s.loadingSlots ≠ [] → s.station.isExecuting .loadKey = true)

/-! ### Queues and places (R8, R9, R154, R155, R187) -/

/-- The state of a context whose entry waits or runs, by the entry's request (R3, R14, R16, R19). -/
def LaneReq.fits : LaneReq → CtxBody → Bool
  | .openReq, .opening _ _ => true
  | .proveReq _, .proving _ _ _ => true
  | .sealReq _ _, .sealing _ _ _ => true
  | _, _ => false

/-- A lane request queue within 4 entries and 6 places, its entries told apart by their serials; an answer that waits at the
port names no entry but one that is ANSWERED (R8, R9). -/
def Lane.QueueSound (ln : Lane) : Prop :=
  ln.queue.length ≤ laneQueueSize ∧ ln.placesHeld ≤ answerPlaces
    ∧ (ln.queue.Pairwise fun a b => a.serial < b.serial) ∧ (∀ e ∈ ln.queue, e.serial < ln.nextSerial)
    ∧ ∀ a ∈ ln.port.answers, ∀ n ∈ a.serial,
        n < ln.nextSerial ∧ ∀ e ∈ ln.queue, e.serial = n → e.phase = .answered

/-- Each context of a lane has at most one entry WAITING or RUNNING, in the state of that entry's kind (R8, R3), and a RUNNING
one exactly while its job is in flight (R8, R2). -/
def Lane.EntriesSound (ln : Lane) : Prop :=
  (∀ c : CtxNo, (ln.queue.countP fun e => e.live && e.ctx == c) ≤ 1)
    ∧ (∀ e ∈ ln.queue, e.live = true → e.req.fits ln.contexts[e.ctx].body = true)
    ∧ ∀ c : CtxNo, ln.contexts[c].inFlight = true ↔ ∃ e ∈ ln.queue, e.phase = .running ∧ e.ctx = c

/-- The station request queue within 2 entries and the station port within 6 places; only the entry at the head executes, and
only a RESET stays in the queue with its answer produced (R154, R155, R169, R187). -/
def Station.QueueSound (st : Station) : Prop :=
  st.queue.length ≤ stationQueueSize ∧ st.placesHeld ≤ answerPlaces
    ∧ (∀ e ∈ st.queue.drop 1, e.executing = false) ∧ ∀ e ∈ st.queue, e.answered = true → e.executing = true ∧ e.kind = .reset

/-- The four lane request queues and the station request queue within their sizes and places, with the entries, the jobs and
the LOAD in hand that belong together. -/
def State.QueuesSound (s : State) : Prop :=
  (∀ l : LaneNo, s.lanes[l].QueueSound ∧ s.lanes[l].EntriesSound) ∧ s.station.QueueSound
    ∧ s.JobSound ∧ s.StartSound ∧ s.LoadSound

/-! ### One slot for each generation (R64) -/

/-- Two keys of one issuer, role and generation (R64). -/
def KeyData.sameGeneration (a b : KeyData) : Prop :=
  a.issuer = b.issuer ∧ a.role = b.role ∧ a.generation = b.generation

/-- No two occupied slots hold the same issuer, role and generation (R64). -/
def State.OneSlotPerGeneration (s : State) : Prop :=
  ∀ (m n : SlotNo) (a b : KeyData), s.slots[m].data = some a → s.slots[n].data = some b → a.sameGeneration b → m = n

/-- The keys that a slot or its record holds, or that the store action in progress is writing into its record. -/
def State.keysAt (s : State) (n : SlotNo) : List KeyData :=
  s.slots[n].data.toList ++ (match s.store.slots[n] with | .intact r => [r.data] | _ => [])
    ++ (match s.store.action with | some (.writeSlot k r) => if k = n then [r.data] else [] | _ => [])

/-- No generation stands in two places among the slots, their records and the write in progress, so that a start-up fills no
two slots with one generation (R65). -/
def State.KeysApart (s : State) : Prop :=
  ∀ m n : SlotNo, ∀ a ∈ s.keysAt m, ∀ b ∈ s.keysAt n, a.sameGeneration b → m = n

/-- A LOAD_KEY that waits or runs is for an EMPTY slot, and no occupied slot holds its generation (R67 checks 3 and 4). -/
def State.LoadsFresh (s : State) : Prop :=
  ∀ q ∈ s.loadRequests, s.slots[q.slot].body = .empty
    ∧ ∀ (n : SlotNo) (d : KeyData), s.slots[n].data = some d →
        ¬ (d.issuer = q.issuer ∧ d.role = q.role ∧ d.generation = q.generation)

/-- An intact record is that of an occupied slot past its loading, and the write in progress writes its slot's key (R70, R73,
R86). -/
def State.RecordsFollow (s : State) : Prop :=
  (∀ (n : SlotNo) (r : SlotRecord), s.store.slots[n] = .intact r →
    ∃ st, s.slots[n].body = .held st r.data ∧ ∀ stored, st ≠ .loading stored)
    ∧ ∀ (n : SlotNo) (r : SlotRecord), s.store.action = some (.writeSlot n r) → s.slots[n].data = some r.data

/-- Generations apart in slots and store, with what keeps them apart: the LOAD in hand was checked against every slot, and from
the loading of the slot records on the records follow the slots. -/
def State.GenerationsSound (s : State) : Prop :=
  s.StartSound ∧ s.LoadSound ∧ s.KeysApart ∧ (s.loaded = true → s.LoadsFresh ∧ s.RecordsFollow)

/-- The first store write of a LOADING slot is in progress, and the command in front says that its second attempt failed and
left the new content in the record. Then the erase of R71 stands between that record and the next start-up (log entry
27). -/
def State.FailedLoadLeft (s : State) : Prop :=
  s.loaded = true ∧ s.pending.head? = some (.storeActionFailed .new)
    ∧ ∃ n r, s.store.action = some (.writeSlot n r) ∧ s.slots[n].state = .loading

/-- The slot states that a slot of a given state may show later in the same run between two starts (R63). -/
def SlotState.forward : SlotState → SlotState → Bool
  | .staged, b => b != .empty && b != .loading
  | .active, b => b == .active || b == .expired || b == .withdrawn || b == .erasing
  | .expired, b => b == .expired || b == .withdrawn || b == .erasing
  | .withdrawn, b => b == .withdrawn || b == .erasing
  | .erasing, b => b == .erasing || b == .empty
  | _, _ => true

/-! ### The refusals of the lane requests -/

/-- The answer OPEN is refused with, by the checks of R11 in their order and then those of R13 and R94; `none` when it is
taken. `a` is the request read from the body, `none` for a malformed one. -/
def State.openRefusal (s : State) (l : LaneNo) (a : Option OpenArgs) : Option Code :=
  if s.service = .starting then some .notReady
  else if s.service = .seedWait then some .seedRequired
  else if s.config.lanes[l].enabled = false then some .laneOff
  else
    match a with
    | none => some .malformed
    | some a =>
      if 4 ≤ s.lanes[l].queue.length then some .busy
      else if ∀ c : CtxNo, (s.ctx l c).body ≠ .free then some .noContext
      else if (routeLookup s.routes a.tagId).deny then some .denied
      else
        match (routeLookup s.routes a.tagId).issuer with
        | none => some .unrouted
        | some (i, m) =>
          match masterSelection s.slots i m a.generation with
          | .error e => some e
          | .ok _ => none

/-- The answer PROVE or SEAL is refused with, by the checks of R11 in their order with the context resolution of R12; `none`
when it is taken. `named` is the context and ticket of the request, `none` for a malformed one. -/
def State.stepRefusal (s : State) (l : LaneNo) (named : Option (CtxNo × BitVec 8)) (required : CtxBody → Bool) : Option Code :=
  if s.service = .starting then some .notReady
  else if s.config.lanes[l].enabled = false then some .laneOff
  else
    match named with
    | none => some .malformed
    | some (c, ticket) =>
      let x := s.ctx l c
      if x.ticket ≠ ticket then some .stale
      else if x.body = .free ∧ x.endCause = .expired then some .expired
      else if x.body = .free ∧ x.endCause = .revoked then some .keyWithdrawn
      else if x.body = .free then some .stale
      else if s.lanes[l].queue.any fun e => e.phase != .answered && e.ctx == c then some .inProgress
      else if required x.body = false then some .wrongState
      else if 4 ≤ s.lanes[l].queue.length then some .busy
      else none

/-! ### How a command changes a part only -/

/-- `t` is `s` but for its lanes, its station port's side of the frame and the alert outputs. -/
def State.SameOutside (s t : State) (lanes : Vector Lane 4) (station : Station) : Prop :=
  t = { s with lanes := lanes, station := station }

/-- Every lane but one is as before. -/
def State.OtherLanesSame (s t : State) (l : LaneNo) : Prop := ∀ k : LaneNo, k ≠ l → t.lanes[k] = s.lanes[k]

/-- Every slot but one is as before. -/
def State.OtherSlotsSame (s t : State) (n : SlotNo) : Prop := ∀ k : SlotNo, k ≠ n → t.slots[k] = s.slots[k]

/-- A lane port hears a frame and has a free answer place (R9). -/
def State.LaneReady (s : State) (l : LaneNo) : Prop := s.power = true ∧ s.lanes[l].placesHeld < answerPlaces

/-- The station port hears a frame, has a free answer place, and no request waits or executes (R154, R155). -/
def State.StationReady (s : State) : Prop :=
  s.power = true ∧ s.service ≠ .starting ∧ s.station.queue = [] ∧ s.station.port.answers.length < answerPlaces

end Sys2Proof.Machine
end

