-- ==== Sys2Proof/Certificates/Slice0/Obligations.lean ====
section
/-! DEFINITION. The statements for the provers, from the numbered rules of spec/: the queue of commands, the invariants every
step keeps, framing, the lane transactions, the passage table, the key function unit, the slots, the routes, the station
requests, the time base, the store and the starts. An answer enters its queue by `produce` (AnswerEntersQueue), a request
arrives by `laneFrameArrives` or `stationFrameArrives` (FrameArrival), the alert outputs are driven by `driveAlerts`
(AlertsFollowKept), the arbiter chooses by `arbitrate` (ArbiterChoosesUntilBusyOrIdle); the other statements build on these. -/

open Sys2Proof Sys2Proof.Machine

/-! ### The machine -/

/-- A step is `exec` of the command at the front of the queue on the state with the queue's rest; on an empty queue the
block idles (the model's choice, log entry 12). -/
def Obligations.StepExecutesFrontCommand : Prop :=
  (∀ (c : Instr) (rest : List Instr) (s : State),
    step { s with pending := c :: rest } = exec c { s with pending := rest })
    ∧ ∀ s : State, s.pending = [] → step s = .next s

/-- No command stops the module: each answers a next state, in every state (section 1.6, Answers: every request is dealt
with; the model's reading for events that find their condition unmet is log entry 9). The device keys stand through every
command (R109), and no command touches the queue of waiting commands (the model's own). -/
def Obligations.CommandsGoOnAndKeepKeys : Prop :=
  ∀ (c : Instr) (s : State), ∃ t, exec c s = .next t
    ∧ t.kfu.transportKey = s.kfu.transportKey ∧ t.kfu.challengeKey = s.kfu.challengeKey ∧ t.pending = s.pending

/-- The invariants hold of the state right after reset. -/
def Obligations.InvariantsHoldAtReset : Prop :=
  State.reset.AlertsFollow ∧ State.reset.TableSound ∧ State.reset.QueuesSound ∧ State.reset.store.ListSound
    ∧ State.reset.RefsSound ∧ State.reset.GenerationsSound

/-- Every alert output follows its condition after every step (R28, R161, R195): a lane's is driven exactly while its notice set
holds an item, the station's exactly while a latched flag is set whose enable is set. Driving the outputs makes each follow
its condition and changes nothing else. -/
def Obligations.AlertsFollowKept : Prop :=
  let laneDue (ln : Lane) : Prop :=
    (∃ c : CtxNo, ln.notices.lost[c] ≠ none) ∨ ln.notices.serviceChanged = true ∨ ln.notices.signingChanged = true
  let stationDue (s : State) : Prop :=
    ∃ i, i < 21 ∧ s.flags.getLsbD i = true ∧ s.config.items.mask.getLsbD i = true
  (∀ s : State, s.AlertsFollow ↔
      (∀ l : LaneNo, s.lanes[l].alert = true ↔ laneDue s.lanes[l]) ∧ (s.station.alert = true ↔ stationDue s))
    ∧ (∀ s : State,
      let t := s.driveAlerts
      t = { s with lanes := t.lanes, station := { s.station with alert := t.station.alert } }
        ∧ (∀ l : LaneNo, t.lanes[l] = { s.lanes[l] with alert := t.lanes[l].alert }) ∧ t.AlertsFollow)
    ∧ ∀ s t : State, s.AlertsFollow → step s = .next t → t.AlertsFollow

/-- The passage table keeps its order (never two entries of one tag ID), its size, and its tie to the contexts: PROVED or
SEALING exactly when the table holds the context's claim (R3, R36). -/
def Obligations.TableSoundKept : Prop :=
  ∀ s t : State, s.TableSound → step s = .next t → t.TableSound

/-- The lane request queues keep to 4 entries and 6 places, the station request queue to 2 entries and its port to 6 places
(R8, R9, R154, R155, R187); each context keeps at most one entry WAITING or RUNNING, in the state of that entry's kind (R8).
With them stand what they rest on: the job in flight with its marks (R2), nothing in hand in STARTING, and one LOAD_KEY in
hand, whose request executes (R154). The serials by which an answer names its entry are the model's own (log entry 6). -/
def Obligations.QueuesSoundKept : Prop :=
  ∀ s t : State, s.QueuesSound → step s = .next t → t.QueuesSound

/-- The pending write list keeps at most one entry for each record, and nothing waits while no action is in progress (R172,
R173). -/
def Obligations.StoreListKept : Prop :=
  ∀ s t : State, s.store.ListSound → step s = .next t → t.store.ListSound

/-- From the loading of the slot records on, every reference count equals the uses of its slot (R83), with the job-in-flight
marks standing for the job in flight (R2) and nothing in hand while the module is STARTING. -/
def Obligations.ReferenceCountsKept : Prop :=
  ∀ s t : State, s.RefsSound → step s = .next t → t.RefsSound

/-- Between one start-up and the next a slot never returns from EXPIRED to ACTIVE, from ACTIVE to STAGED, nor from
WITHDRAWN or ERASING to a selectable state (R63). The slot of a LOAD job in flight is EMPTY in every run (R68), so no such
slot is meant. -/
def Obligations.SlotsMoveForward : Prop :=
  ∀ (c : Instr) (s t : State) (n : SlotNo), exec c s = .next t → s.power = true → t.power = true → c ≠ .startUp →
    (∀ req k, s.kfu.job = some (.loadJob req k) → req.slot ≠ n) →
    SlotState.forward s.slots[n].state t.slots[n].state = true

/-- The service state moves only as the table of R157 gives, each move with its cause and its notices. The premise, nothing in
hand while the module is STARTING, is part of what ReferenceCountsKept states of every step. -/
def Obligations.ServiceStateMoves : Prop :=
  (∀ (c : Instr) (s t : State), s.StartSound → exec c s = .next t → s.power = true → t.power = true →
    t.service ≠ s.service →
    (t.service = .starting ∧ c = .answerTransmitted .station)
      ∨ (s.service = .starting ∧ t.service = .serving ∧ c = .storeActionComplete
          ∧ (∃ b, s.store.action = some (.writeBoot b)) ∧ ∀ l : LaneNo, t.lanes[l].notices.serviceChanged = true)
      ∨ (s.service = .starting ∧ t.service = .seedWait
          ∧ ((c = .startUp ∧ ∀ b, s.store.boot = .intact b → b = 0xFFFFFFFF)
            ∨ ∃ x b, c = .storeActionFailed x ∧ s.store.action = some (.writeBoot b))
          ∧ ∀ l : LaneNo, t.lanes[l].notices = s.lanes[l].notices)
      ∨ (s.service = .serving ∧ t.service = .seedWait
          ∧ ((c = .openCompletion ∧ s.kfu.sequence = 0xFFFFFFFF ∧ s.kfu.bootCount = 0xFFFFFFFF)
            ∨ ∃ x b, c = .storeActionFailed x ∧ s.store.action = some (.writeBoot b))
          ∧ ∀ l : LaneNo, t.lanes[l].notices.serviceChanged = true)
      ∨ (s.service = .seedWait ∧ t.service = .serving ∧ c = .storeActionComplete
          ∧ (∃ b, s.store.action = some (.writeBoot b)) ∧ s.station.isExecuting .reseed = true
          ∧ ∀ l : LaneNo, t.lanes[l].notices.serviceChanged = true))
    ∧ ∀ (low : Bool) (s t : State), s.power = false → exec (.powerOn low) s = .next t → t.service = .starting

/-! ### Frames and answers (Chapter 10) -/

/-- A frame formed for the line (R185, R188, R199) is read by the receiver, from HUNT or from an open empty frame, as that
frame: it passes the frame check, is the one valid frame handed off, and leaves the receiver with the next frame open. -/
def Obligations.FrameRoundTrip : Prop :=
  ∀ (kind tag : Byte) (body : List Byte) (rx : Rx), body.length ≤ maxBody → rx = .hunt ∨ rx = Rx.opened →
    let content := frameContent kind tag body
    framePasses content = true
      ∧ frameOf content = { kind := kind, tag := tag, length := BitVec.ofNat 8 body.length, body := body }
      ∧ (rxRun rx ((frameLine content).map LineChar.byte)).1 = Rx.opened
      ∧ (rxRun rx ((frameLine content).map LineChar.byte)).2.filter (fun e => e != .quiet) = [.frame (frameOf content)]

/-- The characters of a request's frame, received one by one, do what the request's row does (R184 to R186, R200). -/
def Obligations.RequestFrameReceivedIsItsRow : Prop :=
  ∀ (i : Instr) (p : Port) (kind tag : Byte) (body : List Byte) (s : State),
    i.request = some (p, kind, tag, body) → body.length ≤ maxBody →
    (s.portOf p).rx = .hunt ∨ (s.portOf p).rx = Rx.opened →
    exec i s = s.powered fun s => s.receiveAll p ((frameLine (frameContent kind tag body)).map LineChar.byte)

/-- The receiver's table (R184), with the frame check at the closing flag, and the CRC (R185): the register starts at FFFF hex
and each byte is taken most significant bit first; for each bit the register is shifted one place, and combined with 1021 hex
when the bit shifted out differs from the data bit. -/
def Obligations.ReceiverFollowsTable : Prop :=
  let shifted (reg : BitVec 16) (data : Bool) : BitVec 16 :=
    if reg.getLsbD 15 = data then reg <<< 1 else (reg <<< 1) ^^^ 0x1021#16
  (crc16 [] = 0xFFFF#16
      ∧ ∀ (bs : List Byte) (b : Byte),
        crc16 (bs ++ [b]) =
          shifted (shifted (shifted (shifted (shifted (shifted (shifted (shifted (crc16 bs) (b.getLsbD 7)) (b.getLsbD 6))
            (b.getLsbD 5)) (b.getLsbD 4)) (b.getLsbD 3)) (b.getLsbD 2)) (b.getLsbD 1)) (b.getLsbD 0))
    ∧ (∀ b : Byte, rxStep .hunt (.byte b) = if b = 0x7E then (.assemble [] false, .quiet) else (.hunt, .quiet))
    ∧ rxStep .hunt .error = (.hunt, .quiet)
    ∧ (∀ buf : List Byte, rxStep (.assemble buf false) (.byte 0x7E) =
        (.assemble [] false,
          if buf = [] then .quiet
          else if 5 ≤ buf.length
              ∧ crc16 (buf.take (buf.length - 2)) = fieldAt 16 buf (buf.length - 2) 2 then .frame (frameOf buf)
          else .fault))
    ∧ (∀ buf : List Byte, rxStep (.assemble buf false) (.byte 0x7D) = (.assemble buf true, .quiet))
    ∧ (∀ (buf : List Byte) (b : Byte), b ≠ 0x7E → b ≠ 0x7D → rxStep (.assemble buf false) (.byte b) =
        if buf.length < 64 then (.assemble (buf ++ [b]) false, .quiet) else (.hunt, .fault))
    ∧ (∀ (buf : List Byte) (b stored : Byte), b = 0x5E ∧ stored = 0x7E ∨ b = 0x5D ∧ stored = 0x7D →
        rxStep (.assemble buf true) (.byte b) =
          if buf.length < 64 then (.assemble (buf ++ [stored]) false, .quiet) else (.hunt, .fault))
    ∧ (∀ buf : List Byte, rxStep (.assemble buf true) (.byte 0x7E) = (.assemble [] false, .quiet))
    ∧ (∀ (buf : List Byte) (b : Byte), b ≠ 0x5E → b ≠ 0x5D → b ≠ 0x7E →
        rxStep (.assemble buf true) (.byte b) = (.hunt, .fault))
    ∧ ∀ (buf : List Byte) (esc : Bool), rxStep (.assemble buf esc) .error = (.hunt, .fault)

/-- FRAME_DISCARDED and ABORT_SEQUENCE (R184, R185). Characters that only fill a frame and one that discards it latch the
frame fault of the port, leave the receiver as the table says, and change nothing else. An abort sequence discards the frame
so far and opens a new one, and nothing else changes; no flag is latched. -/
def Obligations.DiscardsAndAbortsAtThePort : Prop :=
  (∀ (s : State) (p : Port) (cs : List LineChar) (c : LineChar) (rx rx' : Rx), s.power = true →
    (rxRun (s.portOf p).rx cs).1 = rx → (∀ e ∈ (rxRun (s.portOf p).rx cs).2, e = .quiet) →
    rxStep rx c = (rx', .fault) →
    ∃ u : State, exec (.frameDiscarded p (cs ++ [c])) s = .next u.driveAlerts
      ∧ match p with
        | .lane l =>
          u = { s with flags := s.flags ||| (1#21 <<< (12 + l.val))
                       lanes := s.lanes.set l { s.lanes[l] with port := { s.lanes[l].port with rx := rx' } } }
        | .station =>
          u = { s with flags := s.flags ||| (1#21 <<< 16)
                       station := { s.station with port := { s.station.port with rx := rx' } } })
    ∧ ∀ (s : State) (p : Port), s.power = true →
      ∃ u : State, exec (.abortSequence p) s = .next u.driveAlerts
        ∧ match p with
          | .lane l =>
            u = { s with
                  lanes := s.lanes.set l { s.lanes[l] with port := { s.lanes[l].port with rx := .assemble [] false } } }
          | .station =>
            u = { s with station := { s.station with port := { s.station.port with rx := .assemble [] false } } }

/-- MALFORMED_FRAME: with a free answer place, a valid frame whose length byte disagrees with its body or whose kind is no
request kind of the port is answered MALFORMED in every service state; the link is dealt with first (R186). -/
def Obligations.MalformedFrameAnswered : Prop :=
  (∀ (s : State) (l : LaneNo) (kind tag length : Byte) (body : List Byte), s.LaneReady l →
    length.toNat ≠ body.length ∨ kind ∉ ([0x01, 0x02, 0x03, 0x04, 0x05] : List Byte) →
    exec (.malformedFrame (.lane l) kind tag length body) s =
      .next ((s.laneFrameArrives l).produce (.lane l)
        { kind := kind, tag := tag, reply := .code .malformed, serial := none }).driveAlerts)
    ∧ ∀ (s : State) (kind tag length : Byte) (body : List Byte), s.power = true → s.station.placesHeld < 6 →
      length.toNat ≠ body.length
        ∨ kind ∉ ([0x10, 0x11, 0x12, 0x13, 0x14, 0x15, 0x20, 0x21, 0x22, 0x28, 0x29, 0x30, 0x38, 0x39, 0x3A] : List Byte) →
      exec (.malformedFrame .station kind tag length body) s =
        .next (s.stationFrameArrives.produce .station
          { kind := kind, tag := tag, reply := .code .malformed, serial := none }).driveAlerts

/-- With all 6 answer places held a valid frame is discarded without an answer, a request and a MALFORMED_FRAME alike (R186
step 2 comes before the length and the kind are looked at): on a lane port FLOOD of the lane is latched and only the link is
dealt with, on the station port no flag is latched (R9, R155, R186). -/
def Obligations.FullAnswerQueueDiscards : Prop :=
  (∀ (i : Instr) (s : State) (l : LaneNo) (kind tag : Byte) (body : List Byte),
    i.request = some (.lane l, kind, tag, body) → s.power = true → 6 ≤ s.lanes[l].placesHeld →
    exec i s = .next (State.driveAlerts
      { s.laneFrameArrives l with flags := s.flags ||| (1#21 <<< (17 + l.val)) }))
    ∧ (∀ (i : Instr) (s : State) (kind tag : Byte) (body : List Byte),
      i.request = some (.station, kind, tag, body) → s.power = true → 6 ≤ s.station.placesHeld →
      exec i s = .next s.stationFrameArrives.driveAlerts)
    ∧ ∀ (s : State) (kind tag length : Byte) (body : List Byte), s.power = true →
      (∀ l : LaneNo, 6 ≤ s.lanes[l].placesHeld →
        exec (.malformedFrame (.lane l) kind tag length body) s = .next (State.driveAlerts
          { s.laneFrameArrives l with flags := s.flags ||| (1#21 <<< (17 + l.val)) }))
        ∧ (6 ≤ s.station.placesHeld →
            exec (.malformedFrame .station kind tag length body) s = .next s.stationFrameArrives.driveAlerts)

/-- A valid frame on a lane port: the link is UP, with SERVICE_CHANGED if it was DOWN, and while the link timeout is not 0
the link deadline is the tick count plus the timeout in ticks, rounded up (R190, R192, R33); with the timeout 0 it stands (a
deadline of a DOWN link too: log entry 34). On either kind of port the closing flag empties the receive buffer and opens the next
frame (R184); on the station port that is all that changes before the frame is examined (R186). -/
def Obligations.FrameArrival : Prop :=
  (∀ s : State,
    s.stationFrameArrives =
      { s with station := { s.station with port := { s.station.port with rx := .assemble [] false } } })
    ∧ ∀ (s : State) (l : LaneNo),
      let t := s.laneFrameArrives l
      let ln := t.lanes[l]
      let old := s.lanes[l]
      t = { s with lanes := t.lanes } ∧ s.OtherLanesSame t l
        ∧ ln = { old with
                  port := { old.port with rx := .assemble [] false }
                  linkUp := true
                  linkDeadline := ln.linkDeadline
                  lastFrame := some s.clock.mono
                  notices := if old.linkUp then old.notices else { old.notices with serviceChanged := true } }
        ∧ (s.config.lanes[l].linkTimeout = 0 → ln.linkDeadline = old.linkDeadline)
        ∧ (s.config.lanes[l].linkTimeout ≠ 0 → ∃ d, ln.linkDeadline = some (s.clock.mono + d)
            ∧ s.config.lanes[l].linkTimeout.toNat * 1024 ≤ d * 1000
            ∧ d * 1000 < s.config.lanes[l].linkTimeout.toNat * 1024 + 1000)

/-- An answer enters its port's queue behind those before it; when none is before it its transmission begins, with the frame of
R188 at the port's rate (R10, R187, R188, R183). ANSWER_TRANSMITTED: the answer at the head leaves, the next one begins, and
the lane queue entry it answered leaves its queue; nothing else changes (R8, R187). That the transmission of an answer with none
before it begins in the step that produces it is log entry 19, and that an answer finds its entry by a serial is log entry 6.
The answer of a RESET is another statement. -/
def Obligations.AnswersQueueInOrder : Prop :=
  (∀ (s : State) (p : Port) (a : Answer),
    let t := s.produce p a
    (t.portOf p).answers = (s.portOf p).answers ++ [a]
      ∧ (t.portOf p).rx = (s.portOf p).rx
      ∧ ((s.portOf p).answers ≠ [] → (t.portOf p).tx = (s.portOf p).tx)
      ∧ ((s.portOf p).answers = [] →
          (t.portOf p).tx = .sending
            ([0x7E] ++ (frameContent (a.kind ||| 0x80) a.tag a.reply.bytes).flatMap escaped ++ [0x7E])
            (match p with | .lane _ => s.laneRate | .station => .r115200))
      ∧ (match p with
        | .lane l =>
          t = { s with lanes := t.lanes } ∧ s.OtherLanesSame t l
            ∧ t.lanes[l] = { s.lanes[l] with port := t.lanes[l].port }
        | .station => t = { s with station := { s.station with port := t.station.port } }))
    ∧ (∀ (s : State) (l : LaneNo) (a : Answer) (rest : List Answer), s.lanes[l].port.answers = a :: rest →
    ∃ u : State, exec (.answerTransmitted (.lane l)) s = .next u.driveAlerts
      ∧ u = { s with lanes := u.lanes } ∧ s.OtherLanesSame u l
      ∧ u.lanes[l] = { s.lanes[l] with port := u.lanes[l].port, queue := u.lanes[l].queue }
      ∧ u.lanes[l].port.answers = rest ∧ u.lanes[l].port.rx = s.lanes[l].port.rx
      ∧ u.lanes[l].port.tx = (match rest with | [] => .idle | b :: _ => .sending b.line s.laneRate)
      ∧ u.lanes[l].queue = s.lanes[l].queue.filter fun e => a.serial != some e.serial)
    ∧ ∀ (s : State) (a : Answer) (rest : List Answer), s.station.port.answers = a :: rest →
      ¬ (a.kind = 0x15 ∧ a.reply = .code .ok) →
      ∃ u : State, exec (.answerTransmitted .station) s = .next u.driveAlerts
        ∧ u = { s with station := { s.station with port := u.station.port } }
        ∧ u.station.port.answers = rest ∧ u.station.port.rx = s.station.port.rx
        ∧ u.station.port.tx = (match rest with | [] => .idle | b :: _ => .sending b.line .r115200)

/-- The answer bodies byte by byte (R197, R198, R201, R202, R204, R205) and the content of a transit record (R203): what a reader
finds at each offset, most significant byte first (R196), with the codes of R200. A field of one or two bytes that holds a
count is said for the counts that fit it. CLEAR_ROUTE's answer has R202's two bytes, without the index R99 names (log
entry 28). READ_TIME's follows R202's list (log entry 30), SET_CONFIG's has the arbiter mode in it (R165, R202; log entry
32). -/
def Obligations.AnswerBodiesLaidOut : Prop :=
  let field (b : List Byte) (off n : Nat) : Nat := ((b.drop off).take n).foldl (fun a x => a * 256 + x.toNat) 0
  let bits (b : List Byte) (off : Nat) (flags : List Bool) : Prop :=
    ∀ i, i < 8 → (field b off 1).testBit i = flags.getD i false
  let ok (b : List Byte) (n : Nat) : Prop := b.length = n ∧ field b 0 1 = 0
  (∀ (c : Code) (n : Nat), (c, n) ∈
      [(Code.ok, 0x00), (.busy, 0x01), (.notReady, 0x02), (.malformed, 0x03), (.seedRequired, 0x04), (.laneOff, 0x05), (.noContext, 0x06),
        (.stale, 0x07), (.inProgress, 0x08), (.wrongState, 0x09), (.expired, 0x0A), (.denied, 0x0B), (.unrouted, 0x0C),
        (.oldGeneration, 0x0D), (.unknownGeneration, 0x0E), (.generationPending, 0x0F), (.generationExpired, 0x10),
        (.keyWithdrawn, 0x11), (.authFailed, 0x12), (.noSigningKey, 0x13), (.dropped, 0x14), (.slotRange, 0x20),
        (.slotOccupied, 0x21), (.slotEmpty, 0x22), (.slotBusy, 0x23), (.duplicateGeneration, 0x24), (.notHome, 0x25),
        (.windowPast, 0x26), (.checkFailed, 0x27), (.storeFailed, 0x28), (.routeRange, 0x29), (.valueRange, 0x2A)] →
      (Reply.code c).bytes = [BitVec.ofNat 8 n])
    ∧ (∀ (c : CtxNo) (ticket : BitVec 8) (ch : Mac),
      let b := (Reply.opened c ticket ch).bytes
      ok b 11 ∧ field b 1 1 = c.val ∧ field b 2 1 = ticket.toNat ∧ field b 3 8 = ch.toNat)
    ∧ (∀ (v : Verdict) (watch suspect : Bool) (owner : Option LaneNo) (time : Option Seconds),
      let b := (Reply.verdict v watch suspect owner time).bytes
      ok b 8
        ∧ field b 1 1 = (match v with
          | .new => 1 | .suspect => 2 | .duplicate => 3 | .reread => 4 | .rereadUnwritten => 5 | .suspectHeld => 6)
        ∧ bits b 2 [watch, suspect, owner.isSome, time.isSome]
        ∧ field b 3 1 = (match owner with | some l => l.val | none => 0)
        ∧ field b 4 4 = (match time with | some t => t.toNat | none => 0))
    ∧ (∀ (r : TransitRecord) (mac : Mac),
      let b := (Reply.record r mac).bytes
      ok b 33 ∧ (b.drop 1).take 24 = r.bytes ∧ field b 25 8 = mac.toNat)
    ∧ (∀ r : TransitRecord,
      let b := r.bytes
      b.length = 24 ∧ field b 0 2 = r.gantry.toNat ∧ field b 2 1 = r.lane.val ∧ field b 3 4 = r.seconds.toNat
        ∧ field b 7 2 = r.fraction.toNat + (if r.unsynchronised then 32768 else 0)
        ∧ field b 9 6 = r.tagId.toNat ∧ field b 15 1 = r.issuer.toNat ∧ field b 16 2 = r.counter.toNat
        ∧ field b 18 1 = r.vehicleClass.toNat ∧ field b 19 2 = r.generation.toNat
        ∧ bits b 21 [r.holdover, r.suspect, r.watch] ∧ field b 22 2 = r.readerRef.toNat)
    ∧ (∀ p : PollReport,
      let b := (Reply.poll p).bytes
      ok b 11
        ∧ (match p.notice with
          | .none => field b 1 4 = 0
          | .contextLost c ticket cause =>
            field b 1 1 = 1 ∧ field b 2 1 = c.val ∧ field b 3 1 = ticket.toNat
              ∧ field b 4 1 = (match cause with | .expired => 1 | .revoked => 2)
          | .serviceChanged => field b 1 1 = 2 ∧ field b 2 3 = 0
          | .signingChanged => field b 1 1 = 3 ∧ field b 2 3 = 0)
        ∧ (p.left < 256 → field b 5 1 = p.left)
        ∧ field b 6 1 = (match p.service with | .starting => 0 | .seedWait => 1 | .serving => 2)
        ∧ field b 7 1 = (match p.lane with | .up => 0 | .down => 1 | .off => 2)
        ∧ bits b 8 [p.timeValid] ∧ field b 9 2 = (match p.signing with | some g => g.toNat | none => 0))
    ∧ (∀ r : StatusReport,
      let b := (Reply.status r).bytes
      ok b 16 ∧ field b 1 3 = r.flags.toNat
        ∧ field b 4 1 = (match r.service with | .starting => 0 | .seedWait => 1 | .serving => 2)
        ∧ bits b 5 [r.timeValid, r.backupLow, r.storeBusy, r.boot.isSome]
        ∧ (∀ l : LaneNo, field b (6 + l.val) 1 = (match r.lanes[l] with | .up => 0 | .down => 1 | .off => 2))
        ∧ (r.entries < 65536 → field b 10 2 = r.entries)
        ∧ field b 12 4 = (match r.boot with | some n => n.toNat | none => 0))
    ∧ (∀ (clamped : Bool) (l : LaneNo) (set : LaneSettings),
      let b := (Reply.lane clamped l set).bytes
      ok b 8 ∧ bits b 1 [clamped] ∧ field b 2 1 = l.val ∧ field b 3 1 = (if set.enabled then 1 else 0)
        ∧ field b 4 2 = set.dwell.toNat ∧ field b 6 2 = set.linkTimeout.toNat)
    ∧ (∀ (clamped : Bool) (c : ConfigItems),
      let b := (Reply.config clamped c).bytes
      ok b 14 ∧ bits b 1 [clamped] ∧ field b 2 2 = c.gantry.toNat ∧ field b 4 1 = c.home.toNat
        ∧ field b 5 2 = c.window.toNat ∧ field b 7 2 = c.holdover.toNat
        ∧ field b 9 1 = (match c.mode with | .rotating => 0 | .fixedUp => 1 | .fixedDown => 2)
        ∧ field b 10 3 = c.mask.toNat
        ∧ field b 13 1 = (match c.rate with | .r115200 => 0 | .r230400 => 1 | .r460800 => 2 | .r921600 => 3))
    ∧ (∀ (st : SlotState) (n : Nat), (st, n) ∈
        [(SlotState.empty, 0), (.loading, 1), (.staged, 2), (.active, 3), (.expired, 4), (.withdrawn, 5), (.erasing, 6)] →
      (ok (Reply.loaded st).bytes 2 ∧ field (Reply.loaded st).bytes 1 1 = n)
        ∧ (∀ refs,
          let b := (Reply.withdrawn st refs).bytes
          ok b 3 ∧ field b 1 1 = n ∧ (refs < 256 → field b 2 1 = refs))
        ∧ (∀ refs,
          let b := (Reply.slot st none refs).bytes
          ok b 19 ∧ field b 1 1 = n ∧ field b 2 17 = 0)
        ∧ ∀ (d : KeyReport) (refs : Nat),
          let b := (Reply.slot st (some d) refs).bytes
          ok b 19 ∧ field b 1 1 = n ∧ field b 2 1 = d.issuer.toNat
            ∧ field b 3 1 = (match d.role with | .tagMaster => 1 | .record => 2)
            ∧ field b 4 2 = d.generation.toNat ∧ field b 6 4 = d.activation.toNat
            ∧ field b 10 4 = (match d.expiry with | some e => e.toNat | none => 4294967295)
            ∧ field b 14 4 = d.check.toNat ∧ (refs < 256 → field b 18 1 = refs))
    ∧ (∀ (clamped : Bool) (i : RouteNo) (r : Route),
      let b := (Reply.route clamped i r).bytes
      ok b 19 ∧ bits b 1 [clamped] ∧ field b 2 1 = i.val ∧ bits b 3 [r.deny, r.watch, r.strict, r.enabled]
        ∧ field b 4 6 = r.compare.toNat ∧ field b 10 6 = r.mask.toNat ∧ field b 16 1 = r.issuer.toNat
        ∧ field b 17 2 = r.minGen.toNat)
    ∧ (∀ (i : RouteNo) (before : Bool),
      let b := (Reply.cleared i before).bytes
      ok b 2 ∧ field b 1 1 = (if before then 1 else 0))
    ∧ (let b := (Reply.passage none).bytes
      ok b 14 ∧ field b 1 13 = 0)
    ∧ (∀ p : PassageReport,
      let b := (Reply.passage (some p)).bytes
      ok b 14 ∧ field b 1 1 = (if p.claimed then 1 else 2) ∧ field b 2 1 = p.lane.val ∧ field b 3 2 = p.counter.toNat
        ∧ field b 5 4 = (match p.sealTime with | some t => t.toNat | none => 0)
        ∧ (∀ left, p.secondsLeft = some left → left < 65536 → field b 9 2 = left)
        ∧ (p.secondsLeft = none → field b 9 2 = 0)
        ∧ field b 11 1 = (if p.previous.isSome then 1 else 0)
        ∧ field b 12 2 = (match p.previous with | some k => k.toNat | none => 0))
    ∧ (∀ (t : Seconds) (f : BitVec 10) (valid : Bool),
      let b := (Reply.timeSet t f valid).bytes
      ok b 8 ∧ field b 1 4 = t.toNat ∧ field b 5 2 = f.toNat ∧ field b 7 1 = if valid then 1 else 0)
    ∧ (∀ t : BitVec 8, ok (Reply.trim t).bytes 2 ∧ field (Reply.trim t).bytes 1 1 = t.toNat)
    ∧ ∀ t : TimeReport,
      let b := (Reply.time t).bytes
      ok b 13 ∧ field b 1 4 = t.seconds.toNat ∧ field b 5 2 = t.fraction.toNat
        ∧ bits b 7 [t.timeValid, t.backupLow, t.lastLoss.isSome] ∧ field b 8 1 = t.trim.toNat
        ∧ field b 9 4 = (match t.lastLoss with | some s => s.toNat | none => 0)

/-! ### Lane transactions (Chapter 1) -/

/-- OPEN, PROVE and SEAL refused: the first check that fails gives the answer, which is all that the request leaves (R11, R12,
R13, R94). -/
def Obligations.LaneRequestsRefusedInOrder : Prop :=
  ∀ (s : State) (l : LaneNo) (tag : Byte) (body : List Byte) (code : Code), s.LaneReady l →
    let refused (i : Instr) (kind : Byte) : Prop :=
      exec i s =
        .next ((s.laneFrameArrives l).produce (.lane l)
          { kind := kind, tag := tag, reply := .code code, serial := none }).driveAlerts
    (s.openRefusal l (readOpen body) = some code → refused (.openReq l tag body) 0x01)
      ∧ (s.stepRefusal l ((readProve body).map fun a => (a.ctx, a.ticket))
          (fun b => match b with | .opened _ _ _ => true | _ => false) = some code →
        refused (.proveReq l tag body) 0x02)
      ∧ (s.stepRefusal l ((readSeal body).map fun a => (a.ctx, a.ticket))
          (fun b => match b with | .proved _ _ _ => true | _ => false) = some code →
        refused (.sealReq l tag body) 0x03)

/-- The lane request bodies (R201) and which of them are malformed (R11): a wrong length, a context number above 2, a tag
generation of 0 or above 4095, a vehicle class above 15. -/
def Obligations.LaneBodiesRead : Prop :=
  (∀ (id : TagId) (g : Gen) (c : Counter) (n : BitVec 32),
    readOpen (wire 6 id ++ wire 2 g ++ wire 2 c ++ wire 4 n) =
      if 1 ≤ g.toNat ∧ g.toNat ≤ 4095 then some { tagId := id, generation := g, counter := c, nonce := n } else none)
    ∧ (∀ (ctx ticket : Byte) (r : Mac),
      (∀ h : ctx.toNat < 3, readProve ([ctx, ticket] ++ wire 8 r) = some { ctx := ⟨ctx.toNat, h⟩, ticket := ticket, response := r })
        ∧ (2 < ctx.toNat → readProve ([ctx, ticket] ++ wire 8 r) = none))
    ∧ (∀ (first ticket : Byte) (ref : BitVec 16),
      (∀ h : first.toNat / 64 < 3, first.toNat % 64 ≤ 15 →
        readSeal ([first, ticket] ++ wire 2 ref) =
          some { ctx := ⟨first.toNat / 64, h⟩, ticket := ticket, vehicleClass := BitVec.ofNat 4 (first.toNat % 64),
                 readerRef := ref })
        ∧ (first.toNat / 64 = 3 ∨ 15 < first.toNat % 64 → readSeal ([first, ticket] ++ wire 2 ref) = none))
    ∧ (∀ ctx ticket : Byte,
      (∀ h : ctx.toNat < 3, readDrop [ctx, ticket] = some { ctx := ⟨ctx.toNat, h⟩, ticket := ticket })
        ∧ (2 < ctx.toNat → readDrop [ctx, ticket] = none))
    ∧ (∀ b : List Byte, b.length ≠ 14 → readOpen b = none) ∧ (∀ b : List Byte, b.length ≠ 10 → readProve b = none)
    ∧ (∀ b : List Byte, b.length ≠ 4 → readSeal b = none) ∧ (∀ b : List Byte, b.length ≠ 2 → readDrop b = none)
    ∧ ∀ b : List Byte, readEmpty b = none ↔ b ≠ []

/-- OPEN taken (R14, R4, R95): the lowest-numbered FREE context becomes OPENING with its ticket one higher, the tag's fields,
the captured route values, the master slot reference and a deadline of the dwell limit in ticks, rounded up; the slot's
count rises; a WAITING entry is appended; nothing else changes before the arbiter looks (R115). -/
def Obligations.OpenTaken : Prop :=
  ∀ (s : State) (l : LaneNo) (tag : Byte) (body : List Byte) (a : OpenArgs) (c : CtxNo) (i : Byte) (m : Gen)
    (n : SlotNo), s.LaneReady l → s.service = .serving → s.config.lanes[l].enabled = true → readOpen body = some a →
    s.lanes[l].queue.length < 4 → (s.ctx l c).body = .free → (∀ d : CtxNo, d < c → (s.ctx l d).body ≠ .free) →
    (routeLookup s.routes a.tagId).deny = false → (routeLookup s.routes a.tagId).issuer = some (i, m) →
    masterSelection s.slots i m a.generation = .ok n →
    ∃ u : State, exec (.openReq l tag body) s = .next u.arbitrate.driveAlerts
      ∧ u = { s with lanes := u.lanes, slots := u.slots } ∧ s.OtherLanesSame u l ∧ s.OtherSlotsSame u n
      ∧ u.slots[n] = { s.slots[n] with refs := s.slots[n].refs + 1 }
      ∧ u.lanes[l] =
          { (s.laneFrameArrives l).lanes[l] with
            contexts := u.lanes[l].contexts
            queue := s.lanes[l].queue ++
              [{ serial := s.lanes[l].nextSerial, req := .openReq, tag := tag, ctx := c, phase := .waiting, discard := false }]
            nextSerial := s.lanes[l].nextSerial + 1 }
      ∧ (∀ d : CtxNo, d ≠ c → u.ctx l d = s.ctx l d)
      ∧ ∃ dwell, s.config.lanes[l].dwell.toNat * 1024 ≤ dwell * 1000
          ∧ dwell * 1000 < s.config.lanes[l].dwell.toNat * 1024 + 1000
          ∧ u.ctx l c =
            { s.ctx l c with
              ticket := (s.ctx l c).ticket + 1
              body := .opening
                { tagId := a.tagId, generation := a.generation, counter := a.counter, nonce := a.nonce, issuer := i,
                  watch := (routeLookup s.routes a.tagId).watch, strict := (routeLookup s.routes a.tagId).strict,
                  deadline := s.clock.mono + dwell } n }

/-- PROVE and SEAL taken (R16, R19): the context becomes PROVING or SEALING with all it holds kept, a WAITING entry with the
request's own fields is appended, and nothing else changes before the arbiter looks (R115). -/
def Obligations.ProveAndSealTaken : Prop :=
  (∀ (s : State) (l : LaneNo) (tag : Byte) (body : List Byte) (a : ProveArgs) (o : Occupancy) (m : SlotNo) (p : TagProof),
    s.LaneReady l → s.service ≠ .starting → s.config.lanes[l].enabled = true → readProve body = some a →
    (s.ctx l a.ctx).ticket = a.ticket → (s.ctx l a.ctx).body = .opened o m p →
    (∀ e ∈ s.lanes[l].queue, e.ctx = a.ctx → e.phase = .answered) → s.lanes[l].queue.length < 4 →
    ∃ u : State, exec (.proveReq l tag body) s = .next u.arbitrate.driveAlerts
      ∧ u = { s with lanes := u.lanes } ∧ s.OtherLanesSame u l
      ∧ u.lanes[l] =
          { (s.laneFrameArrives l).lanes[l] with
            contexts := s.lanes[l].contexts.set a.ctx { s.ctx l a.ctx with body := .proving o m p }
            queue := s.lanes[l].queue ++
              [{ serial := s.lanes[l].nextSerial, req := .proveReq a.response, tag := tag, ctx := a.ctx, phase := .waiting,
                 discard := false }]
            nextSerial := s.lanes[l].nextSerial + 1 })
    ∧ ∀ (s : State) (l : LaneNo) (tag : Byte) (body : List Byte) (a : SealArgs) (o : Occupancy) (p : TagProof)
        (v : ClaimVerdict),
      s.LaneReady l → s.service ≠ .starting → s.config.lanes[l].enabled = true → readSeal body = some a →
      (s.ctx l a.ctx).ticket = a.ticket → (s.ctx l a.ctx).body = .proved o p v →
      (∀ e ∈ s.lanes[l].queue, e.ctx = a.ctx → e.phase = .answered) → s.lanes[l].queue.length < 4 →
      ∃ u : State, exec (.sealReq l tag body) s = .next u.arbitrate.driveAlerts
        ∧ u = { s with lanes := u.lanes } ∧ s.OtherLanesSame u l
        ∧ u.lanes[l] =
            { (s.laneFrameArrives l).lanes[l] with
              contexts := s.lanes[l].contexts.set a.ctx { s.ctx l a.ctx with body := .sealing o p v }
              queue := s.lanes[l].queue ++
                [{ serial := s.lanes[l].nextSerial, req := .sealReq a.vehicleClass a.readerRef, tag := tag, ctx := a.ctx,
                   phase := .waiting, discard := false }]
              nextSerial := s.lanes[l].nextSerial + 1 }

/-- A context ends (R5): the master reference is released, the claim is released when the state is PROVED or SEALING, the
fields and the pending end become absent, the end cause is recorded, the ticket stands (R4), and EXPIRED or REVOKED adds a
CONTEXT_LOST notice. -/
def Obligations.ContextEndSteps : Prop :=
  ∀ (s : State) (l : LaneNo) (c : CtxNo) (cause : EndCause),
    let x := s.ctx l c
    let t := s.endContext l c cause
    t = { s with lanes := t.lanes, slots := t.slots, store := t.store, table := t.table }
      ∧ s.OtherLanesSame t l
      ∧ t.lanes[l] = { s.lanes[l] with
          contexts := s.lanes[l].contexts.set c { x with body := .free, pendingEnd := none, endCause := cause }
          notices := t.lanes[l].notices }
      ∧ t.lanes[l].notices =
          (match cause with
          | .expired => { s.lanes[l].notices with
              lost := s.lanes[l].notices.lost.set c (some { ticket := x.ticket, cause := .expired }) }
          | .revoked => { s.lanes[l].notices with
              lost := s.lanes[l].notices.lost.set c (some { ticket := x.ticket, cause := .revoked }) }
          | _ => s.lanes[l].notices)
      ∧ (match x.body.master with
        | some n => t.slots = (s.release n).slots ∧ t.store = (s.release n).store
        | none => t.slots = s.slots ∧ t.store = s.store)
      ∧ t.table = if x.body.hasClaim then (s.releaseClaim l c).table else s.table

/-- An ending from outside a job (R5, R6): a FREE context is not touched; while the job-in-flight mark is set LANE_RESET is
recorded over any pending end and another cause only where none is present; otherwise the context ends with the cause. The
withdrawal of a master key (R29): on each lane in turn the waiting PROVE entries of contexts that name the slot are answered
KEY_WITHDRAWN; then OPENED contexts and PROVING ones without a job end REVOKED, an OPENING one with its job in flight takes
REVOKED as its pending end, and every other context is as before. The leaving of SERVING for SEED_WAIT (R34): the service state
changes, and on each lane in turn the waiting entries are answered SEED_REQUIRED, each context is reached by LANE_RESET and
SERVICE_CHANGED is added. That the lanes are reached in the order 0 to 3 and the contexts of a lane in the order 0 to 2 is log
entry 18: R29 and R34 order only the removals within a lane's queue. -/
def Obligations.OutsideEnding : Prop :=
  (∀ (s : State) (l : LaneNo) (c : CtxNo) (p : PendingEnd),
    let x := s.ctx l c
    (x.body = .free → s.reachEnd l c p = s)
      ∧ (x.body ≠ .free → x.inFlight = false → s.reachEnd l c p = s.endContext l c p.cause)
      ∧ (x.body ≠ .free → x.inFlight = true →
          s.reachEnd l c p =
            let y := { x with pendingEnd := if p = .laneReset then some .laneReset else some (x.pendingEnd.getD p) }
            { s with lanes := s.lanes.set l { s.lanes[l] with contexts := s.lanes[l].contexts.set c y } }))
    ∧ (∀ s : State,
      let leave (u : State) (l : LaneNo) : State :=
        let v := u.answerWaiting l (fun _ => true) (.code .seedRequired)
        let w := ((v.reachEnd l 0 .laneReset).reachEnd l 1 .laneReset).reachEnd l 2 .laneReset
        { w with
          lanes := w.lanes.set l { w.lanes[l] with notices := { w.lanes[l].notices with serviceChanged := true } } }
      s.leaveService = leave (leave (leave (leave { s with service := .seedWait } 0) 1) 2) 3)
    ∧ (∀ (s : State) (n : SlotNo),
      s.withdrawMaster n = (((s.withdrawLane n 0).withdrawLane n 1).withdrawLane n 2).withdrawLane n 3)
    ∧ (∀ (s : State) (n : SlotNo) (l : LaneNo),
      ∃ pick : Entry → Bool,
        (∀ e, pick e = true ↔ ∃ o p, (s.ctx l e.ctx).body = .proving o n p)
          ∧ s.withdrawLane n l =
            (((s.answerWaiting l pick (.code .keyWithdrawn)).withdrawContext n l 0).withdrawContext n l 1).withdrawContext
              n l 2)
    ∧ ∀ (s : State) (n : SlotNo) (l : LaneNo) (c : CtxNo),
      let x := s.ctx l c
      (∀ o p, x.body = .opened o n p → s.withdrawContext n l c = s.endContext l c .revoked)
        ∧ (∀ o p, x.body = .proving o n p → x.inFlight = false → s.withdrawContext n l c = s.endContext l c .revoked)
        ∧ (∀ o, x.body = .opening o n → x.inFlight = true →
            s.withdrawContext n l c =
              let y := { x with pendingEnd := some (x.pendingEnd.getD .revoked) }
              { s with lanes := s.lanes.set l { s.lanes[l] with contexts := s.lanes[l].contexts.set c y } })
        ∧ ((∀ o p, x.body ≠ .opened o n p) → (∀ o p, x.body = .proving o n p → x.inFlight = true) →
            (∀ o, x.body = .opening o n → x.inFlight = false) → s.withdrawContext n l c = s)

/-- Entries removed from WAITING are answered at once, in queue order, and become ANSWERED. The RUNNING entry of a context is
answered at its job's completion and becomes ANSWERED; one marked to be discarded leaves the queue with its place and
without an answer. When no answer stood before them the transmission of the first begins, otherwise the transmitter is as it
was (R187; that it begins in this step is log entry 19). Nothing else changes (R8, R9, R32). -/
def Obligations.QueueEntriesAnswered : Prop :=
  ∀ (s : State) (l : LaneNo) (r : Reply),
    let answer (e : Entry) : Answer := { kind := e.req.kind.code, tag := e.tag, reply := r, serial := some e.serial }
    let old := s.lanes[l]
    let sent (produced : List Answer) : Tx :=
      match old.port.answers, produced with
      | [], a :: _ => .sending a.line s.laneRate
      | _, _ => old.port.tx
    (∀ pick : Entry → Bool,
      let t := s.answerWaiting l pick r
      let hit (e : Entry) : Bool := e.phase == .waiting && pick e
      t = { s with lanes := t.lanes } ∧ s.OtherLanesSame t l
        ∧ t.lanes[l] = { old with
            queue := old.queue.map fun e => if hit e then { e with phase := .answered } else e
            port := t.lanes[l].port }
        ∧ t.lanes[l].port.rx = old.port.rx
        ∧ t.lanes[l].port.answers = old.port.answers ++ (old.queue.filter hit).map answer
        ∧ t.lanes[l].port.tx = sent ((old.queue.filter hit).map answer)
        ∧ t.lanes[l].placesHeld = old.placesHeld)
    ∧ ∀ c : CtxNo,
      let t := s.answerRunning l c r
      let hit (e : Entry) : Bool := e.phase == .running && e.ctx == c
      t = { s with lanes := t.lanes } ∧ s.OtherLanesSame t l
        ∧ t.lanes[l] = { old with queue := t.lanes[l].queue, port := t.lanes[l].port }
        ∧ t.lanes[l].queue =
            ((old.queue.filter fun e => !(hit e && e.discard)).map fun e =>
              if hit e then { e with phase := .answered } else e)
        ∧ t.lanes[l].port.rx = old.port.rx
        ∧ t.lanes[l].port.answers =
            old.port.answers ++ (old.queue.filter fun e => hit e && !e.discard).map answer
        ∧ t.lanes[l].port.tx = sent ((old.queue.filter fun e => hit e && !e.discard).map answer)

/-- DROP (R22), with its checks (R11): STALE for another ticket or a FREE context; otherwise OK after the context's waiting
entry has been answered DROPPED and the context has ended DROPPED, or has taken DROPPED as its pending end. -/
def Obligations.DropServed : Prop :=
  ∀ (s : State) (l : LaneNo) (tag : Byte) (body : List Byte), s.LaneReady l →
    let f := s.laneFrameArrives l
    let reply (u : State) (code : Code) : State :=
      u.produce (.lane l) { kind := 0x04, tag := tag, reply := .code code, serial := none }
    (s.service = .starting → exec (.dropReq l tag body) s = .next (reply f .notReady).driveAlerts)
      ∧ (s.service ≠ .starting → readDrop body = none →
          exec (.dropReq l tag body) s = .next (reply f .malformed).driveAlerts)
      ∧ ∀ a : DropArgs, s.service ≠ .starting → readDrop body = some a →
        ((s.ctx l a.ctx).ticket ≠ a.ticket ∨ (s.ctx l a.ctx).body = .free →
          exec (.dropReq l tag body) s = .next (reply f .stale).driveAlerts)
        ∧ ((s.ctx l a.ctx).ticket = a.ticket → (s.ctx l a.ctx).body ≠ .free →
          exec (.dropReq l tag body) s =
            .next (reply ((f.answerWaiting l (fun e => e.ctx == a.ctx) (.code .dropped)).reachEnd l a.ctx .dropped)
              .ok).driveAlerts)

/-- POLL (R27), with its checks (R11): NOT_READY in STARTING, then MALFORMED for a body that is not empty, which remove no
notice. Otherwise the item of highest priority is returned and removed, with the count left, the service state, the
lane state, TIME_VALID and the current signing generation; only the lane's notice set and answer queue change. -/
def Obligations.PollServed : Prop :=
  (∀ (s : State) (l : LaneNo) (tag : Byte) (body : List Byte), s.LaneReady l →
    let refused (code : Code) : Prop :=
      exec (.pollReq l tag body) s =
        .next ((s.laneFrameArrives l).produce (.lane l)
          { kind := 0x05, tag := tag, reply := .code code, serial := none }).driveAlerts
    (s.service = .starting → refused .notReady) ∧ (s.service ≠ .starting → body ≠ [] → refused .malformed))
    ∧ ∀ (s : State) (l : LaneNo) (tag : Byte), s.LaneReady l → s.service ≠ .starting →
      let f := s.laneFrameArrives l
      let n := f.lanes[l].notices
      let result (item : Notice) (left : Notices) : Host.Outcome State Fault Refusal :=
        .next (State.driveAlerts (State.produce { f with lanes := f.lanes.set l { f.lanes[l] with notices := left } } (.lane l)
          { kind := 0x05, tag := tag, serial := none
            reply := .poll
              { notice := item, left := left.count, service := s.service
                lane := if s.config.lanes[l].enabled then .up else .off
                timeValid := s.clock.timeValid, signing := s.signing } }))
      (∀ (c : CtxNo) (x : Lost), n.lost[c] = some x → (∀ d : CtxNo, d < c → n.lost[d] = none) →
        exec (.pollReq l tag []) s = result (.contextLost c x.ticket x.cause) { n with lost := n.lost.set c none })
        ∧ ((∀ c : CtxNo, n.lost[c] = none) → n.serviceChanged = true →
            exec (.pollReq l tag []) s = result .serviceChanged { n with serviceChanged := false })
        ∧ ((∀ c : CtxNo, n.lost[c] = none) → n.serviceChanged = false → n.signingChanged = true →
            exec (.pollReq l tag []) s = result .signingChanged { n with signingChanged := false })
        ∧ ((∀ c : CtxNo, n.lost[c] = none) → n.serviceChanged = false → n.signingChanged = false →
            exec (.pollReq l tag []) s = result .none n)

/-- CONTEXT_EXPIRY (R24): at a deadline reached, the context's waiting entry is answered EXPIRED and the context ends
EXPIRED, or takes EXPIRED as its pending end while its job runs. Before the deadline, or on a FREE context, no event
arrives (log entry 9). -/
def Obligations.ContextExpires : Prop :=
  ∀ (s : State) (l : LaneNo) (c : CtxNo),
    (∀ o, (s.ctx l c).body.occupancy = some o → o.deadline ≤ s.clock.mono →
      exec (.contextExpiry l c) s =
        .next ((s.answerWaiting l (fun e => e.ctx == c) (.code .expired)).reachEnd l c .expired).driveAlerts)
      ∧ ((∀ o, (s.ctx l c).body.occupancy = some o → s.clock.mono < o.deadline) →
          exec (.contextExpiry l c) s = .next s)

/-- LINK_EXPIRY (R191, R32): at a deadline reached on an UP link, the link goes DOWN with its deadline absent, waiting and
answered entries leave, a running one is marked to be discarded, the answer queue is emptied with a transmission cut off
by the abort sequence 7D 7E at the rate it ran at (R189), the CONTEXT_LOST items go, LANE_DOWN is latched, and each context ends
LANE_RESET or takes it as its pending end. That the contexts are reached in the order 0, 1, 2 is log entry 18, the transmitter
after the abort log entry 19. Otherwise no event arrives (log entry 9). -/
def Obligations.LinkExpires : Prop :=
  ∀ (s : State) (l : LaneNo),
    (∀ d, s.lanes[l].linkUp = true → s.lanes[l].linkDeadline = some d → d ≤ s.clock.mono →
      ∃ u : State,
        exec (.linkExpiry l) s =
          .next (((u.reachEnd l 0 .laneReset).reachEnd l 1 .laneReset).reachEnd l 2 .laneReset).driveAlerts
        ∧ u = { s with lanes := u.lanes, flags := s.flags ||| (1#21 <<< (8 + l.val)) } ∧ s.OtherLanesSame u l
        ∧ u.lanes[l] =
            { s.lanes[l] with
              linkUp := false
              linkDeadline := none
              queue := (s.lanes[l].queue.filter fun e => e.phase == .running).map fun e => { e with discard := true }
              port :=
                { rx := s.lanes[l].port.rx
                  answers := []
                  tx := match s.lanes[l].port.tx with | .sending _ rate => .cutOff [0x7D, 0x7E] rate | t => t }
              notices := { s.lanes[l].notices with lost := Vector.replicate 3 none } })
      ∧ (s.lanes[l].linkUp = false ∨ (∀ d, s.lanes[l].linkDeadline = some d → s.clock.mono < d) →
          exec (.linkExpiry l) s = .next s)

/-! ### The passage table (Chapter 2) -/

/-- The classify call (R39 to R44): the entry found for the tag ID and the counter difference modulo 65536 select the verdict,
what is returned with it, and what becomes of the entry. -/
def Obligations.ClassifyFollowsTable : Prop :=
  ∀ (s : State) (l : LaneNo) (c : CtxNo) (id : TagId) (k : Counter) (strict : Bool),
    let d (e : Passage) : Nat := (k.toNat + 65536 - e.counter.toNat) % 65536
    let claimOver (e : Passage) (time : Seconds) (tick number : Nat) : Passage :=
      { tagId := id, lane := l, counter := k
        body := .claimed c
          (some { counter := e.counter, sealTime := time, expiry := tick, lane := e.lane, number := number }) }
    (s.table.find id = none →
      s.classify l c id k strict =
        ({ s.makeRoom with
            table := s.makeRoom.table.put { tagId := id, lane := l, counter := k, body := .claimed c none } },
          { verdict := .new, owner := none, sealTime := none }))
    ∧ (∀ e oc p, s.table.find id = some e → e.body = .claimed oc p →
        s.classify l c id k strict = (s, { verdict := .duplicate, owner := some e.lane, sealTime := none }))
    ∧ ∀ e time tick number, s.table.find id = some e → e.body = .sealed time tick number →
        (d e = 0 →
          s.classify l c id k strict = (s, { verdict := .reread, owner := some e.lane, sealTime := some time }))
        ∧ (d e = 65535 →
          s.classify l c id k strict = (s, { verdict := .rereadUnwritten, owner := some e.lane, sealTime := some time }))
        ∧ (1 ≤ d e → d e ≤ 32767 →
          s.classify l c id k strict =
            ({ s with table := s.table.put (claimOver e time tick number) },
              { verdict := .new, owner := none, sealTime := none }))
        ∧ (32768 ≤ d e → d e ≤ 65534 →
          s.classify l c id k strict =
            if strict then
              ({ s with flags := s.flags ||| 64#21 }, { verdict := .suspectHeld, owner := none, sealTime := none })
            else
              ({ s with flags := s.flags ||| 64#21, table := s.table.put (claimOver e time tick number) },
                { verdict := .suspect, owner := none, sealTime := none }))

/-- Room for a new entry (R40, R45): with fewer than 256 entries nothing changes; with 256 the SEALED entry of the earliest
expiry tick, of those the lowest seal number, is removed and PASSAGE_EVICTED is latched. The table's put and remove act on one
tag ID only, and keep the order (R36). -/
def Obligations.EvictionAndTableOperations : Prop :=
  (∀ s : State,
    (s.table.entries.length < 256 → s.makeRoom = s)
      ∧ ∀ e time tick number, 256 ≤ s.table.entries.length → e ∈ s.table.entries → e.body = .sealed time tick number →
        ∃ v time' tick' number', v ∈ s.table.entries ∧ v.body = .sealed time' tick' number'
          ∧ (tick' < tick ∨ tick' = tick ∧ number' ≤ number)
          ∧ s.makeRoom = { s with
              flags := s.flags ||| 32#21
              table := { s.table with entries := s.table.entries.filter fun x => x.tagId != v.tagId } })
    ∧ ∀ (t : Table) (e : Passage) (id : TagId), t.Ordered →
      (t.put e).Ordered ∧ (t.remove id).Ordered
        ∧ (t.put e).find e.tagId = some e ∧ (t.remove id).find id = none
        ∧ (∀ x, x ≠ e.tagId → (t.put e).find x = t.find x) ∧ (∀ x, x ≠ id → (t.remove id).find x = t.find x)
        ∧ ((t.find e.tagId).isSome = true → (t.put e).entries.length = t.entries.length)
        ∧ (t.find e.tagId = none → (t.put e).entries.length = t.entries.length + 1)

/-- The release call (R47): the context's claim is removed, or its previous part restored while that part's expiry tick has
not been reached. ENTRY_EXPIRY (R54): a SEALED entry whose expiry tick the count has reached is removed; a CLAIMED entry, one
not yet due and an absent one receive no event (log entry 9). -/
def Obligations.ClaimsReleasedAndEntriesExpire : Prop :=
  (∀ (s : State) (l : LaneNo) (c : CtxNo) (e : Passage), s.table.claimOf l c = some e →
    (e.body = .claimed c none → s.releaseClaim l c = { s with table := s.table.remove e.tagId })
      ∧ ∀ p, e.body = .claimed c (some p) →
        (s.clock.mono < p.expiry →
          s.releaseClaim l c = { s with
            table := s.table.put
              { tagId := e.tagId, lane := p.lane, counter := p.counter
                body := .sealed p.sealTime p.expiry p.number } })
        ∧ (p.expiry ≤ s.clock.mono → s.releaseClaim l c = { s with table := s.table.remove e.tagId }))
    ∧ ∀ (s : State) (id : TagId),
      (∀ e time tick number, s.table.find id = some e → e.body = .sealed time tick number → tick ≤ s.clock.mono →
        exec (.entryExpiry id) s = .next { s with table := s.table.remove id })
        ∧ (∀ e time tick number, s.table.find id = some e → e.body = .sealed time tick number → s.clock.mono < tick →
            exec (.entryExpiry id) s = .next s)
        ∧ (∀ e c p, s.table.find id = some e → e.body = .claimed c p → exec (.entryExpiry id) s = .next s)
        ∧ (s.table.find id = none → exec (.entryExpiry id) s = .next s)

/-! ### One slot for each generation (Chapter 3) -/

/-- No two occupied slots hold the same issuer, role and generation (R64), kept by every step together with what it rests on:
the LOAD_KEY in hand was checked against every slot (R67), and the store records hold what the slots hold, so that a start-up
loads no generation twice (R65). One step is shut out of what is kept, not of R64 itself: a LOADING slot's first write that
fails and leaves the new content in its record (R174, R71), after which a generation loaded elsewhere can stand twice at a
later start-up (log entry 27). -/
def Obligations.GenerationsKept : Prop :=
  ∀ s t : State, s.GenerationsSound → step s = .next t →
    t.OneSlotPerGeneration ∧ (¬ s.FailedLoadLeft → t.GenerationsSound)

/-! ### The key function unit (Chapter 5) -/

/-- The blocks of the operations (R103 to R108, R134): one block for Derive, Challenge and Check value, two chained blocks
for Response and Record MAC, the inverse for Unwrap. -/
def Obligations.OperationBlocks : Prop :=
  (∀ (k : Block) (id : TagId) (g : Gen) (i : Byte), derive k id g i = Config.blockFunction k (id ++ g ++ i ++ 0#56))
    ∧ (∀ (k : Block) (boot seq : BitVec 32) (l : LaneNo) (c : CtxNo),
      challenge k boot seq l c =
        (Config.blockFunction k (boot ++ seq ++ BitVec.ofNat 8 l.val ++ BitVec.ofNat 8 c.val ++ 0#48)).extractLsb' 64 64)
    ∧ (∀ (k : Block) (ch : Mac) (n : BitVec 32) (ct : Counter) (id : TagId),
      response k ch n ct id =
        (Config.blockFunction k ((id.setWidth 32 ++ 0x80#8 ++ 0#88) ^^^
          Config.blockFunction k (ch ++ n ++ ct ++ id.extractLsb' 32 16))).extractLsb' 64 64)
    ∧ (∀ (k : Block) (r : TransitRecord),
      recordMac k r =
        (Config.blockFunction k
          (BitVec.ofNat 128 (numberOf (r.bytes.drop 16 ++ [0x80, 0, 0, 0, 0, 0, 0, 0])) ^^^
            Config.blockFunction k (BitVec.ofNat 128 (numberOf (r.bytes.take 16))))).extractLsb' 64 64)
    ∧ (∀ k w : Block, Config.blockFunction k (unwrap k w) = w)
    ∧ ∀ k : Block, checkValue k = (Config.blockFunction k 0).extractLsb' 96 32

/-- The arbiter's choice (R114 to R117): a STEP candidate before a MAINT job promoted after 256 ticks, that before an ADMIT
candidate, that before any other MAINT job; within a class the oldest entry of the lane that comes first by the arbiter mode
and the pointer of the class. While the ADMIT hold is set no ADMIT job is a candidate (R112). -/
def Obligations.ArbiterChoosesByClassAndLane : Prop :=
  ∀ s : State,
    let rank (p l : LaneNo) : Nat :=
      match s.config.items.mode with
      | .rotating => (l.val + 4 - p.val) % 4
      | .fixedUp => l.val
      | .fixedDown => 3 - l.val
    let step (l : LaneNo) : Option Entry :=
      s.lanes[l].queue.find? fun e => e.phase == .waiting && e.req.kind != .openReq
    let openEntry (l : LaneNo) : Option Entry :=
      if s.kfu.admitHold then none else s.lanes[l].queue.find? fun e => e.phase == .waiting && e.req.kind == .openReq
    let noStep : Prop := ∀ l, step l = none
    let promoted : Prop := ∃ req queued, s.station.load = some (req, queued) ∧ 256 ≤ s.clock.mono - queued
    (∀ l e, step l = some e → (∀ k, (step k).isSome = true → rank s.kfu.stepPointer l ≤ rank s.kfu.stepPointer k) →
      s.choose = some (.step l e))
      ∧ (∀ req queued, noStep → s.station.load = some (req, queued) → 256 ≤ s.clock.mono - queued →
          s.choose = some (.load req))
      ∧ (∀ l e, noStep → ¬ promoted → openEntry l = some e →
          (∀ k, (openEntry k).isSome = true → rank s.kfu.admitPointer l ≤ rank s.kfu.admitPointer k) →
          s.choose = some (.admitting l e))
      ∧ (∀ req queued, noStep → ¬ promoted → (∀ l, openEntry l = none) → s.station.load = some (req, queued) →
          s.choose = some (.load req))
      ∧ (noStep → (∀ l, openEntry l = none) → s.station.load = none → s.choose = none)

/-- The arbiter makes no choice while a job is in flight (R115). With the unit free and a candidate, the job chosen starts, and
where that ends without passes the arbiter makes its next choice (R119); with no candidate nothing changes. It stops with a
job in flight or with no candidate left. -/
def Obligations.ArbiterChoosesUntilBusyOrIdle : Prop :=
  ∀ s : State, (s.kfu.job.isSome = true → s.arbitrate = s)
    ∧ (s.kfu.job = none → s.choose = none → s.arbitrate = s)
    ∧ (∀ ch, s.kfu.job = none → s.choose = some ch → s.arbitrate = (s.startChoice ch).arbitrate)
    ∧ (s.arbitrate.kfu.job.isSome = true ∨ s.arbitrate.choose = none)

/-- What a chosen job does at its start (R15, R20, R81, R117, R119): the pointer of its class moves in ROTATING mode, the
start check is made, and the job is in flight with its entry RUNNING and its context marked, or ends without passes. -/
def Obligations.JobsStart : Prop :=
  ∀ (s : State) (l : LaneNo) (e : Entry),
    let mark (u : State) (j : Job) : State :=
      { u with
        kfu := { u.kfu with job := some j }
        lanes := u.lanes.set l
          { u.lanes[l] with
            contexts := u.lanes[l].contexts.set e.ctx { u.ctx l e.ctx with inFlight := true }
            queue := u.lanes[l].queue.map fun q => if q.serial = e.serial then { q with phase := .running } else q } }
    let moved (p : LaneNo) : LaneNo := if s.config.items.mode = .rotating then l + 1 else p
    let steps := { s with kfu := { s.kfu with stepPointer := moved s.kfu.stepPointer } }
    let admits := { s with kfu := { s.kfu with admitPointer := moved s.kfu.admitPointer } }
    let answered (u : State) (code : Code) : State := u.answerWaiting l (fun q => q.serial == e.serial) (.code code)
    (∀ o m, e.req = .openReq → (s.ctx l e.ctx).body = .opening o m →
      (∀ d, s.slots[m].body = .held .active d →
        s.startChoice (.admitting l e) = mark admits (.openJob l e.ctx d.key o.tagId o.generation o.issuer))
      ∧ (∀ d, s.slots[m].body = .held .withdrawn d →
        s.startChoice (.admitting l e) = (answered admits .keyWithdrawn).endContext l e.ctx .revoked)
      ∧ (∀ d, s.slots[m].body = .held .expired d →
        s.startChoice (.admitting l e) = (answered admits .generationExpired).endContext l e.ctx .failed))
    ∧ (∀ o m p r, e.req = .proveReq r → (s.ctx l e.ctx).body = .proving o m p →
        s.startChoice (.step l e) =
          mark steps (.proveJob l e.ctx p.tagKey p.challenge o.nonce o.counter o.tagId r))
    ∧ (∀ o p v cls ref, e.req = .sealReq cls ref → (s.ctx l e.ctx).body = .sealing o p v →
        (s.signingSelection = none →
          s.startChoice (.step l e) =
            (answered steps .noSigningKey).onCtx l e.ctx fun x => { x with body := .proved o p v })
        ∧ (∀ g, s.signingSelection = some g →
          s.startChoice (.step l e) =
            { mark { steps with
                slots := s.slots.set g.slot { s.slots[g.slot] with refs := s.slots[g.slot].refs + 1 } }
                (.sealJob l e.ctx g.slot g.key g.generation g.holdover cls ref) with
              flags := if g.holdover then s.flags ||| 16#21 else s.flags }))
    ∧ ∀ req : LoadReq, s.startChoice (.load req) =
        { s with
          station := { s.station with load := none }
          kfu := { s.kfu with job := some (.loadJob req s.kfu.transportKey) } }

/-- OPEN_COMPLETION (R15, R104, R105, R111, R112, R6): the tag key and the challenge are recorded, the context is OPENED, the
sequence advances or is exhausted, the answer is produced (KEY_WITHDRAWN when REVOKED is pending, none for an entry marked
to be discarded), then the pending end is applied; at the last exhaustion the module leaves service (R112), and with the unit
free the arbiter makes its choice (R120). That the completion comes first, then the leaving of service, then the choice is log
entry 14. -/
def Obligations.OpenCompletes : Prop :=
  ∀ (s : State) (l : LaneNo) (c : CtxNo) (k : Block) (id : TagId) (g : Gen) (i : Byte) (o : Occupancy) (m : SlotNo)
    (b : BitVec 32), s.kfu.job = some (.openJob l c k id g i) → (s.ctx l c).body = .opening o m → s.kfu.boot = some b →
    let x := s.ctx l c
    let ch := challenge s.kfu.challengeKey b s.kfu.sequence l c
    let last : Prop := s.kfu.sequence = 0xFFFFFFFF ∧ b = 0xFFFFFFFF
    let free := { s with kfu := { s.kfu with job := none } }
    let counted : State :=
      if s.kfu.sequence ≠ 0xFFFFFFFF then { free with kfu := { free.kfu with sequence := s.kfu.sequence + 1 } }
      else if b = 0xFFFFFFFF then { free with kfu := { free.kfu with sequence := 0 } }
      else State.requestStore
        { free with kfu := { free.kfu with boot := some (b + 1), sequence := 0, admitHold := true } } (.writeBoot (b + 1))
    let reply : Reply := if x.pendingEnd = some .revoked then .code .keyWithdrawn else .opened c x.ticket ch
    ∃ u : State,
      u = counted.onCtx l c (fun _ =>
        { x with inFlight := false, body := .opened o m { tagKey := derive k id g i, challenge := ch } })
      ∧ (x.pendingEnd = none → ¬ last →
          exec .openCompletion s = .next (u.answerRunning l c reply).arbitrate.driveAlerts)
      ∧ (∀ p, x.pendingEnd = some p → ¬ last →
          exec .openCompletion s =
            .next ((u.answerRunning l c reply).endContext l c p.cause).arbitrate.driveAlerts)
      ∧ (x.pendingEnd = none → last →
          exec .openCompletion s = .next (u.answerRunning l c reply).leaveService.arbitrate.driveAlerts)
      ∧ (∀ p, x.pendingEnd = some p → last →
          exec .openCompletion s =
            .next ((u.answerRunning l c reply).endContext l c p.cause).leaveService.arbitrate.driveAlerts)

/-- PROVE_COMPLETION (R17, R18, R6): the master reference is released in every case; a response that differs is answered
AUTH_FAILED and the context ends FAILED; a response that matches is classified, answered with its verdict and the flags of
R18, and leaves the context PROVED with its claim (a pending end then applies) or ends it VERDICT. -/
def Obligations.ProveCompletes : Prop :=
  ∀ (s : State) (l : LaneNo) (c : CtxNo) (k : Block) (ch : Mac) (n : BitVec 32) (ct : Counter) (id : TagId) (resp : Mac)
    (o : Occupancy) (m : SlotNo) (p : TagProof),
    s.kfu.job = some (.proveJob l c k ch n ct id resp) → (s.ctx l c).body = .proving o m p →
    let x := s.ctx l c
    let free := { s with kfu := { s.kfu with job := none } }
    let base := (free.onCtx l c fun _ => { x with inFlight := false }).release m
    let r := base.classify l c o.tagId o.counter o.strict
    let answer : Reply :=
      .verdict r.2.verdict o.watch (r.2.verdict = .suspect ∨ r.2.verdict = .suspectHeld) r.2.owner r.2.sealTime
    let ended (u : State) (cause : EndCause) : State :=
      u.onCtx l c fun y => { y with body := .free, pendingEnd := none, endCause := cause }
    let proved (v : ClaimVerdict) : State :=
      (r.1.answerRunning l c answer).onCtx l c fun y => { y with body := .proved o p v }
    (response k ch n ct id ≠ resp →
      exec .proveCompletion s =
        .next (ended (base.answerRunning l c (.code .authFailed)) .failed).arbitrate.driveAlerts)
    ∧ (response k ch n ct id = resp → r.2.verdict ≠ .new → r.2.verdict ≠ .suspect →
        exec .proveCompletion s = .next (ended (r.1.answerRunning l c answer) .verdict).arbitrate.driveAlerts)
    ∧ ∀ v, response k ch n ct id = resp →
        (v = .new ∧ r.2.verdict = .new ∨ v = .suspect ∧ r.2.verdict = .suspect) →
        (x.pendingEnd = none → exec .proveCompletion s = .next (proved v).arbitrate.driveAlerts)
        ∧ ∀ q, x.pendingEnd = some q →
            exec .proveCompletion s = .next ((proved v).endContext l c q.cause).arbitrate.driveAlerts

/-- SEAL_COMPLETION (R21, R50, R125 to R134, R6): the record is assembled from the context, the job and the time base, the
passage entry is sealed with its counter and seconds for W × 1024 ticks, the signing reference is released, the context
ends SEALED, and the record with its MAC is the answer; a pending end is discarded. -/
def Obligations.SealCompletes : Prop :=
  ∀ (s : State) (l : LaneNo) (c : CtxNo) (n : SlotNo) (k : Block) (g : Gen) (h : Bool) (cls : BitVec 4) (ref : BitVec 16)
    (o : Occupancy) (p : TagProof) (v : ClaimVerdict) (e : Passage),
    s.kfu.job = some (.sealJob l c n k g h cls ref) → (s.ctx l c).body = .sealing o p v →
    s.table.claimOf l c = some e →
    let r : TransitRecord :=
      { gantry := s.config.items.gantry, lane := l, seconds := s.clock.seconds, fraction := s.clock.fraction
        unsynchronised := !s.clock.timeValid, tagId := o.tagId, issuer := o.issuer, counter := o.counter + 1
        vehicleClass := cls, generation := g, holdover := h, suspect := v == .suspect, watch := o.watch
        readerRef := ref }
    let sealedEntry : Passage :=
      { tagId := e.tagId, lane := e.lane, counter := o.counter + 1
        body := .sealed s.clock.seconds (s.clock.mono + s.config.items.window.toNat * 1024) (s.table.sealCount + 1) }
    let done : State :=
      { s with
        kfu := { s.kfu with job := none }
        table := { entries := (s.table.put sealedEntry).entries, sealCount := s.table.sealCount + 1 } }
    exec .sealCompletion s =
      .next (((done.release n).onCtx l c (fun x =>
          { x with inFlight := false, body := .free, pendingEnd := none, endCause := .sealed })).answerRunning l c
        (.record r (recordMac k r))).arbitrate.driveAlerts

/-- LOAD_COMPLETION (R68, R69, R108): a check value that differs leaves the slot EMPTY and answers CHECK_FAILED; one that
agrees fills the slot as LOADING, with the stored state fixed from the time, and requests its write. That CHECK_FAILED is
produced and the station request behind executes before the arbiter chooses is log entry 14. -/
def Obligations.LoadCompletes : Prop :=
  ∀ (s : State) (req : LoadReq) (tk : Block), s.kfu.job = some (.loadJob req tk) →
    let key := (Config.blockFunction tk).symm req.wrapped
    let free := { s with kfu := { s.kfu with job := none } }
    let stored : LoadState :=
      if s.clock.timeValid = true ∧ req.activation ≤ s.clock.seconds then .active else .staged
    let d : KeyData :=
      { issuer := req.issuer, role := req.role, generation := req.generation, activation := req.activation
        expiry := req.expiry, key := key, check := req.check }
    (checkValue key ≠ req.check →
      exec .loadCompletion s = .next (free.finishExecuting (.code .checkFailed)).arbitrate.driveAlerts)
      ∧ (checkValue key = req.check →
          exec .loadCompletion s =
            .next (State.requestStore
              { free with slots := s.slots.set req.slot { s.slots[req.slot] with body := .held (.loading stored) d } }
              (.writeSlot req.slot)).arbitrate.driveAlerts)

/-! ### Key slots and routes (Chapters 3 and 4) -/

/-- The activation and expiry evaluation (R72, R73, R81) and SECOND_EVENT: while TIME_VALID holds every slot is treated by
the seconds, each change requests a write of its record, and KEY_OVERRUN is latched at a gap; while it does not hold nothing
changes. A second event that was raised is taken, and evaluates once the slot records are loaded (log entry 7). That the writes
of one evaluation are requested by rising slot is log entry 18: R72 treats every slot in one step. -/
def Obligations.EvaluationAtSecondEvent : Prop :=
  (∀ s : State, s.clock.timeValid = false → s.evaluate = s)
    ∧ (∀ s : State, s.clock.timeValid = true →
      let t := s.evaluate
      let sec := s.clock.seconds
      let reached (d : KeyData) : Bool := match d.expiry with | some e => decide (e ≤ sec) | none => false
      let home (d : KeyData) : Prop :=
        s.config.items.home ≠ 0 ∧ d.role = .record ∧ d.issuer = s.config.items.home
      t = { s with slots := t.slots, store := t.store, flags := t.flags }
        ∧ (∀ n : SlotNo, t.slots[n] =
            match s.slots[n].body with
            | .held .staged d =>
              if d.activation ≤ sec then
                { s.slots[n] with body := .held (if reached d then .expired else .active) d }
              else s.slots[n]
            | .held .active d => { s.slots[n] with body := .held (if reached d then .expired else .active) d }
            | _ => s.slots[n])
        ∧ t.store =
            (((List.finRange 24).filter fun n => t.slots[n] != s.slots[n]).foldl
              (fun (u : State) n => u.requestStore (.writeSlot n)) { s with slots := t.slots }).store
        ∧ ((∃ (n : SlotNo) (d : KeyData), t.slots[n].body = .held .expired d ∧ s.slots[n].body ≠ .held .expired d ∧ home d) →
            (∀ (n : SlotNo) (d : KeyData), t.slots[n].body = .held .active d → ¬ home d) → t.flags = s.flags ||| 16#21)
        ∧ ((∀ (n : SlotNo) (d : KeyData), t.slots[n].body = .held .expired d → home d → s.slots[n].body = .held .expired d) →
            t.flags = s.flags)
        ∧ ((∃ (n : SlotNo) (d : KeyData), t.slots[n].body = .held .active d ∧ home d) → t.flags = s.flags))
    ∧ ∀ (s : State) (k : Nat),
      (s.clock.secondEvents = 0 → exec .secondEvent s = .next s)
        ∧ (s.clock.secondEvents = k + 1 →
          let u := { s with clock := { s.clock with secondEvents := k } }
          (s.loaded = true → s.clock.timeValid = true →
              exec .secondEvent s = .next u.evaluate.reformSigning.driveAlerts)
            ∧ (s.loaded = false ∨ s.clock.timeValid = false → exec .secondEvent s = .next u))

/-- Master selection (R76): the first condition that holds gives the outcome. The current signing generation and the signing
selection (R78, R79, R80): the ACTIVE record key of the home issuer with the highest generation; without one and with
TIME_VALID the EXPIRED one within holdover with the latest expiry, of those the higher generation; else none. Where two slots of
one generation stand (R64 has none; GenerationsKept says which step can lead to them) the model takes the lower slot, in
either selection (log entry 27). Formed again, a changed generation adds SIGNING_CHANGED to every enabled lane. -/
def Obligations.SelectionsFollowRules : Prop :=
  (∀ (slots : Vector Slot 24) (i : Byte) (m g : Gen),
    let found (n : SlotNo) (st : HeldState) : Prop :=
      ∃ d, slots[n].body = .held st d ∧ d.issuer = i ∧ d.role = .tagMaster ∧ d.generation = g
    let there (n : SlotNo) : Prop := found n .staged ∨ found n .active ∨ found n .expired
    (g.toNat < m.toNat → masterSelection slots i m g = .error .oldGeneration)
      ∧ (m.toNat ≤ g.toNat → (∀ n, ¬ there n) → masterSelection slots i m g = .error .unknownGeneration)
      ∧ ∀ n, m.toNat ≤ g.toNat → (∀ k : SlotNo, k < n → ¬ there k) →
        (found n .staged → masterSelection slots i m g = .error .generationPending)
          ∧ (found n .expired → masterSelection slots i m g = .error .generationExpired)
          ∧ (found n .active → masterSelection slots i m g = .ok n))
    ∧ ∀ s : State,
    let home (d : KeyData) : Prop := s.config.items.home ≠ 0 ∧ d.role = .record ∧ d.issuer = s.config.items.home
    let active (n : SlotNo) (d : KeyData) : Prop := s.slots[n].body = .held .active d ∧ home d
    let held (n : SlotNo) (d : KeyData) (e : Seconds) : Prop :=
      s.slots[n].body = .held .expired d ∧ home d ∧ d.expiry = some e
        ∧ s.clock.seconds.toNat < e.toNat + 60 * s.config.items.holdover.toNat
    let signer (n : SlotNo) (d : KeyData) (h : Bool) : Signer :=
      { slot := n, key := d.key, generation := d.generation, holdover := h }
    (∀ n d, active n d →
      (∀ k d', active k d' → d'.generation < d.generation ∨ d'.generation = d.generation ∧ n ≤ k) →
        s.formSigning = some d.generation ∧ s.signingSelection = some (signer n d false))
      ∧ ((∀ n d, ¬ active n d) → s.formSigning = none)
      ∧ ((∀ n d, ¬ active n d) → s.clock.timeValid = false → s.signingSelection = none)
      ∧ ((∀ n d, ¬ active n d) → (∀ n d e, ¬ held n d e) → s.signingSelection = none)
      ∧ (∀ n d e, (∀ k d', ¬ active k d') → s.clock.timeValid = true → held n d e →
          (∀ k d' e', held k d' e' →
            e' < e ∨ e' = e ∧ (d'.generation < d.generation ∨ d'.generation = d.generation ∧ n ≤ k)) →
          s.signingSelection = some (signer n d true))
      ∧ (s.formSigning = s.signing → s.reformSigning = s)
      ∧ (s.formSigning ≠ s.signing →
          s.reformSigning =
            { s with
              signing := s.formSigning
              lanes := Vector.ofFn fun l : LaneNo =>
                { s.lanes[l] with
                  notices :=
                    { s.lanes[l].notices with
                      signingChanged := s.lanes[l].notices.signingChanged || s.config.lanes[l].enabled } } })

/-- Matching, specificity and the route lookup (R91, R92, R93). -/
def Obligations.RouteLookupFollowsRules : Prop :=
  (∀ (r : Route) (id : TagId), r.matchesTag id = true ↔
    r.enabled = true ∧ ∀ b, b < 48 → r.mask.getLsbD b = false → id.getLsbD b = r.compare.getLsbD b)
    ∧ (∀ r : Route, r.specificity + ((List.range 48).filter fun b => r.mask.getLsbD b).length = 48)
    ∧ ∀ (routes : Vector Route 32) (id : TagId),
      let hit (i : RouteNo) : Prop := routes[i].matchesTag id = true
      let result := routeLookup routes id
      (result.deny = true ↔ ∃ i, hit i ∧ routes[i].deny = true)
        ∧ (result.watch = true ↔ ∃ i, hit i ∧ routes[i].watch = true)
        ∧ (result.strict = true ↔ ∃ i, hit i ∧ routes[i].strict = true)
        ∧ ((∀ i, hit i → routes[i].issuer = 0) → result.issuer = none)
        ∧ ∀ i, hit i → routes[i].issuer ≠ 0 →
          (∀ k, hit k → routes[k].issuer ≠ 0 →
            routes[k].specificity < routes[i].specificity ∨ routes[k].specificity = routes[i].specificity ∧ i ≤ k) →
          result.issuer = some (routes[i].issuer, routes[i].minGen)

/-! ### Station requests (Chapter 8) -/

/-- A station request other than STATUS with a free answer place (R154, R155, R156): NOT_READY in STARTING; BUSY with 2 requests
in the queue; taken as WAITING behind one; on an empty queue it executes at once, and a body of a wrong length (R202) is
then answered MALFORMED and changes nothing. -/
def Obligations.StationRequestAdmitted : Prop :=
  ∀ (i : Instr) (s : State) (kind tag : Byte) (body : List Byte),
    i.request = some (.station, kind, tag, body) → kind ≠ 0x10 → s.power = true → s.station.placesHeld < 6 →
    let f := s.stationFrameArrives
    let refused (code : Code) : Host.Outcome State Fault Refusal :=
      .next (f.produce .station { kind := kind, tag := tag, reply := .code code, serial := none }).driveAlerts
    (s.service = .starting → exec i s = refused .notReady)
      ∧ (s.service ≠ .starting → 2 ≤ s.station.queue.length → exec i s = refused .busy)
      ∧ (s.service ≠ .starting → s.station.queue.length = 1 →
          ∃ k : StationKind, k.code = kind
            ∧ exec i s = .next (State.driveAlerts
              { f with station :=
                { f.station with
                  queue := s.station.queue ++
                    [{ kind := k, tag := tag, body := body, executing := false, answered := false }] } }))
      ∧ (s.service ≠ .starting → s.station.queue = [] →
          ∀ n, (kind, n) ∈ ([(0x11, 6), (0x12, 12), (0x13, 0), (0x14, 4), (0x15, 0), (0x20, 33), (0x21, 1), (0x22, 1), (0x28, 17),
            (0x29, 1), (0x30, 6), (0x38, 4), (0x39, 1), (0x3A, 0)] : List (Byte × Nat)) → body.length ≠ n →
          exec i s = refused .malformed)

/-- STATUS (R159, R160): in every service state the flags are noted, those named in the mask cleared, and the answer carries
the flags as noted and the conditions as they stand; a body of another length clears nothing. -/
def Obligations.StatusServed : Prop :=
  ∀ (s : State) (tag : Byte), s.power = true → s.station.placesHeld < 6 →
    let f := s.stationFrameArrives
    (∀ mask : BitVec 24,
      exec (.statusReq tag (wire 3 mask)) s =
        .next (State.produce { f with flags := s.flags &&& ~~~(mask.setWidth 21) } .station
          { kind := 0x10, tag := tag, serial := none
            reply := .status
              { flags := s.flags, service := s.service, timeValid := s.clock.timeValid, backupLow := s.clock.backupLow
                storeBusy := s.store.action.isSome || s.store.pending != []
                lanes := Vector.ofFn fun l : LaneNo =>
                  if s.config.lanes[l].enabled then (if s.lanes[l].linkUp then .up else .down) else .off
                entries := s.table.entries.length, boot := s.kfu.boot } }).driveAlerts)
      ∧ ∀ body : List Byte, body.length ≠ 3 →
        exec (.statusReq tag body) s =
          .next (f.produce .station { kind := 0x10, tag := tag, reply := .code .malformed, serial := none }).driveAlerts

/-- SET_LANE (R162, R163, R30, R31, R194): the settings are stored clamped, a changed enabled state acts on the lane's queue,
contexts and notices, and a new link timeout is applied to an UP link, a deadline already reached taking the link down as
LINK_EXPIRY does; the answer carries the settings as stored. That a disable reaches the contexts in the order 0, 1, 2 is log
entry 18: R30 orders only the queue entries. -/
def Obligations.SetLaneServed : Prop :=
  (∀ (s : State) (tag : Byte) (l : LaneNo) (on : Bool) (dwell timeout : BitVec 16), s.StationReady →
    let stored : LaneSettings :=
      { enabled := on
        dwell := if dwell < 10 then 10 else if 500 < dwell then 500 else dwell
        linkTimeout := if timeout = 0 then 0 else if timeout < 50 then 50 else if 5000 < timeout then 5000 else timeout }
    let f := s.stationFrameArrives
    let set := { f with config := { s.config with lanes := s.config.lanes.set l stored } }
    let noticed (u : State) : State :=
      { u with
        lanes := u.lanes.set l { u.lanes[l] with notices := { u.lanes[l].notices with serviceChanged := true } } }
    let acted : State :=
      if s.config.lanes[l].enabled = on then set
      else if on then noticed set
      else
        let v := set.answerWaiting l (fun _ => true) (.code .laneOff)
        noticed (((v.reachEnd l 0 .laneReset).reachEnd l 1 .laneReset).reachEnd l 2 .laneReset)
    exec (.setLane tag ([BitVec.ofNat 8 l.val, if on then 1 else 0] ++ wire 2 dwell ++ wire 2 timeout)) s =
      .next ((acted.applyTimeout l stored.linkTimeout).produce .station
        { kind := 0x11, tag := tag, serial := none
          reply := .lane (stored.dwell != dwell || stored.linkTimeout != timeout) l stored }).driveAlerts)
    ∧ (∀ (s : State) (tag b0 b1 : Byte) (rest : List Byte), s.StationReady → rest.length = 4 → 3 < b0.toNat ∨ 1 < b1.toNat →
      exec (.setLane tag ([b0, b1] ++ rest)) s =
        .next (s.stationFrameArrives.produce .station
          { kind := 0x11, tag := tag, reply := .code .malformed, serial := none }).driveAlerts)
    ∧ ∀ (s : State) (l : LaneNo) (timeout : BitVec 16),
      let withDeadline (d : Option Nat) : State :=
        { s with lanes := s.lanes.set l { s.lanes[l] with linkDeadline := d } }
      (s.lanes[l].linkUp = false → s.applyTimeout l timeout = s)
        ∧ (s.lanes[l].linkUp = true → timeout = 0 → s.applyTimeout l timeout = withDeadline none)
        ∧ (s.lanes[l].linkUp = true → timeout ≠ 0 →
            ∃ d, timeout.toNat * 1024 ≤ d * 1000 ∧ d * 1000 < timeout.toNat * 1024 + 1000
              ∧ let deadline := s.lanes[l].lastFrame.getD s.loadTick + d
                (s.clock.mono < deadline → s.applyTimeout l timeout = withDeadline (some deadline))
                  ∧ (deadline ≤ s.clock.mono →
                      exec (.linkExpiry l) (withDeadline (some deadline)) = .next (s.applyTimeout l timeout).driveAlerts))

/-- SET_CONFIG (R164, R165, R82): home issuer 255 or an unknown mode or rate is MALFORMED; otherwise every item carried is
stored, W and H clamped and mask bits that name no flag dropped, a changed home issuer forms the current signing generation
again, and the answer carries the items as stored. -/
def Obligations.SetConfigServed : Prop :=
  ∀ (s : State) (tag : Byte) (gantry : BitVec 16) (home : Byte) (window holdover : BitVec 16) (mode : Byte) (mask : BitVec 24)
    (rate : Byte), s.StationReady →
    let f := s.stationFrameArrives
    let body := wire 2 gantry ++ [home] ++ wire 2 window ++ wire 2 holdover ++ [mode] ++ wire 3 mask ++ [rate]
    (home = 255 ∨ 2 < mode.toNat ∨ 3 < rate.toNat →
      exec (.setConfig tag body) s =
        .next (f.produce .station { kind := 0x12, tag := tag, reply := .code .malformed, serial := none }).driveAlerts)
      ∧ ∀ (m : ArbMode) (r : Rate), home ≠ 255 → m.byte = mode → r.byte = rate →
        let items : ConfigItems :=
          { gantry := gantry, home := home
            window := if window < 1 then 1 else if 3600 < window then 3600 else window
            holdover := if 1440 < holdover then 1440 else holdover
            mode := m, mask := mask.setWidth 21, rate := r }
        let set := { f with config := { s.config with items := items } }
        exec (.setConfig tag body) s =
          .next ((if home = s.config.items.home then set else set.reformSigning).produce .station
            { kind := 0x12, tag := tag, serial := none
              reply := .config (items.window != window || items.holdover != holdover) items }).driveAlerts

/-- SAVE_CONFIG and RESEED (R166, R167): each requests its write and stays EXECUTING; a RESEED is refused VALUE_RANGE in
SERVING, for 0 and FFFFFFFF hex, and for a value not above a known stored boot count. RESET (R169, R7, R37, R123, R152,
R177): OK is produced at once and the RESET stays EXECUTING; when that answer has been transmitted the warm reset begins,
keeping the flags, the working configuration, the slots, the store and the backup domain, and cutting off what the lane
ports were sending by the abort sequence (R189). That the configuration and the routes stand until START_UP loads them is log
entry 13, the transmitter after the abort log entry 19, the second events dropped and the period start that stands log entry
23, the slot counts that stand until the loading log entry 26. -/
def Obligations.SaveReseedAndReset : Prop :=
  (∀ (s : State) (tag : Byte), s.StationReady →
    let f := s.stationFrameArrives
    let executing (k : StationKind) (body : List Byte) : State :=
      { f with station :=
        { f.station with queue := [{ kind := k, tag := tag, body := body, executing := true, answered := false }] } }
    exec (.saveConfig tag []) s =
        .next ((executing .saveConfig []).requestStore
          (.writeImage { config := s.config, routes := s.routes, trim := s.clock.trimSet })).driveAlerts
      ∧ ∀ v : BitVec 32,
        let refused : Prop :=
          s.service = .serving ∨ v = 0 ∨ v = 0xFFFFFFFF ∨ ∃ k, s.station.knownBoot = some k ∧ v ≤ k
        (refused → exec (.reseed tag (wire 4 v)) s =
          .next (f.produce .station { kind := 0x14, tag := tag, reply := .code .valueRange, serial := none }).driveAlerts)
          ∧ (¬ refused → exec (.reseed tag (wire 4 v)) s =
              .next ((executing .reseed (wire 4 v)).requestStore (.writeBoot v)).driveAlerts))
    ∧ (∀ (s : State) (tag : Byte), s.StationReady →
    exec (.resetReq tag []) s =
      .next (State.produce
        { s.stationFrameArrives with station :=
          { s.stationFrameArrives.station with
            queue := [{ kind := .reset, tag := tag, body := [], executing := true, answered := true }] } }
        .station { kind := 0x15, tag := tag, reply := .code .ok, serial := none }).driveAlerts)
    ∧ ∀ (s : State) (a : Answer) (rest : List Answer), s.station.port.answers = a :: rest → a.kind = 0x15 →
      a.reply = .code .ok →
      exec (.answerTransmitted .station) s = .next (State.driveAlerts
        { s with
          service := .starting
          loaded := false
          clock := { s.clock with mono := 0, secondEvents := 0 }
          loadTick := 0
          table := { entries := [], sealCount := 0 }
          kfu :=
            { job := none, stepPointer := 0, admitPointer := 0, admitHold := false, boot := none, sequence := 0
              transportKey := s.kfu.transportKey, challengeKey := s.kfu.challengeKey }
          station :=
            { s.station with queue := [], load := none, port := { rx := .hunt, answers := [], tx := .idle } }
          lanes := Vector.ofFn fun l : LaneNo =>
            { contexts := Vector.replicate 3
                { ticket := 0, body := .free, inFlight := false, pendingEnd := none, endCause := .laneReset }
              queue := [], nextSerial := 0
              notices := { lost := Vector.replicate 3 none, serviceChanged := false, signingChanged := false }
              port :=
                { rx := .hunt, answers := []
                  tx := match s.lanes[l].port.tx with | .sending _ rate => .cutOff [0x7D, 0x7E] rate | t => t }
              linkUp := true, linkDeadline := none, lastFrame := none, alert := false } })

/-- LOAD_KEY (R66, R67, R68): the first check that fails gives the answer; a load that passes every check waits as a LOAD job,
EXECUTING, and the arbiter looks (R114, R115). -/
def Obligations.LoadKeyServed : Prop :=
  ∀ (s : State) (tag slot issuer role : Byte) (g : Gen) (a e : Seconds) (wrapped : Block) (check : BitVec 32), s.StationReady →
    let f := s.stationFrameArrives
    let body := [slot, issuer, role] ++ wire 2 g ++ wire 4 a ++ wire 4 e ++ wire 16 wrapped ++ wire 4 check
    let refused (code : Code) : Prop :=
      exec (.loadKey tag body) s =
        .next (f.produce .station { kind := 0x20, tag := tag, reply := .code code, serial := none }).driveAlerts
    let formed : Prop :=
      issuer ≠ 0 ∧ issuer ≠ 255 ∧ (role = 1 ∨ role = 2) ∧ 1 ≤ g.toNat ∧ g.toNat ≤ 4095 ∧ (e = 0xFFFFFFFF ∨ a < e)
    (¬ formed → refused .malformed)
      ∧ (formed → 24 ≤ slot.toNat → refused .slotRange)
      ∧ ∀ (n : SlotNo) (r : Role), formed → slot.toNat = n.val → r.byte = role →
        let taken : Prop := s.slots[n].body ≠ .empty
        let double : Prop := ∃ (k : SlotNo) (st : HeldState) (d : KeyData),
          s.slots[k].body = .held st d ∧ d.issuer = issuer ∧ d.role = r ∧ d.generation = g
        let away : Prop := r = .record ∧ (s.config.items.home = 0 ∨ issuer ≠ s.config.items.home)
        let past : Prop := s.clock.timeValid = true ∧ e ≠ 0xFFFFFFFF ∧ e ≤ s.clock.seconds
        (taken → refused .slotOccupied)
          ∧ (¬ taken → double → refused .duplicateGeneration)
          ∧ (¬ taken → ¬ double → away → refused .notHome)
          ∧ (¬ taken → ¬ double → ¬ away → past → refused .windowPast)
          ∧ (¬ taken → ¬ double → ¬ away → ¬ past →
              exec (.loadKey tag body) s =
                .next (State.arbitrate
                  { f with station :=
                    { f.station with
                      queue := [{ kind := .loadKey, tag := tag, body := body, executing := true, answered := false }]
                      load := some
                        ({ slot := n, issuer := issuer, role := r, generation := g, activation := a
                           expiry := if e = 0xFFFFFFFF then none else some e, wrapped := wrapped, check := check },
                          s.clock.mono) } }).driveAlerts)

/-- WITHDRAW_KEY (R84, R29, R86): a STAGED, ACTIVE or EXPIRED slot becomes WITHDRAWN and its write is requested, the contexts
that name a master slot are reached, the slot is erased if no use is left, the current signing generation is formed again, and
the answer carries the slot's state and count; any other state is refused. The release that brings a WITHDRAWN slot to zero
makes it ERASING and requests the erase of its record; any other release lowers the count and nothing more (R83, R86). -/
def Obligations.WithdrawalAndLastRelease : Prop :=
  (∀ (s : State) (tag b : Byte), s.StationReady →
    let f := s.stationFrameArrives
    let answered (u : State) (r : Reply) : Prop :=
      exec (.withdrawKey tag [b]) s =
        .next (u.produce .station { kind := 0x21, tag := tag, reply := r, serial := none }).driveAlerts
    (24 ≤ b.toNat → answered f (.code .slotRange))
      ∧ ∀ n : SlotNo, b.toNat = n.val →
        (s.slots[n].body = .empty → answered f (.code .slotEmpty))
          ∧ (∀ st d, s.slots[n].body = .held st d → st ≠ .staged → st ≠ .active → st ≠ .expired →
              answered f (.code .slotBusy))
          ∧ ∀ st d, s.slots[n].body = .held st d → st = .staged ∨ st = .active ∨ st = .expired →
            let t := State.requestStore
              { f with slots := s.slots.set n { s.slots[n] with body := .held .withdrawn d } } (.writeSlot n)
            let v := if d.role = .tagMaster then t.withdrawMaster n else t
            let w : State :=
              if v.slots[n].body = .held .withdrawn d ∧ v.slots[n].refs = 0 then
                State.requestStore { v with slots := v.slots.set n { v.slots[n] with body := .held .erasing d } } (.eraseSlot n)
              else v
            answered w.reformSigning (.withdrawn w.slots[n].state w.slots[n].refs))
    ∧ ∀ (s : State) (n : SlotNo),
    let lowered (b : SlotBody) : State := { s with slots := s.slots.set n { body := b, refs := s.slots[n].refs - 1 } }
    (∀ d, s.slots[n].body = .held .withdrawn d → s.slots[n].refs ≤ 1 →
      s.release n = (lowered (.held .erasing d)).requestStore (.eraseSlot n))
      ∧ ((∀ d, s.slots[n].body ≠ .held .withdrawn d) ∨ 1 < s.slots[n].refs →
          s.release n = lowered s.slots[n].body)

/-- LIST_SLOT, QUERY_PASSAGE and READ_TIME (R88, R58, R59, R146) answer what stands and change nothing else. Which items of the
time base READ_TIME reports is R146's list (log entry 30). -/
def Obligations.ReadRequestsServed : Prop :=
  ∀ (s : State) (tag : Byte), s.StationReady →
    let answered (kind : Byte) (r : Reply) : Host.Outcome State Fault Refusal :=
      .next (s.stationFrameArrives.produce .station { kind := kind, tag := tag, reply := r, serial := none }).driveAlerts
    (∀ b : Byte, 24 ≤ b.toNat → exec (.listSlot tag [b]) s = answered 0x22 (.code .slotRange))
      ∧ (∀ (b : Byte) (n : SlotNo), b.toNat = n.val →
        (s.slots[n].body = .empty → exec (.listSlot tag [b]) s = answered 0x22 (.slot .empty none s.slots[n].refs))
          ∧ ∀ st d, s.slots[n].body = .held st d →
            exec (.listSlot tag [b]) s = answered 0x22
              (.slot
                (match st with
                  | .loading _ => .loading
                  | .staged => .staged
                  | .active => .active
                  | .expired => .expired
                  | .withdrawn => .withdrawn
                  | .erasing => .erasing)
                (some
                  { issuer := d.issuer, role := d.role, generation := d.generation, activation := d.activation
                    expiry := d.expiry, check := d.check })
                s.slots[n].refs))
      ∧ (∀ id : TagId,
        (s.table.find id = none → exec (.queryPassage tag (wire 6 id)) s = answered 0x30 (.passage none))
          ∧ (∀ e time tick number, s.table.find id = some e → e.body = .sealed time tick number →
            exec (.queryPassage tag (wire 6 id)) s = answered 0x30
              (.passage (some
                { claimed := false, lane := e.lane, counter := e.counter, sealTime := some time
                  secondsLeft := some ((tick - s.clock.mono) / 1024), previous := none })))
          ∧ ∀ e c p, s.table.find id = some e → e.body = .claimed c p →
            exec (.queryPassage tag (wire 6 id)) s = answered 0x30
              (.passage (some
                { claimed := true, lane := e.lane, counter := e.counter, sealTime := none, secondsLeft := none
                  previous := p.map fun q => q.counter })))
      ∧ exec (.readTime tag []) s = answered 0x3A
          (.time
            { seconds := s.clock.seconds, fraction := s.clock.fraction, timeValid := s.clock.timeValid
              trim := s.clock.trimSet, backupLow := s.clock.backupLow
              lastLoss := if s.clock.lastLossValid then some s.clock.lastLoss else none })

/-- SET_ROUTE and CLEAR_ROUTE (R97, R98, R99), SET_TIME (R144, R74) and SET_TRIM (R142). That a SET_TRIM first takes a period start
that was raised into the trim in use is log entry 7, and which body CLEAR_ROUTE's answer has is log entry 28. -/
def Obligations.WriteRequestsServed : Prop :=
  ∀ (s : State) (tag : Byte), s.StationReady →
    let f := s.stationFrameArrives
    let answered (u : State) (kind : Byte) (r : Reply) : Host.Outcome State Fault Refusal :=
      .next (u.produce .station { kind := kind, tag := tag, reply := r, serial := none }).driveAlerts
    (∀ (index flags : Byte) (compare mask : TagId) (issuer : Byte) (minGen : Gen),
      let body := [index, flags] ++ wire 6 compare ++ wire 6 mask ++ [issuer] ++ wire 2 minGen
      (issuer = 255 → exec (.setRoute tag body) s = answered f 0x28 (.code .malformed))
        ∧ (issuer ≠ 255 → 32 ≤ index.toNat → exec (.setRoute tag body) s = answered f 0x28 (.code .routeRange))
        ∧ ∀ i : RouteNo, issuer ≠ 255 → index.toNat = i.val →
          let r : Route :=
            { enabled := flags.getLsbD 3, compare := compare &&& ~~~mask, mask := mask, issuer := issuer
              minGen := if minGen = 0 then 1 else if 4095 < minGen then 4095 else minGen
              deny := flags.getLsbD 0, watch := flags.getLsbD 1, strict := flags.getLsbD 2 }
          exec (.setRoute tag body) s =
            answered { f with routes := s.routes.set i r } 0x28 (.route (minGen == 0 || decide (4095 < minGen)) i r))
      ∧ (∀ b : Byte,
        (32 ≤ b.toNat → exec (.clearRoute tag [b]) s = answered f 0x29 (.code .routeRange))
          ∧ ∀ i : RouteNo, b.toNat = i.val →
            exec (.clearRoute tag [b]) s =
              answered
                { f with
                  routes := s.routes.set i
                    { enabled := false, compare := 0, mask := 0, issuer := 0, minGen := 1, deny := false, watch := false
                      strict := false } }
                0x29 (.cleared i s.routes[i].enabled))
      ∧ (∀ v : Seconds,
        exec (.setTime tag (wire 4 v)) s =
          answered
            (State.evaluate { f with clock := { s.clock with seconds := v, fraction := 0, timeValid := true } }).reformSigning
            0x38 (.timeSet s.clock.seconds s.clock.fraction s.clock.timeValid))
      ∧ ∀ b : Byte,
        exec (.setTrim tag [b]) s =
          answered
            { f with
              clock :=
                { s.clock with
                  trimSet := b
                  trimInUse := if s.clock.periodStarted then s.clock.trimSet else s.clock.trimInUse
                  periodStarted := false } }
            0x39 (.trim b)

/-! ### The time base (Chapter 7) -/

/-- FRACTION_TICK and PERIOD_START (R138, R139, R141, R142). While reference pulses arrive, pulses are counted, each as often
as the trim in use says, until 32 are reached; the wall time and, with main power, the tick count advance by one tick. That
a period start and a second event are raised here and taken by their own commands is log entry 7. -/
def Obligations.TimeBaseTicks : Prop :=
  (∀ (trim : BitVec 8) (pulse : Nat),
    let c := trim.toInt
    let corrected : Prop := ∃ k : Nat, (k : Int) < |c| ∧ (2 * k + 1) * 1048576 / c.natAbs = pulse
    (corrected → 0 < c → pulseWeight trim pulse = 2) ∧ (corrected → c < 0 → pulseWeight trim pulse = 0)
      ∧ (¬ corrected → pulseWeight trim pulse = 1))
    ∧ (∀ s : State, s.clock.running = true → s.clock.mono + 1 < 2 ^ 48 →
      let k := s.clock
      let inUse := if k.periodStarted then k.trimSet else k.trimInUse
      let counted (n : Nat) : Nat :=
        k.pulse.toNat + ((List.range n).map fun i => pulseWeight inUse ((k.period.toNat + i) % 2097152)).sum
      let wraps : Prop := k.fraction = 1023
      ∃ n, 1 ≤ n ∧ n ≤ 33 ∧ (∀ j, j < n → counted j < 32) ∧ 32 ≤ counted n
        ∧ exec .fractionTick s = .next
          { s with
            clock :=
              { k with
                pulse := BitVec.ofNat 5 (counted n - 32)
                period := k.period + BitVec.ofNat 21 n
                trimInUse := inUse
                periodStarted := decide (2097152 ≤ k.period.toNat + n)
                fraction := if wraps then 0 else k.fraction + 1
                seconds := if wraps ∧ k.seconds ≠ 0xFFFFFFFF then k.seconds + 1 else k.seconds
                mono := if s.power then k.mono + 1 else k.mono
                secondEvents := if s.power ∧ wraps then k.secondEvents + 1 else k.secondEvents } })
    ∧ (∀ s : State, s.clock.running = false → exec .fractionTick s = .next s)
    ∧ ∀ s : State,
      (s.clock.periodStarted = true →
        exec .periodStart s = .next { s with clock := { s.clock with trimInUse := s.clock.trimSet, periodStarted := false } })
        ∧ (s.clock.periodStarted = false → exec .periodStart s = .next s)

/-- OSCILLATOR_STOP, OSCILLATOR_RESTART, OSCILLATOR_STOP_WHILE_MAIN_POWER_OFF and BACKUP_LOW_CHANGE (R147, R148, R150). What the
trim set holds after lost storage is left open (log entry 3). That a stop takes a raised period start into the trim in use is
log entries 7 and 10, that the trim in use stands at a restart log entry 10. A command that finds its condition unmet changes
nothing (log entry 9). -/
def Obligations.OscillatorAndBackupEvents : Prop :=
  ∀ s : State,
    (s.power = true → s.clock.running = true →
      exec .oscillatorStop s = .next (State.driveAlerts
        { s with
          flags := s.flags ||| 1#21
          clock :=
            { s.clock with
              seconds := 0, fraction := 0, pulse := 0, period := 0, timeValid := false, stopMark := false, running := false
              trimInUse := if s.clock.periodStarted then s.clock.trimSet else s.clock.trimInUse
              periodStarted := false } }))
      ∧ (s.power = false ∨ s.clock.running = false → exec .oscillatorStop s = .next s)
      ∧ (s.clock.running = false →
          exec .oscillatorRestart s =
            .next { s with clock := { s.clock with running := true, pulse := 0, period := 0, periodStarted := false } })
      ∧ (s.clock.running = true → exec .oscillatorRestart s = .next s)
      ∧ (s.power = false → s.clock.running = true →
          exec (.oscillatorStopWhileOff false) s =
            .next { s with clock := { s.clock with stopMark := true, running := false } })
      ∧ (s.power = false →
          ∃ t, exec (.oscillatorStopWhileOff true) s =
            .next { s with
              clock :=
                { s.clock with
                  stopMark := true, running := false, lastLossIntact := false, trimSet := t
                  losses := s.clock.losses + 1 } })
      ∧ (s.power = false → s.clock.running = false → exec (.oscillatorStopWhileOff false) s = .next s)
      ∧ (∀ lost, s.power = true → exec (.oscillatorStopWhileOff lost) s = .next s)
      ∧ (∀ low, s.power = true →
          exec (.backupLowChange low) s = .next { s with clock := { s.clock with backupLow := low } })
      ∧ ∀ low, s.power = false → exec (.backupLowChange low) s = .next s

/-! ### The store, main power and the starts (Chapter 9) -/

/-- A store request (R172, R173): it replaces an entry of its record in place; it begins at once on an idle store; otherwise it
is appended. A slot write takes its content from the slot as it stands when the write begins, a LOADING slot giving its stored
state. -/
def Obligations.StoreRequestsQueued : Prop :=
  (∀ (s : State) (r : StoreReq),
    let listed : Prop := ∃ q ∈ s.store.pending, q.sameRecord r = true
    (listed → s.requestStore r =
      { s with store := { s.store with pending := s.store.pending.map fun q => if q.sameRecord r then r else q } })
      ∧ (¬ listed → s.store.action = none → s.store.pending = [] →
          s.requestStore r = { s with store := { s.store with action := some (s.actionOf r), second := false } })
      ∧ (¬ listed → s.store.action ≠ none ∨ s.store.pending ≠ [] →
          s.requestStore r = { s with store := { s.store with pending := s.store.pending ++ [r] } }))
    ∧ (∀ (s : State) (n : SlotNo) (d : KeyData) (st : StoredState),
      s.slots[n].body = .held
        (match st with | .staged => .staged | .active => .active | .expired => .expired | .withdrawn => .withdrawn) d
          ∨ (∃ l, s.slots[n].body = .held (.loading l) d ∧ (l = .staged ∧ st = .staged ∨ l = .active ∧ st = .active)) →
      s.actionOf (.writeSlot n) = .writeSlot n { data := d, st := st })
    ∧ (∀ (s : State) (n : SlotNo), s.actionOf (.eraseSlot n) = .eraseSlot n)
    ∧ (∀ (s : State) (i : Image), s.actionOf (.writeImage i) = .writeImage i)
    ∧ ∀ (s : State) (b : BitVec 32), s.actionOf (.writeBoot b) = .writeBoot b

/-- STORE_ACTION_COMPLETE, STORE_VERIFY_RETRY and STORE_ACTION_FAILED (R173, R174, R175, R70, R71, R86, R113, R166, R168, R181):
the record is as the action left it, STORE_FAULT is latched at a failure, the consequence is the one of the table of R175
(none while a warm reset drains the list), and then the entry at the head of the list begins. That the consequence comes before
the next action begins is log entry 14; a command that finds no action, or one in its other attempt, changes nothing by log
entry 9; how a second failure leaves the record is the command's operand by log entry 17, for the image too (R166, R174), of which
R90 and R100 speak otherwise (log entry 29). -/
def Obligations.StoreActionsEnd : Prop :=
  (∀ (s : State), s.beginNext =
    match s.store.action, s.store.pending with
    | none, r :: rest =>
      { s with store := { s.store with action := some (s.actionOf r), second := false, pending := rest } }
    | _, _ => s)
    ∧ (∀ (st : Store) (a : StoreAct) (x : AttemptLeft),
      st.left a x =
        match x, a with
        | .former, _ => st
        | .new, .writeSlot n r => { st with slots := st.slots.set n (.intact r) }
        | .new, .eraseSlot n => { st with slots := st.slots.set n .blank }
        | .new, .writeImage i => { st with image := .intact i }
        | .new, .writeBoot b => { st with boot := .intact b }
        | .failing, .writeSlot n _ => { st with slots := st.slots.set n .failing }
        | .failing, .eraseSlot n => { st with slots := st.slots.set n .failing }
        | .failing, .writeImage _ => { st with image := .failing }
        | .failing, .writeBoot _ => { st with boot := .failing })
    ∧ (∀ s : State, s.store.action = none →
      exec .storeActionComplete s = .next s ∧ exec .storeVerifyRetry s = .next s
        ∧ ∀ left, exec (.storeActionFailed left) s = .next s)
    ∧ (∀ s : State, s.store.action ≠ none →
      (s.store.second = false →
        exec .storeVerifyRetry s = .next { s with store := { s.store with second := true } }
          ∧ ∀ left, exec (.storeActionFailed left) s = .next s)
        ∧ (s.store.second = true → exec .storeVerifyRetry s = .next s))
    ∧ (∀ (s : State) (r : Reply), ∀ e rest, s.station.queue = e :: rest →
      s.finishExecuting r =
        (State.produce { s with station := { s.station with queue := rest } } .station
          { kind := e.kind.code, tag := e.tag, reply := r, serial := none }).runStation)
    ∧ (∀ (s : State) (e : StationEntry), s.service ≠ .starting → s.station.queue = [e] → e.answered = false →
      s.runStation =
        State.stationRequest { s with station := { s.station with queue := [] } } e.kind e.tag e.body)
    ∧ (∀ (s : State) (a : StoreAct), s.store.action = some a → s.service = .starting → s.loaded = false →
      exec .storeActionComplete s =
          .next (State.beginNext
            { s with store := { s.store.applied a with action := none, second := false } }).driveAlerts
        ∧ (s.store.second = true → ∀ left,
            exec (.storeActionFailed left) s =
              .next (State.beginNext
                { s with
                  store := { s.store.left a left with action := none, second := false }
                  flags := s.flags ||| 128#21 }).driveAlerts))
    ∧ ∀ (s : State) (a : StoreAct), s.store.action = some a → ¬ (s.service = .starting ∧ s.loaded = false) →
      let wrote : Store := { s.store with action := none, second := false }
      let completed (st : Store) (f : State → State) : Prop :=
        exec .storeActionComplete s = .next ((f { s with store := st }).beginNext).driveAlerts
      let failed (f : State → State) : Prop :=
        s.store.second = true → ∀ left,
          exec (.storeActionFailed left) s =
            .next ((f { s with store := { wrote with
                                          slots := (s.store.left a left).slots
                                          image := (s.store.left a left).image
                                          boot := (s.store.left a left).boot }
                               flags := s.flags ||| 128#21 }).beginNext).driveAlerts
      (∀ n r, a = .writeSlot n r →
        let st : Store := { wrote with slots := s.store.slots.set n (.intact r) }
        (∀ l d, s.slots[n].body = .held (.loading l) d →
          let stored : HeldState := match l with | .staged => .staged | .active => .active
          completed st (fun u =>
            let v := (State.evaluate { u with slots := u.slots.set n { u.slots[n] with body := .held stored d } }).reformSigning
            v.finishExecuting (.loaded v.slots[n].state))
          ∧ failed (fun u =>
              (State.requestStore { u with slots := u.slots.set n { u.slots[n] with body := .empty } } (.eraseSlot n)).finishExecuting
                (.code .storeFailed)))
        ∧ ((∀ l d, s.slots[n].body ≠ .held (.loading l) d) → completed st id ∧ failed id))
      ∧ (∀ n, a = .eraseSlot n →
        let st : Store := { wrote with slots := s.store.slots.set n .blank }
        (∀ d, s.slots[n].body = .held .erasing d →
          completed st (fun u => { u with slots := u.slots.set n { u.slots[n] with body := .empty } }) ∧ failed id)
        ∧ ((∀ d, s.slots[n].body ≠ .held .erasing d) → completed st id ∧ failed id))
      ∧ (∀ i, a = .writeImage i → s.station.isExecuting .saveConfig = true →
          completed { wrote with image := .intact i } (fun u => u.finishExecuting (.code .ok))
          ∧ failed (fun u => u.finishExecuting (.code .storeFailed)))
      ∧ ∀ b, a = .writeBoot b →
        let st : Store := { wrote with boot := .intact b }
        let known (u : State) : State := { u with station := { u.station with knownBoot := some b } }
        let serving (u : State) : State :=
          { u with
            service := .serving
            lanes := Vector.ofFn fun l : LaneNo =>
              { u.lanes[l] with notices := { u.lanes[l].notices with serviceChanged := true } } }
        let unheld (u : State) : State := { u with kfu := { u.kfu with admitHold := false } }
        (s.service = .starting →
          completed st (fun u => serving (known u)) ∧ failed (fun u => { u with service := .seedWait }))
        ∧ (s.service = .serving →
          completed st (fun u => (unheld (known u)).arbitrate) ∧ failed (fun u => (unheld u).leaveService))
        ∧ (s.service = .seedWait → s.station.isExecuting .reseed = true →
          completed st (fun u =>
            (serving { known u with kfu := { u.kfu with boot := some b, sequence := 0 } }).finishExecuting (.code .ok))
          ∧ failed (fun u => u.finishExecuting (.code .storeFailed)))

/-- MAIN_POWER_FAIL and POWER_ON (R151, R176, R177, R149, R152, R7, R37, R123). The capture of the last-loss time, the record
the store was changing, and the state of the module at a power-on. That a command of either kind changes nothing in the other
power state is log entry 9; the values the main domain shows while main power is off are log entry 22. Pulses that run again
at a power-on with the stop mark are log entry 11, pulses that stay away at one without it log entry 33, the default
configuration and cleared routes until START_UP log entry 13, the EMPTY slots and the signing generation of none until then
log entry 31, the second events dropped and the period start that stands log entry 23. -/
def Obligations.MainPowerMoves : Prop :=
  (∀ (s : State) (p : ActionPoint), s.power = true →
    ∃ u : State, exec (.mainPowerFail p) s = .next u ∧ u.power = false ∧ u.pending = s.pending
      ∧ u.kfu.transportKey = s.kfu.transportKey ∧ u.kfu.challengeKey = s.kfu.challengeKey
      ∧ u.clock =
          { s.clock with
            lastLoss := s.clock.seconds, lastLossValid := s.clock.timeValid, lastLossIntact := true, mono := 0
            secondEvents := 0 }
      ∧ u.kfu.job = none ∧ u.table.entries = [] ∧ (∀ (l : LaneNo) (c : CtxNo), (u.ctx l c).body = .free)
      ∧ (∀ l : LaneNo, u.lanes[l].queue = [] ∧ u.lanes[l].port.answers = []) ∧ u.station.queue = []
      ∧ u.store.action = none ∧ u.store.pending = []
      ∧ (s.store.action = none ∨ p = .beforeChange →
          u.store.slots = s.store.slots ∧ u.store.image = s.store.image ∧ u.store.boot = s.store.boot)
      ∧ (p = .changing → ∀ a, s.store.action = some a →
          u.store =
            match a with
            | .writeSlot n _ => { s.store with action := none, second := false, pending := [], slots := s.store.slots.set n .failing }
            | .eraseSlot n => { s.store with action := none, second := false, pending := [], slots := s.store.slots.set n .failing }
            | .writeImage _ => { s.store with action := none, second := false, pending := [], image := .failing }
            | .writeBoot _ => { s.store with action := none, second := false, pending := [], boot := .failing })
      ∧ (p = .changed → ∀ a, s.store.action = some a →
          u.store =
            match a with
            | .writeSlot n r => { s.store with action := none, second := false, pending := [], slots := s.store.slots.set n (.intact r) }
            | .eraseSlot n => { s.store with action := none, second := false, pending := [], slots := s.store.slots.set n .blank }
            | .writeImage i => { s.store with action := none, second := false, pending := [], image := .intact i }
            | .writeBoot b => { s.store with action := none, second := false, pending := [], boot := .intact b }))
    ∧ (∀ (s : State) (p : ActionPoint), s.power = false → exec (.mainPowerFail p) s = .next s)
    ∧ (∀ (s : State) (low : Bool), s.power = true → exec (.powerOn low) s = .next s)
    ∧ ∀ (s : State) (low : Bool), s.power = false →
      exec (.powerOn low) s = .next (State.driveAlerts
        { power := true
          service := .starting
          loaded := false
          clock :=
            if s.clock.stopMark then
              { s.clock with
                seconds := 0, fraction := 0, pulse := 0, period := 0, timeValid := false, trimInUse := 0, stopMark := false
                lastLossValid := s.clock.lastLossValid && s.clock.lastLossIntact, backupLow := low, mono := 0
                secondEvents := 0, trimFromConfig := true, running := true, periodStarted := false }
            else { s.clock with backupLow := low, mono := 0, secondEvents := 0, trimFromConfig := false }
          lanes := Vector.replicate 4
            { contexts := Vector.replicate 3
                { ticket := 0, body := .free, inFlight := false, pendingEnd := none, endCause := .laneReset }
              queue := [], nextSerial := 0
              notices := { lost := Vector.replicate 3 none, serviceChanged := false, signingChanged := false }
              port := { rx := .hunt, answers := [], tx := .idle }, linkUp := true, linkDeadline := none
              lastFrame := none, alert := false }
          laneRate := .r460800
          loadTick := 0
          table := { entries := [], sealCount := 0 }
          slots := Vector.replicate 24 { body := .empty, refs := 0 }
          signing := none
          routes := Vector.replicate 32
            { enabled := false, compare := 0, mask := 0, issuer := 0, minGen := 1, deny := false, watch := false
              strict := false }
          kfu :=
            { job := none, stepPointer := 0, admitPointer := 0, admitHold := false, boot := none, sequence := 0
              transportKey := s.kfu.transportKey, challengeKey := s.kfu.challengeKey }
          station :=
            { queue := [], load := none, knownBoot := none, port := { rx := .hunt, answers := [], tx := .idle }
              alert := false }
          config := WorkingConfig.defaults
          flags := if s.clock.stopMark then 1 else 0
          store := { s.store with action := none, second := false, pending := [] }
          pending := s.pending })

/-- START_UP (R178 to R181, R65, R90, R110, R149): the configuration image or the defaults, the 24 slot records with their
erases, the evaluation and the current signing generation without a notice, and the boot record. That a period start raised
before takes the trim set that stood then, where the configuration's trim replaces it, is log entry 7. Where the start is not
at this point the command changes nothing (log entry 9). -/
def Obligations.StartUpLoads : Prop :=
  (∀ s : State, s.power = true → s.service = .starting → s.loaded = false → s.store.action = none → s.store.pending = [] →
    ∃ (i : Image) (config slots : State),
      (∀ j, s.store.image = .intact j → i = j)
        ∧ ((∀ j, s.store.image ≠ .intact j) →
            i =
              { config := WorkingConfig.defaults
                routes := Vector.replicate 32
                  { enabled := false, compare := 0, mask := 0, issuer := 0, minGen := 1, deny := false, watch := false
                    strict := false }
                trim := 0 })
        ∧ config =
            { s with
              config := i.config, routes := i.routes, laneRate := i.config.items.rate, loadTick := s.clock.mono
              clock :=
                if s.clock.trimFromConfig then
                  { s.clock with
                    trimInUse := if s.clock.periodStarted then s.clock.trimSet else s.clock.trimInUse
                    periodStarted := false, trimSet := i.trim, trimFromConfig := false }
                else s.clock
              lanes := config.lanes
              flags := match s.store.image with | .intact _ => s.flags | _ => s.flags ||| 4#21 }
        ∧ (∀ l : LaneNo,
            config.lanes[l] =
              { s.lanes[l] with
                port := { s.lanes[l].port with rx := if i.config.items.rate = s.laneRate then s.lanes[l].port.rx else .hunt }
                linkDeadline := config.lanes[l].linkDeadline }
            ∧ (i.config.lanes[l].linkTimeout = 0 → config.lanes[l].linkDeadline = none)
            ∧ (i.config.lanes[l].linkTimeout ≠ 0 → ∃ d, config.lanes[l].linkDeadline = some (s.clock.mono + d)
                ∧ i.config.lanes[l].linkTimeout.toNat * 1024 ≤ d * 1000
                ∧ d * 1000 < i.config.lanes[l].linkTimeout.toNat * 1024 + 1000))
        ∧ slots =
            ((List.finRange 24).filter fun n =>
              match s.store.slots[n] with
              | .failing => true
              | .intact r => r.st == .withdrawn
              | .blank => false).foldl (fun (u : State) n => u.requestStore (.eraseSlot n))
              { config with
                slots := Vector.ofFn fun n : SlotNo =>
                  { refs := 0
                    body :=
                      match s.store.slots[n] with
                      | .intact { data := d, st := .staged } => .held .staged d
                      | .intact { data := d, st := .active } => .held .active d
                      | .intact { data := d, st := .expired } => .held .expired d
                      | .intact { data := d, st := .withdrawn } => .held .erasing d
                      | _ => .empty }
                flags := if ∃ n : SlotNo, s.store.slots[n] = .failing then config.flags ||| 2#21 else config.flags }
        ∧ let ready := { slots.evaluate with signing := slots.evaluate.formSigning, loaded := true }
          (∀ b, s.store.boot = .intact b → b ≠ 0xFFFFFFFF →
            exec .startUp s = .next (State.requestStore
              { ready with
                station := { ready.station with knownBoot := some b }
                kfu := { ready.kfu with boot := some (b + 1) } } (.writeBoot (b + 1))).driveAlerts)
          ∧ (s.store.boot = .intact 0xFFFFFFFF →
            exec .startUp s = .next (State.driveAlerts
              { ready with
                service := .seedWait
                station := { ready.station with knownBoot := some 0xFFFFFFFF }
                kfu := { ready.kfu with boot := some 0xFFFFFFFF } }))
          ∧ ((∀ b, s.store.boot ≠ .intact b) →
            exec .startUp s = .next (State.driveAlerts
              { ready with
                service := .seedWait
                station := { ready.station with knownBoot := none }
                kfu := { ready.kfu with boot := none }
                flags := ready.flags ||| 8#21 })))
    ∧ ∀ s : State,
      s.power = false ∨ s.service ≠ .starting ∨ s.loaded = true ∨ s.store.action ≠ none ∨ s.store.pending ≠ [] →
      exec .startUp s = .next s
end

