-- ==== Sys2Proof/Laws/Bytes.lean ====
section
/-! SUPPORT. Numbers and byte strings agree (R196): the bytes of a field spell its value, at any place of a body. -/

namespace Sys2Proof.Machine

@[simp] theorem bytesOf_length (n v : Nat) : (bytesOf n v).length = n := by
  induction n generalizing v with
  | zero => rfl
  | succ n ih => simp [bytesOf, ih]

@[simp] theorem wire_length {w : Nat} (n : Nat) (v : BitVec w) : (wire n v).length = n := bytesOf_length n v.toNat

/-- A number read from an accumulator on. -/
theorem numberOf_foldl (bs : List Byte) (a : Nat) :
    bs.foldl (fun a b => a * 256 + b.toNat) a = a * 256 ^ bs.length + numberOf bs := by
  induction bs generalizing a with
  | nil => simp [numberOf]
  | cons b bs ih =>
    simp only [List.foldl_cons, numberOf, List.length_cons]
    rw [ih, ih (0 * 256 + b.toNat)]
    ring

theorem numberOf_cons (b : Byte) (bs : List Byte) : numberOf (b :: bs) = b.toNat * 256 ^ bs.length + numberOf bs := by
  simp only [numberOf, List.foldl_cons]
  rw [numberOf_foldl]
  simp [numberOf]

/-- The bytes of a number spell it, within their width. -/
theorem numberOf_bytesOf (n v : Nat) : numberOf (bytesOf n v) = v % 256 ^ n := by
  induction n generalizing v with
  | zero => simp [bytesOf, numberOf, Nat.mod_one]
  | succ n ih =>
    rw [bytesOf, numberOf_cons, bytesOf_length, ih, pow_succ, Nat.mod_mul]
    simp only [BitVec.toNat_ofNat, Nat.reducePow]
    ring

/-- A field that fits its bytes reads back. -/
theorem ofNat_numberOf_wire {w : Nat} (n : Nat) (v : BitVec w) (h : w ≤ 8 * n) :
    BitVec.ofNat w (numberOf (wire n v)) = v := by
  have hv : v.toNat < 256 ^ n := by
    refine lt_of_lt_of_le v.isLt ?_
    rw [show (256 : Nat) ^ n = 2 ^ (8 * n) by rw [pow_mul]; norm_num]
    exact Nat.pow_le_pow_right (by norm_num) h
  rw [wire, numberOf_bytesOf, Nat.mod_eq_of_lt hv, BitVec.ofNat_toNat, BitVec.setWidth_eq]

/-- A field read behind the bytes that stand before it. -/
theorem fieldAt_append {w : Nat} (front : List Byte) (n : Nat) (v : BitVec w) (rest : List Byte) (off : Nat)
    (hoff : front.length = off) (h : w ≤ 8 * n) : fieldAt w (front ++ (wire n v ++ rest)) off n = v := by
  subst hoff
  have : (wire n v ++ rest).take n = wire n v := by
    rw [List.take_append_of_le_length (by simp)]
    exact List.take_of_length_le (by simp)
  rw [fieldAt, List.drop_left, this]
  exact ofNat_numberOf_wire n v h

/-- A field read at the front of a body. -/
theorem fieldAt_head {w : Nat} (n : Nat) (v : BitVec w) (rest : List Byte) (h : w ≤ 8 * n) :
    fieldAt w (wire n v ++ rest) 0 n = v := fieldAt_append [] n v rest 0 rfl h

/-- A field whose bytes are the whole body. -/
theorem fieldAt_whole {w : Nat} (n : Nat) (v : BitVec w) (h : w ≤ 8 * n) : fieldAt w (wire n v) 0 n = v := by
  have := fieldAt_head n v [] h
  rwa [List.append_nil] at this

/-- A field does not see the field in front of it. -/
theorem fieldAt_wire_skip {w v : Nat} (k : Nat) (x : BitVec v) (rest : List Byte) (off n : Nat) (h : k ≤ off) :
    fieldAt w (wire k x ++ rest) off n = fieldAt w rest (off - k) n := by
  have : (wire k x).drop off = [] := List.drop_of_length_le (by simpa using h)
  simp [fieldAt, List.drop_append, this]

/-- A field does not see the byte in front of it. -/
theorem fieldAt_cons {w : Nat} (b : Byte) (rest : List Byte) (off n : Nat) :
    fieldAt w (b :: rest) (off + 1) n = fieldAt w rest off n := by
  simp [fieldAt]

/-- A byte does not see the field in front of it. -/
theorem byteAt_wire_skip {v : Nat} (k : Nat) (x : BitVec v) (rest : List Byte) (off : Nat) (h : k ≤ off) :
    byteAt (wire k x ++ rest) off = byteAt rest (off - k) := by
  simp [byteAt, List.getElem?_append_right, h]

/-- A byte at the front, and one behind it. -/
@[simp] theorem byteAt_zero (b : Byte) (rest : List Byte) : byteAt (b :: rest) 0 = b := rfl

@[simp] theorem byteAt_cons (b : Byte) (rest : List Byte) (off : Nat) : byteAt (b :: rest) (off + 1) = byteAt rest off := rfl

end Sys2Proof.Machine
end

