-- ==== Sys2Proof/Laws/Invariants.lean ====
section
/-! SUPPORT. What the parts of the invariants read: each stands on from state to state where the fields it reads do, and how one
part gives another. -/

namespace Sys2Proof.Machine

variable {s t : State}

/-- The LOAD_KEY requests in hand are read from the station's job and the job in flight. -/
theorem State.loadRequests_congr (hl : t.station.load = s.station.load) (hj : t.kfu.job = s.kfu.job) :
    t.loadRequests = s.loadRequests := by
  simp only [State.loadRequests, hl, hj]

theorem State.loadingSlots_congr (h : t.slots = s.slots) : t.loadingSlots = s.loadingSlots := by
  simp only [State.loadingSlots, h]

theorem State.mem_loadingSlots (n : SlotNo) : n ∈ s.loadingSlots ↔ s.slots[n].state = .loading := by
  simp [State.loadingSlots]

theorem State.LoadSound_congr (h : s.LoadSound) (hd : t.loaded = s.loaded) (hs : t.slots = s.slots)
    (hl : t.station.load = s.station.load) (hq : t.station.queue = s.station.queue) (hj : t.kfu.job = s.kfu.job) :
    t.LoadSound := by
  simpa only [State.LoadSound, State.loadRequests_congr hl hj, State.loadingSlots_congr hs, hd, Station.isExecuting, hq] using h

theorem State.StartSound_congr (h : s.StartSound) (hd : t.loaded = s.loaded) (hv : t.service = s.service)
    (hj : t.kfu.job = s.kfu.job) (hq : t.station.queue = s.station.queue) (hl : t.station.load = s.station.load)
    (hb : ∀ l c, (t.ctx l c).body = (s.ctx l c).body) : t.StartSound := by
  simpa only [State.StartSound, hd, hv, hj, hq, hl, hb] using h

/-- The keys of a slot are read from the slots, the slot records and the action in progress. -/
theorem State.keysAt_congr (n : SlotNo) (h : t.slots = s.slots) (hr : t.store.slots = s.store.slots)
    (ha : t.store.action = s.store.action) : t.keysAt n = s.keysAt n := by
  simp only [State.keysAt, h, hr, ha]

theorem State.KeysApart_congr (h : s.KeysApart) (hs : t.slots = s.slots) (hr : t.store.slots = s.store.slots)
    (ha : t.store.action = s.store.action) : t.KeysApart := by
  simpa only [State.KeysApart, State.keysAt_congr _ hs hr ha] using h

/-- Fewer keys in the places are still apart. -/
theorem State.KeysApart_mono (h : s.KeysApart) (hk : ∀ n, ∀ a ∈ t.keysAt n, a ∈ s.keysAt n) : t.KeysApart :=
  fun m n a ha b hb => h m n a (hk m a ha) b (hk n b hb)

theorem State.LoadsFresh_congr (h : s.LoadsFresh) (hs : t.slots = s.slots) (hl : t.station.load = s.station.load)
    (hj : t.kfu.job = s.kfu.job) : t.LoadsFresh := by
  simpa only [State.LoadsFresh, State.loadRequests_congr hl hj, hs] using h

theorem State.RecordsFollow_congr (h : s.RecordsFollow) (hs : t.slots = s.slots) (hr : t.store.slots = s.store.slots)
    (ha : t.store.action = s.store.action) : t.RecordsFollow := by
  simpa only [State.RecordsFollow, hs, hr, ha] using h

/-- Keys apart in slots, records and write leave one slot for each generation (R64). -/
theorem State.KeysApart.oneSlot (h : s.KeysApart) : s.OneSlotPerGeneration := by
  intro m n a b ha hb hx
  refine h m n a ?_ b ?_ hx
  · exact List.mem_append_left _ (List.mem_append_left _ (Option.mem_toList.mpr ha))
  · exact List.mem_append_left _ (List.mem_append_left _ (Option.mem_toList.mpr hb))

theorem Lane.QueueSound_congr {a b : Lane} (h : a.QueueSound) (hq : b.queue = a.queue) (hn : b.nextSerial = a.nextSerial)
    (hp : b.port.answers = a.port.answers) : b.QueueSound := by
  simpa only [Lane.QueueSound, Lane.placesHeld, hq, hn, hp] using h

theorem Lane.EntriesSound_congr {a b : Lane} (h : a.EntriesSound) (hq : b.queue = a.queue) (hc : b.contexts = a.contexts) :
    b.EntriesSound := by
  simpa only [Lane.EntriesSound, hq, hc] using h

end Sys2Proof.Machine
end

