-- ==== Sys2Proof/Laws/Operands.lean ====
section
/-! SUPPORT. What the readers of the station request bodies find in a body written out field by field (R202). -/

namespace Sys2Proof.Machine

theorem readStatus_wire (mask : BitVec 24) : readStatus (wire 3 mask) = some (mask.setWidth 21) := by
  have h : BitVec.ofNat 24 (numberOf (wire 3 mask)) = mask := ofNat_numberOf_wire 3 mask (by norm_num)
  simp only [readStatus, wire_length, if_true, Option.some.injEq, fieldAt, List.drop_zero]
  rw [List.take_of_length_le (by simp)]
  conv_rhs => rw [← h]
  apply BitVec.eq_of_toNat_eq
  simp

theorem readTagId_wire (id : TagId) : readTagId (wire 6 id) = some id := by
  simp (disch := omega) [readTagId, fieldAt_whole]

theorem readSetTime_wire (v : Seconds) : readSetTime (wire 4 v) = some v := by
  simp (disch := omega) [readSetTime, fieldAt_whole]

theorem readReseed_wire (v : BitVec 32) : readReseed (wire 4 v) = some v := by
  simp (disch := omega) [readReseed, fieldAt_whole]

/-- SET_LANE written out. -/
theorem readSetLane_wire (l : LaneNo) (on : Bool) (dwell timeout : BitVec 16) :
    readSetLane ([BitVec.ofNat 8 l.val, if on then 1 else 0] ++ wire 2 dwell ++ wire 2 timeout) =
      some
        { lane := l, set := { enabled := on, dwell := clamp 10 500 dwell, linkTimeout := clampTimeout timeout }
          clamped := clamp 10 500 dwell != dwell || clampTimeout timeout != timeout } := by
  have hl : l.val < 256 := by omega
  have hm : l.val % 256 = l.val := Nat.mod_eq_of_lt hl
  have e : [BitVec.ofNat 8 l.val, if on then 1 else 0] ++ wire 2 dwell ++ wire 2 timeout =
      BitVec.ofNat 8 l.val :: (if on then 1 else 0) :: (wire 2 dwell ++ wire 2 timeout) := by simp
  rw [e]
  cases on <;>
    simp (disch := omega) [readSetLane, fieldAt_cons, fieldAt_wire_skip, fieldAt_head, fieldAt_whole, hm, enabledOf]

/-- SET_CONFIG written out. -/
theorem readSetConfig_wire (gantry : BitVec 16) (home : Byte) (window holdover : BitVec 16) (mode : Byte) (mask : BitVec 24)
    (rate : Byte) :
    readSetConfig (wire 2 gantry ++ [home] ++ wire 2 window ++ wire 2 holdover ++ [mode] ++ wire 3 mask ++ [rate]) =
      match modeOf mode, rateOf rate with
      | some m, some r =>
        if home ≠ 255 then
          some
            { items :=
                { gantry := gantry, home := home, window := clamp 1 3600 window, holdover := clamp 0 1440 holdover
                  mode := m, mask := mask.setWidth 21, rate := r }
              clamped := clamp 1 3600 window != window || clamp 0 1440 holdover != holdover }
        else none
      | _, _ => none := by
  have e : wire 2 gantry ++ [home] ++ wire 2 window ++ wire 2 holdover ++ [mode] ++ wire 3 mask ++ [rate] =
      wire 2 gantry ++ home :: (wire 2 window ++ (wire 2 holdover ++ mode :: (wire 3 mask ++ [rate]))) := by simp
  rw [e]
  have h3 : fieldAt 21 (wire 3 mask ++ [rate]) 0 3 = mask.setWidth 21 := by
    have := readStatus_wire mask
    simp only [readStatus, wire_length, if_true, Option.some.injEq] at this
    rw [← this, fieldAt, fieldAt, List.drop_zero, List.drop_zero, List.take_append_of_le_length (by simp)]
  have hm : byteAt (wire 2 gantry ++ home :: (wire 2 window ++ (wire 2 holdover ++ mode :: (wire 3 mask ++ [rate])))) 7 =
      mode := by
    simp (disch := omega) [byteAt_wire_skip]
  have hr : byteAt (wire 2 gantry ++ home :: (wire 2 window ++ (wire 2 holdover ++ mode :: (wire 3 mask ++ [rate])))) 11 =
      rate := by
    simp (disch := omega) [byteAt_wire_skip]
  unfold readSetConfig
  rw [hm, hr]
  cases modeOf mode <;> cases rateOf rate <;>
    simp (disch := omega) [byteAt_wire_skip, fieldAt_cons, fieldAt_wire_skip, fieldAt_head, h3]

/-- LOAD_KEY written out. -/
theorem readLoadKey_wire (slot issuer role : Byte) (g : Gen) (a e : Seconds) (wrapped : Block) (check : BitVec 32) :
    readLoadKey ([slot, issuer, role] ++ wire 2 g ++ wire 4 a ++ wire 4 e ++ wire 16 wrapped ++ wire 4 check) =
      match roleOf role with
      | some r =>
        if issuer ≠ 0 ∧ issuer ≠ 255 ∧ 1 ≤ g.toNat ∧ g.toNat ≤ 4095 ∧ expiryAfter a (expiryOf e) then
          some
            { slot := slot.toNat, issuer := issuer, role := r, generation := g, activation := a, expiry := expiryOf e
              wrapped := wrapped, check := check }
        else none
      | none => none := by
  unfold readLoadKey
  simp only [List.cons_append, List.nil_append, List.append_assoc, byteAt_cons, byteAt_zero]
  cases roleOf role <;>
    simp (disch := omega) [fieldAt_cons, fieldAt_wire_skip, fieldAt_head, fieldAt_whole]

/-- SET_ROUTE written out. -/
theorem readSetRoute_wire (index flags : Byte) (compare mask : TagId) (issuer : Byte) (minGen : Gen) :
    readSetRoute ([index, flags] ++ wire 6 compare ++ wire 6 mask ++ [issuer] ++ wire 2 minGen) =
      if issuer ≠ 255 then
        some
          { index := index.toNat
            route :=
              { enabled := flags.getLsbD 3, compare := compare &&& ~~~mask, mask := mask, issuer := issuer
                minGen := clamp 1 4095 minGen, deny := flags.getLsbD 0, watch := flags.getLsbD 1
                strict := flags.getLsbD 2 }
            clamped := clamp 1 4095 minGen != minGen }
      else none := by
  have e : [index, flags] ++ wire 6 compare ++ wire 6 mask ++ [issuer] ++ wire 2 minGen =
      index :: flags :: (wire 6 compare ++ (wire 6 mask ++ issuer :: wire 2 minGen)) := by simp
  rw [e]
  simp (disch := omega) [readSetRoute, byteAt_wire_skip, fieldAt_cons, fieldAt_wire_skip, fieldAt_head, fieldAt_whole]

end Sys2Proof.Machine
end

