-- ==== Sys2Proof/Laws/State.lean ====
section
/-! SUPPORT. What each update of one part leaves of every field of State: one lemma a field, true by unfolding, so that no
proof unfolds a record update. -/

namespace Sys2Proof.Machine

variable (s : State)

/-! One lane replaced -/

@[simp] theorem State.onLane_power (l : LaneNo) (f : Lane → Lane) : (s.onLane l f).power = s.power := rfl
@[simp] theorem State.onLane_service (l : LaneNo) (f : Lane → Lane) : (s.onLane l f).service = s.service := rfl
@[simp] theorem State.onLane_loaded (l : LaneNo) (f : Lane → Lane) : (s.onLane l f).loaded = s.loaded := rfl
@[simp] theorem State.onLane_clock (l : LaneNo) (f : Lane → Lane) : (s.onLane l f).clock = s.clock := rfl
@[simp] theorem State.onLane_lanes (l : LaneNo) (f : Lane → Lane) : (s.onLane l f).lanes = s.lanes.set l (f s.lanes[l]) := rfl
@[simp] theorem State.onLane_laneRate (l : LaneNo) (f : Lane → Lane) : (s.onLane l f).laneRate = s.laneRate := rfl
@[simp] theorem State.onLane_loadTick (l : LaneNo) (f : Lane → Lane) : (s.onLane l f).loadTick = s.loadTick := rfl
@[simp] theorem State.onLane_table (l : LaneNo) (f : Lane → Lane) : (s.onLane l f).table = s.table := rfl
@[simp] theorem State.onLane_slots (l : LaneNo) (f : Lane → Lane) : (s.onLane l f).slots = s.slots := rfl
@[simp] theorem State.onLane_signing (l : LaneNo) (f : Lane → Lane) : (s.onLane l f).signing = s.signing := rfl
@[simp] theorem State.onLane_routes (l : LaneNo) (f : Lane → Lane) : (s.onLane l f).routes = s.routes := rfl
@[simp] theorem State.onLane_kfu (l : LaneNo) (f : Lane → Lane) : (s.onLane l f).kfu = s.kfu := rfl
@[simp] theorem State.onLane_station (l : LaneNo) (f : Lane → Lane) : (s.onLane l f).station = s.station := rfl
@[simp] theorem State.onLane_config (l : LaneNo) (f : Lane → Lane) : (s.onLane l f).config = s.config := rfl
@[simp] theorem State.onLane_flags (l : LaneNo) (f : Lane → Lane) : (s.onLane l f).flags = s.flags := rfl
@[simp] theorem State.onLane_store (l : LaneNo) (f : Lane → Lane) : (s.onLane l f).store = s.store := rfl
@[simp] theorem State.onLane_pending (l : LaneNo) (f : Lane → Lane) : (s.onLane l f).pending = s.pending := rfl

/-! One context replaced -/

@[simp] theorem State.onCtx_power (l : LaneNo) (c : CtxNo) (f : Context → Context) : (s.onCtx l c f).power = s.power := rfl
@[simp] theorem State.onCtx_service (l : LaneNo) (c : CtxNo) (f : Context → Context) :
    (s.onCtx l c f).service = s.service := rfl
@[simp] theorem State.onCtx_loaded (l : LaneNo) (c : CtxNo) (f : Context → Context) : (s.onCtx l c f).loaded = s.loaded := rfl
@[simp] theorem State.onCtx_clock (l : LaneNo) (c : CtxNo) (f : Context → Context) : (s.onCtx l c f).clock = s.clock := rfl
@[simp] theorem State.onCtx_lanes (l : LaneNo) (c : CtxNo) (f : Context → Context) :
    (s.onCtx l c f).lanes = s.lanes.set l (s.lanes[l].onCtx c f) := rfl
@[simp] theorem State.onCtx_laneRate (l : LaneNo) (c : CtxNo) (f : Context → Context) :
    (s.onCtx l c f).laneRate = s.laneRate := rfl
@[simp] theorem State.onCtx_loadTick (l : LaneNo) (c : CtxNo) (f : Context → Context) :
    (s.onCtx l c f).loadTick = s.loadTick := rfl
@[simp] theorem State.onCtx_table (l : LaneNo) (c : CtxNo) (f : Context → Context) : (s.onCtx l c f).table = s.table := rfl
@[simp] theorem State.onCtx_slots (l : LaneNo) (c : CtxNo) (f : Context → Context) : (s.onCtx l c f).slots = s.slots := rfl
@[simp] theorem State.onCtx_signing (l : LaneNo) (c : CtxNo) (f : Context → Context) :
    (s.onCtx l c f).signing = s.signing := rfl
@[simp] theorem State.onCtx_routes (l : LaneNo) (c : CtxNo) (f : Context → Context) : (s.onCtx l c f).routes = s.routes := rfl
@[simp] theorem State.onCtx_kfu (l : LaneNo) (c : CtxNo) (f : Context → Context) : (s.onCtx l c f).kfu = s.kfu := rfl
@[simp] theorem State.onCtx_station (l : LaneNo) (c : CtxNo) (f : Context → Context) :
    (s.onCtx l c f).station = s.station := rfl
@[simp] theorem State.onCtx_config (l : LaneNo) (c : CtxNo) (f : Context → Context) : (s.onCtx l c f).config = s.config := rfl
@[simp] theorem State.onCtx_flags (l : LaneNo) (c : CtxNo) (f : Context → Context) : (s.onCtx l c f).flags = s.flags := rfl
@[simp] theorem State.onCtx_store (l : LaneNo) (c : CtxNo) (f : Context → Context) : (s.onCtx l c f).store = s.store := rfl
@[simp] theorem State.onCtx_pending (l : LaneNo) (c : CtxNo) (f : Context → Context) :
    (s.onCtx l c f).pending = s.pending := rfl

/-! A job-in-flight mark cleared -/

@[simp] theorem State.clearMark_power (l : LaneNo) (c : CtxNo) : (s.clearMark l c).power = s.power := rfl
@[simp] theorem State.clearMark_service (l : LaneNo) (c : CtxNo) : (s.clearMark l c).service = s.service := rfl
@[simp] theorem State.clearMark_loaded (l : LaneNo) (c : CtxNo) : (s.clearMark l c).loaded = s.loaded := rfl
@[simp] theorem State.clearMark_clock (l : LaneNo) (c : CtxNo) : (s.clearMark l c).clock = s.clock := rfl
@[simp] theorem State.clearMark_lanes (l : LaneNo) (c : CtxNo) :
    (s.clearMark l c).lanes = s.lanes.set l (s.lanes[l].onCtx c fun x => { x with inFlight := false }) := rfl
@[simp] theorem State.clearMark_laneRate (l : LaneNo) (c : CtxNo) : (s.clearMark l c).laneRate = s.laneRate := rfl
@[simp] theorem State.clearMark_loadTick (l : LaneNo) (c : CtxNo) : (s.clearMark l c).loadTick = s.loadTick := rfl
@[simp] theorem State.clearMark_table (l : LaneNo) (c : CtxNo) : (s.clearMark l c).table = s.table := rfl
@[simp] theorem State.clearMark_slots (l : LaneNo) (c : CtxNo) : (s.clearMark l c).slots = s.slots := rfl
@[simp] theorem State.clearMark_signing (l : LaneNo) (c : CtxNo) : (s.clearMark l c).signing = s.signing := rfl
@[simp] theorem State.clearMark_routes (l : LaneNo) (c : CtxNo) : (s.clearMark l c).routes = s.routes := rfl
@[simp] theorem State.clearMark_kfu (l : LaneNo) (c : CtxNo) : (s.clearMark l c).kfu = s.kfu := rfl
@[simp] theorem State.clearMark_station (l : LaneNo) (c : CtxNo) : (s.clearMark l c).station = s.station := rfl
@[simp] theorem State.clearMark_config (l : LaneNo) (c : CtxNo) : (s.clearMark l c).config = s.config := rfl
@[simp] theorem State.clearMark_flags (l : LaneNo) (c : CtxNo) : (s.clearMark l c).flags = s.flags := rfl
@[simp] theorem State.clearMark_store (l : LaneNo) (c : CtxNo) : (s.clearMark l c).store = s.store := rfl
@[simp] theorem State.clearMark_pending (l : LaneNo) (c : CtxNo) : (s.clearMark l c).pending = s.pending := rfl

/-! A pending end recorded -/

@[simp] theorem State.recordPending_power (l : LaneNo) (c : CtxNo) (p : PendingEnd) :
    (s.recordPending l c p).power = s.power := rfl
@[simp] theorem State.recordPending_service (l : LaneNo) (c : CtxNo) (p : PendingEnd) :
    (s.recordPending l c p).service = s.service := rfl
@[simp] theorem State.recordPending_loaded (l : LaneNo) (c : CtxNo) (p : PendingEnd) :
    (s.recordPending l c p).loaded = s.loaded := rfl
@[simp] theorem State.recordPending_clock (l : LaneNo) (c : CtxNo) (p : PendingEnd) :
    (s.recordPending l c p).clock = s.clock := rfl
@[simp] theorem State.recordPending_laneRate (l : LaneNo) (c : CtxNo) (p : PendingEnd) :
    (s.recordPending l c p).laneRate = s.laneRate := rfl
@[simp] theorem State.recordPending_loadTick (l : LaneNo) (c : CtxNo) (p : PendingEnd) :
    (s.recordPending l c p).loadTick = s.loadTick := rfl
@[simp] theorem State.recordPending_table (l : LaneNo) (c : CtxNo) (p : PendingEnd) :
    (s.recordPending l c p).table = s.table := rfl
@[simp] theorem State.recordPending_slots (l : LaneNo) (c : CtxNo) (p : PendingEnd) :
    (s.recordPending l c p).slots = s.slots := rfl
@[simp] theorem State.recordPending_signing (l : LaneNo) (c : CtxNo) (p : PendingEnd) :
    (s.recordPending l c p).signing = s.signing := rfl
@[simp] theorem State.recordPending_routes (l : LaneNo) (c : CtxNo) (p : PendingEnd) :
    (s.recordPending l c p).routes = s.routes := rfl
@[simp] theorem State.recordPending_kfu (l : LaneNo) (c : CtxNo) (p : PendingEnd) : (s.recordPending l c p).kfu = s.kfu := rfl
@[simp] theorem State.recordPending_station (l : LaneNo) (c : CtxNo) (p : PendingEnd) :
    (s.recordPending l c p).station = s.station := rfl
@[simp] theorem State.recordPending_config (l : LaneNo) (c : CtxNo) (p : PendingEnd) :
    (s.recordPending l c p).config = s.config := rfl
@[simp] theorem State.recordPending_flags (l : LaneNo) (c : CtxNo) (p : PendingEnd) :
    (s.recordPending l c p).flags = s.flags := rfl
@[simp] theorem State.recordPending_store (l : LaneNo) (c : CtxNo) (p : PendingEnd) :
    (s.recordPending l c p).store = s.store := rfl
@[simp] theorem State.recordPending_pending (l : LaneNo) (c : CtxNo) (p : PendingEnd) :
    (s.recordPending l c p).pending = s.pending := rfl

/-! One slot replaced -/

@[simp] theorem State.onSlot_power (n : SlotNo) (f : Slot → Slot) : (s.onSlot n f).power = s.power := rfl
@[simp] theorem State.onSlot_service (n : SlotNo) (f : Slot → Slot) : (s.onSlot n f).service = s.service := rfl
@[simp] theorem State.onSlot_loaded (n : SlotNo) (f : Slot → Slot) : (s.onSlot n f).loaded = s.loaded := rfl
@[simp] theorem State.onSlot_clock (n : SlotNo) (f : Slot → Slot) : (s.onSlot n f).clock = s.clock := rfl
@[simp] theorem State.onSlot_lanes (n : SlotNo) (f : Slot → Slot) : (s.onSlot n f).lanes = s.lanes := rfl
@[simp] theorem State.onSlot_laneRate (n : SlotNo) (f : Slot → Slot) : (s.onSlot n f).laneRate = s.laneRate := rfl
@[simp] theorem State.onSlot_loadTick (n : SlotNo) (f : Slot → Slot) : (s.onSlot n f).loadTick = s.loadTick := rfl
@[simp] theorem State.onSlot_table (n : SlotNo) (f : Slot → Slot) : (s.onSlot n f).table = s.table := rfl
@[simp] theorem State.onSlot_slots (n : SlotNo) (f : Slot → Slot) : (s.onSlot n f).slots = s.slots.set n (f s.slots[n]) := rfl
@[simp] theorem State.onSlot_signing (n : SlotNo) (f : Slot → Slot) : (s.onSlot n f).signing = s.signing := rfl
@[simp] theorem State.onSlot_routes (n : SlotNo) (f : Slot → Slot) : (s.onSlot n f).routes = s.routes := rfl
@[simp] theorem State.onSlot_kfu (n : SlotNo) (f : Slot → Slot) : (s.onSlot n f).kfu = s.kfu := rfl
@[simp] theorem State.onSlot_station (n : SlotNo) (f : Slot → Slot) : (s.onSlot n f).station = s.station := rfl
@[simp] theorem State.onSlot_config (n : SlotNo) (f : Slot → Slot) : (s.onSlot n f).config = s.config := rfl
@[simp] theorem State.onSlot_flags (n : SlotNo) (f : Slot → Slot) : (s.onSlot n f).flags = s.flags := rfl
@[simp] theorem State.onSlot_store (n : SlotNo) (f : Slot → Slot) : (s.onSlot n f).store = s.store := rfl
@[simp] theorem State.onSlot_pending (n : SlotNo) (f : Slot → Slot) : (s.onSlot n f).pending = s.pending := rfl

/-! A reference taken -/

@[simp] theorem State.reference_power (n : SlotNo) : (s.reference n).power = s.power := rfl
@[simp] theorem State.reference_service (n : SlotNo) : (s.reference n).service = s.service := rfl
@[simp] theorem State.reference_loaded (n : SlotNo) : (s.reference n).loaded = s.loaded := rfl
@[simp] theorem State.reference_clock (n : SlotNo) : (s.reference n).clock = s.clock := rfl
@[simp] theorem State.reference_lanes (n : SlotNo) : (s.reference n).lanes = s.lanes := rfl
@[simp] theorem State.reference_laneRate (n : SlotNo) : (s.reference n).laneRate = s.laneRate := rfl
@[simp] theorem State.reference_loadTick (n : SlotNo) : (s.reference n).loadTick = s.loadTick := rfl
@[simp] theorem State.reference_table (n : SlotNo) : (s.reference n).table = s.table := rfl
@[simp] theorem State.reference_slots (n : SlotNo) :
    (s.reference n).slots = s.slots.set n { s.slots[n] with refs := s.slots[n].refs + 1 } := rfl
@[simp] theorem State.reference_signing (n : SlotNo) : (s.reference n).signing = s.signing := rfl
@[simp] theorem State.reference_routes (n : SlotNo) : (s.reference n).routes = s.routes := rfl
@[simp] theorem State.reference_kfu (n : SlotNo) : (s.reference n).kfu = s.kfu := rfl
@[simp] theorem State.reference_station (n : SlotNo) : (s.reference n).station = s.station := rfl
@[simp] theorem State.reference_config (n : SlotNo) : (s.reference n).config = s.config := rfl
@[simp] theorem State.reference_flags (n : SlotNo) : (s.reference n).flags = s.flags := rfl
@[simp] theorem State.reference_store (n : SlotNo) : (s.reference n).store = s.store := rfl
@[simp] theorem State.reference_pending (n : SlotNo) : (s.reference n).pending = s.pending := rfl

/-! A CONTEXT_LOST notice added -/

@[simp] theorem State.addLost_power (l : LaneNo) (c : CtxNo) (n : Lost) : (s.addLost l c n).power = s.power := rfl
@[simp] theorem State.addLost_service (l : LaneNo) (c : CtxNo) (n : Lost) : (s.addLost l c n).service = s.service := rfl
@[simp] theorem State.addLost_loaded (l : LaneNo) (c : CtxNo) (n : Lost) : (s.addLost l c n).loaded = s.loaded := rfl
@[simp] theorem State.addLost_clock (l : LaneNo) (c : CtxNo) (n : Lost) : (s.addLost l c n).clock = s.clock := rfl
@[simp] theorem State.addLost_laneRate (l : LaneNo) (c : CtxNo) (n : Lost) : (s.addLost l c n).laneRate = s.laneRate := rfl
@[simp] theorem State.addLost_loadTick (l : LaneNo) (c : CtxNo) (n : Lost) : (s.addLost l c n).loadTick = s.loadTick := rfl
@[simp] theorem State.addLost_table (l : LaneNo) (c : CtxNo) (n : Lost) : (s.addLost l c n).table = s.table := rfl
@[simp] theorem State.addLost_slots (l : LaneNo) (c : CtxNo) (n : Lost) : (s.addLost l c n).slots = s.slots := rfl
@[simp] theorem State.addLost_signing (l : LaneNo) (c : CtxNo) (n : Lost) : (s.addLost l c n).signing = s.signing := rfl
@[simp] theorem State.addLost_routes (l : LaneNo) (c : CtxNo) (n : Lost) : (s.addLost l c n).routes = s.routes := rfl
@[simp] theorem State.addLost_kfu (l : LaneNo) (c : CtxNo) (n : Lost) : (s.addLost l c n).kfu = s.kfu := rfl
@[simp] theorem State.addLost_station (l : LaneNo) (c : CtxNo) (n : Lost) : (s.addLost l c n).station = s.station := rfl
@[simp] theorem State.addLost_config (l : LaneNo) (c : CtxNo) (n : Lost) : (s.addLost l c n).config = s.config := rfl
@[simp] theorem State.addLost_flags (l : LaneNo) (c : CtxNo) (n : Lost) : (s.addLost l c n).flags = s.flags := rfl
@[simp] theorem State.addLost_store (l : LaneNo) (c : CtxNo) (n : Lost) : (s.addLost l c n).store = s.store := rfl
@[simp] theorem State.addLost_pending (l : LaneNo) (c : CtxNo) (n : Lost) : (s.addLost l c n).pending = s.pending := rfl

/-! A SERVICE_CHANGED notice added -/

@[simp] theorem State.addServiceChanged_power (l : LaneNo) : (s.addServiceChanged l).power = s.power := rfl
@[simp] theorem State.addServiceChanged_service (l : LaneNo) : (s.addServiceChanged l).service = s.service := rfl
@[simp] theorem State.addServiceChanged_loaded (l : LaneNo) : (s.addServiceChanged l).loaded = s.loaded := rfl
@[simp] theorem State.addServiceChanged_clock (l : LaneNo) : (s.addServiceChanged l).clock = s.clock := rfl
@[simp] theorem State.addServiceChanged_laneRate (l : LaneNo) : (s.addServiceChanged l).laneRate = s.laneRate := rfl
@[simp] theorem State.addServiceChanged_loadTick (l : LaneNo) : (s.addServiceChanged l).loadTick = s.loadTick := rfl
@[simp] theorem State.addServiceChanged_table (l : LaneNo) : (s.addServiceChanged l).table = s.table := rfl
@[simp] theorem State.addServiceChanged_slots (l : LaneNo) : (s.addServiceChanged l).slots = s.slots := rfl
@[simp] theorem State.addServiceChanged_signing (l : LaneNo) : (s.addServiceChanged l).signing = s.signing := rfl
@[simp] theorem State.addServiceChanged_routes (l : LaneNo) : (s.addServiceChanged l).routes = s.routes := rfl
@[simp] theorem State.addServiceChanged_kfu (l : LaneNo) : (s.addServiceChanged l).kfu = s.kfu := rfl
@[simp] theorem State.addServiceChanged_station (l : LaneNo) : (s.addServiceChanged l).station = s.station := rfl
@[simp] theorem State.addServiceChanged_config (l : LaneNo) : (s.addServiceChanged l).config = s.config := rfl
@[simp] theorem State.addServiceChanged_flags (l : LaneNo) : (s.addServiceChanged l).flags = s.flags := rfl
@[simp] theorem State.addServiceChanged_store (l : LaneNo) : (s.addServiceChanged l).store = s.store := rfl
@[simp] theorem State.addServiceChanged_pending (l : LaneNo) : (s.addServiceChanged l).pending = s.pending := rfl

/-! An entry appended to a lane request queue -/

@[simp] theorem State.appendEntry_power (l : LaneNo) (r : LaneReq) (tag : Byte) (c : CtxNo) :
    (s.appendEntry l r tag c).power = s.power := rfl
@[simp] theorem State.appendEntry_service (l : LaneNo) (r : LaneReq) (tag : Byte) (c : CtxNo) :
    (s.appendEntry l r tag c).service = s.service := rfl
@[simp] theorem State.appendEntry_loaded (l : LaneNo) (r : LaneReq) (tag : Byte) (c : CtxNo) :
    (s.appendEntry l r tag c).loaded = s.loaded := rfl
@[simp] theorem State.appendEntry_clock (l : LaneNo) (r : LaneReq) (tag : Byte) (c : CtxNo) :
    (s.appendEntry l r tag c).clock = s.clock := rfl
@[simp] theorem State.appendEntry_laneRate (l : LaneNo) (r : LaneReq) (tag : Byte) (c : CtxNo) :
    (s.appendEntry l r tag c).laneRate = s.laneRate := rfl
@[simp] theorem State.appendEntry_loadTick (l : LaneNo) (r : LaneReq) (tag : Byte) (c : CtxNo) :
    (s.appendEntry l r tag c).loadTick = s.loadTick := rfl
@[simp] theorem State.appendEntry_table (l : LaneNo) (r : LaneReq) (tag : Byte) (c : CtxNo) :
    (s.appendEntry l r tag c).table = s.table := rfl
@[simp] theorem State.appendEntry_slots (l : LaneNo) (r : LaneReq) (tag : Byte) (c : CtxNo) :
    (s.appendEntry l r tag c).slots = s.slots := rfl
@[simp] theorem State.appendEntry_signing (l : LaneNo) (r : LaneReq) (tag : Byte) (c : CtxNo) :
    (s.appendEntry l r tag c).signing = s.signing := rfl
@[simp] theorem State.appendEntry_routes (l : LaneNo) (r : LaneReq) (tag : Byte) (c : CtxNo) :
    (s.appendEntry l r tag c).routes = s.routes := rfl
@[simp] theorem State.appendEntry_kfu (l : LaneNo) (r : LaneReq) (tag : Byte) (c : CtxNo) :
    (s.appendEntry l r tag c).kfu = s.kfu := rfl
@[simp] theorem State.appendEntry_station (l : LaneNo) (r : LaneReq) (tag : Byte) (c : CtxNo) :
    (s.appendEntry l r tag c).station = s.station := rfl
@[simp] theorem State.appendEntry_config (l : LaneNo) (r : LaneReq) (tag : Byte) (c : CtxNo) :
    (s.appendEntry l r tag c).config = s.config := rfl
@[simp] theorem State.appendEntry_flags (l : LaneNo) (r : LaneReq) (tag : Byte) (c : CtxNo) :
    (s.appendEntry l r tag c).flags = s.flags := rfl
@[simp] theorem State.appendEntry_store (l : LaneNo) (r : LaneReq) (tag : Byte) (c : CtxNo) :
    (s.appendEntry l r tag c).store = s.store := rfl
@[simp] theorem State.appendEntry_pending (l : LaneNo) (r : LaneReq) (tag : Byte) (c : CtxNo) :
    (s.appendEntry l r tag c).pending = s.pending := rfl

/-! An entry made RUNNING -/

@[simp] theorem State.setRunning_power (l : LaneNo) (e : Entry) : (s.setRunning l e).power = s.power := rfl
@[simp] theorem State.setRunning_service (l : LaneNo) (e : Entry) : (s.setRunning l e).service = s.service := rfl
@[simp] theorem State.setRunning_loaded (l : LaneNo) (e : Entry) : (s.setRunning l e).loaded = s.loaded := rfl
@[simp] theorem State.setRunning_clock (l : LaneNo) (e : Entry) : (s.setRunning l e).clock = s.clock := rfl
@[simp] theorem State.setRunning_laneRate (l : LaneNo) (e : Entry) : (s.setRunning l e).laneRate = s.laneRate := rfl
@[simp] theorem State.setRunning_loadTick (l : LaneNo) (e : Entry) : (s.setRunning l e).loadTick = s.loadTick := rfl
@[simp] theorem State.setRunning_table (l : LaneNo) (e : Entry) : (s.setRunning l e).table = s.table := rfl
@[simp] theorem State.setRunning_slots (l : LaneNo) (e : Entry) : (s.setRunning l e).slots = s.slots := rfl
@[simp] theorem State.setRunning_signing (l : LaneNo) (e : Entry) : (s.setRunning l e).signing = s.signing := rfl
@[simp] theorem State.setRunning_routes (l : LaneNo) (e : Entry) : (s.setRunning l e).routes = s.routes := rfl
@[simp] theorem State.setRunning_kfu (l : LaneNo) (e : Entry) : (s.setRunning l e).kfu = s.kfu := rfl
@[simp] theorem State.setRunning_station (l : LaneNo) (e : Entry) : (s.setRunning l e).station = s.station := rfl
@[simp] theorem State.setRunning_config (l : LaneNo) (e : Entry) : (s.setRunning l e).config = s.config := rfl
@[simp] theorem State.setRunning_flags (l : LaneNo) (e : Entry) : (s.setRunning l e).flags = s.flags := rfl
@[simp] theorem State.setRunning_store (l : LaneNo) (e : Entry) : (s.setRunning l e).store = s.store := rfl
@[simp] theorem State.setRunning_pending (l : LaneNo) (e : Entry) : (s.setRunning l e).pending = s.pending := rfl

/-! An entry discarded -/

@[simp] theorem State.discardEntry_power (l : LaneNo) (e : Entry) : (s.discardEntry l e).power = s.power := rfl
@[simp] theorem State.discardEntry_service (l : LaneNo) (e : Entry) : (s.discardEntry l e).service = s.service := rfl
@[simp] theorem State.discardEntry_loaded (l : LaneNo) (e : Entry) : (s.discardEntry l e).loaded = s.loaded := rfl
@[simp] theorem State.discardEntry_clock (l : LaneNo) (e : Entry) : (s.discardEntry l e).clock = s.clock := rfl
@[simp] theorem State.discardEntry_laneRate (l : LaneNo) (e : Entry) : (s.discardEntry l e).laneRate = s.laneRate := rfl
@[simp] theorem State.discardEntry_loadTick (l : LaneNo) (e : Entry) : (s.discardEntry l e).loadTick = s.loadTick := rfl
@[simp] theorem State.discardEntry_table (l : LaneNo) (e : Entry) : (s.discardEntry l e).table = s.table := rfl
@[simp] theorem State.discardEntry_slots (l : LaneNo) (e : Entry) : (s.discardEntry l e).slots = s.slots := rfl
@[simp] theorem State.discardEntry_signing (l : LaneNo) (e : Entry) : (s.discardEntry l e).signing = s.signing := rfl
@[simp] theorem State.discardEntry_routes (l : LaneNo) (e : Entry) : (s.discardEntry l e).routes = s.routes := rfl
@[simp] theorem State.discardEntry_kfu (l : LaneNo) (e : Entry) : (s.discardEntry l e).kfu = s.kfu := rfl
@[simp] theorem State.discardEntry_station (l : LaneNo) (e : Entry) : (s.discardEntry l e).station = s.station := rfl
@[simp] theorem State.discardEntry_config (l : LaneNo) (e : Entry) : (s.discardEntry l e).config = s.config := rfl
@[simp] theorem State.discardEntry_flags (l : LaneNo) (e : Entry) : (s.discardEntry l e).flags = s.flags := rfl
@[simp] theorem State.discardEntry_store (l : LaneNo) (e : Entry) : (s.discardEntry l e).store = s.store := rfl
@[simp] theorem State.discardEntry_pending (l : LaneNo) (e : Entry) : (s.discardEntry l e).pending = s.pending := rfl

/-! A valid frame on a lane port -/

@[simp] theorem State.laneFrameArrives_power (l : LaneNo) : (s.laneFrameArrives l).power = s.power := rfl
@[simp] theorem State.laneFrameArrives_service (l : LaneNo) : (s.laneFrameArrives l).service = s.service := rfl
@[simp] theorem State.laneFrameArrives_loaded (l : LaneNo) : (s.laneFrameArrives l).loaded = s.loaded := rfl
@[simp] theorem State.laneFrameArrives_clock (l : LaneNo) : (s.laneFrameArrives l).clock = s.clock := rfl
@[simp] theorem State.laneFrameArrives_laneRate (l : LaneNo) : (s.laneFrameArrives l).laneRate = s.laneRate := rfl
@[simp] theorem State.laneFrameArrives_loadTick (l : LaneNo) : (s.laneFrameArrives l).loadTick = s.loadTick := rfl
@[simp] theorem State.laneFrameArrives_table (l : LaneNo) : (s.laneFrameArrives l).table = s.table := rfl
@[simp] theorem State.laneFrameArrives_slots (l : LaneNo) : (s.laneFrameArrives l).slots = s.slots := rfl
@[simp] theorem State.laneFrameArrives_signing (l : LaneNo) : (s.laneFrameArrives l).signing = s.signing := rfl
@[simp] theorem State.laneFrameArrives_routes (l : LaneNo) : (s.laneFrameArrives l).routes = s.routes := rfl
@[simp] theorem State.laneFrameArrives_kfu (l : LaneNo) : (s.laneFrameArrives l).kfu = s.kfu := rfl
@[simp] theorem State.laneFrameArrives_station (l : LaneNo) : (s.laneFrameArrives l).station = s.station := rfl
@[simp] theorem State.laneFrameArrives_config (l : LaneNo) : (s.laneFrameArrives l).config = s.config := rfl
@[simp] theorem State.laneFrameArrives_flags (l : LaneNo) : (s.laneFrameArrives l).flags = s.flags := rfl
@[simp] theorem State.laneFrameArrives_store (l : LaneNo) : (s.laneFrameArrives l).store = s.store := rfl
@[simp] theorem State.laneFrameArrives_pending (l : LaneNo) : (s.laneFrameArrives l).pending = s.pending := rfl

/-! A valid frame on the station port -/

@[simp] theorem State.stationFrameArrives_power : (s.stationFrameArrives).power = s.power := rfl
@[simp] theorem State.stationFrameArrives_service : (s.stationFrameArrives).service = s.service := rfl
@[simp] theorem State.stationFrameArrives_loaded : (s.stationFrameArrives).loaded = s.loaded := rfl
@[simp] theorem State.stationFrameArrives_clock : (s.stationFrameArrives).clock = s.clock := rfl
@[simp] theorem State.stationFrameArrives_lanes : (s.stationFrameArrives).lanes = s.lanes := rfl
@[simp] theorem State.stationFrameArrives_laneRate : (s.stationFrameArrives).laneRate = s.laneRate := rfl
@[simp] theorem State.stationFrameArrives_loadTick : (s.stationFrameArrives).loadTick = s.loadTick := rfl
@[simp] theorem State.stationFrameArrives_table : (s.stationFrameArrives).table = s.table := rfl
@[simp] theorem State.stationFrameArrives_slots : (s.stationFrameArrives).slots = s.slots := rfl
@[simp] theorem State.stationFrameArrives_signing : (s.stationFrameArrives).signing = s.signing := rfl
@[simp] theorem State.stationFrameArrives_routes : (s.stationFrameArrives).routes = s.routes := rfl
@[simp] theorem State.stationFrameArrives_kfu : (s.stationFrameArrives).kfu = s.kfu := rfl
@[simp] theorem State.stationFrameArrives_station :
    (s.stationFrameArrives).station = { s.station with port := { s.station.port with rx := Rx.opened } } := rfl
@[simp] theorem State.stationFrameArrives_config : (s.stationFrameArrives).config = s.config := rfl
@[simp] theorem State.stationFrameArrives_flags : (s.stationFrameArrives).flags = s.flags := rfl
@[simp] theorem State.stationFrameArrives_store : (s.stationFrameArrives).store = s.store := rfl
@[simp] theorem State.stationFrameArrives_pending : (s.stationFrameArrives).pending = s.pending := rfl

/-! The station request queue replaced -/

@[simp] theorem State.withQueue_power (q : List StationEntry) : (s.withQueue q).power = s.power := rfl
@[simp] theorem State.withQueue_service (q : List StationEntry) : (s.withQueue q).service = s.service := rfl
@[simp] theorem State.withQueue_loaded (q : List StationEntry) : (s.withQueue q).loaded = s.loaded := rfl
@[simp] theorem State.withQueue_clock (q : List StationEntry) : (s.withQueue q).clock = s.clock := rfl
@[simp] theorem State.withQueue_lanes (q : List StationEntry) : (s.withQueue q).lanes = s.lanes := rfl
@[simp] theorem State.withQueue_laneRate (q : List StationEntry) : (s.withQueue q).laneRate = s.laneRate := rfl
@[simp] theorem State.withQueue_loadTick (q : List StationEntry) : (s.withQueue q).loadTick = s.loadTick := rfl
@[simp] theorem State.withQueue_table (q : List StationEntry) : (s.withQueue q).table = s.table := rfl
@[simp] theorem State.withQueue_slots (q : List StationEntry) : (s.withQueue q).slots = s.slots := rfl
@[simp] theorem State.withQueue_signing (q : List StationEntry) : (s.withQueue q).signing = s.signing := rfl
@[simp] theorem State.withQueue_routes (q : List StationEntry) : (s.withQueue q).routes = s.routes := rfl
@[simp] theorem State.withQueue_kfu (q : List StationEntry) : (s.withQueue q).kfu = s.kfu := rfl
@[simp] theorem State.withQueue_station (q : List StationEntry) : (s.withQueue q).station = { s.station with queue := q } := rfl
@[simp] theorem State.withQueue_config (q : List StationEntry) : (s.withQueue q).config = s.config := rfl
@[simp] theorem State.withQueue_flags (q : List StationEntry) : (s.withQueue q).flags = s.flags := rfl
@[simp] theorem State.withQueue_store (q : List StationEntry) : (s.withQueue q).store = s.store := rfl
@[simp] theorem State.withQueue_pending (q : List StationEntry) : (s.withQueue q).pending = s.pending := rfl

/-! A flag latched -/

@[simp] theorem State.latch_power (f : Flag) : (s.latch f).power = s.power := rfl
@[simp] theorem State.latch_service (f : Flag) : (s.latch f).service = s.service := rfl
@[simp] theorem State.latch_loaded (f : Flag) : (s.latch f).loaded = s.loaded := rfl
@[simp] theorem State.latch_clock (f : Flag) : (s.latch f).clock = s.clock := rfl
@[simp] theorem State.latch_lanes (f : Flag) : (s.latch f).lanes = s.lanes := rfl
@[simp] theorem State.latch_laneRate (f : Flag) : (s.latch f).laneRate = s.laneRate := rfl
@[simp] theorem State.latch_loadTick (f : Flag) : (s.latch f).loadTick = s.loadTick := rfl
@[simp] theorem State.latch_table (f : Flag) : (s.latch f).table = s.table := rfl
@[simp] theorem State.latch_slots (f : Flag) : (s.latch f).slots = s.slots := rfl
@[simp] theorem State.latch_signing (f : Flag) : (s.latch f).signing = s.signing := rfl
@[simp] theorem State.latch_routes (f : Flag) : (s.latch f).routes = s.routes := rfl
@[simp] theorem State.latch_kfu (f : Flag) : (s.latch f).kfu = s.kfu := rfl
@[simp] theorem State.latch_station (f : Flag) : (s.latch f).station = s.station := rfl
@[simp] theorem State.latch_config (f : Flag) : (s.latch f).config = s.config := rfl
@[simp] theorem State.latch_flags (f : Flag) : (s.latch f).flags = s.flags ||| f.mask := rfl
@[simp] theorem State.latch_store (f : Flag) : (s.latch f).store = s.store := rfl
@[simp] theorem State.latch_pending (f : Flag) : (s.latch f).pending = s.pending := rfl

/-! Flags cleared -/

@[simp] theorem State.clearFlags_power (m : BitVec 21) : (s.clearFlags m).power = s.power := rfl
@[simp] theorem State.clearFlags_service (m : BitVec 21) : (s.clearFlags m).service = s.service := rfl
@[simp] theorem State.clearFlags_loaded (m : BitVec 21) : (s.clearFlags m).loaded = s.loaded := rfl
@[simp] theorem State.clearFlags_clock (m : BitVec 21) : (s.clearFlags m).clock = s.clock := rfl
@[simp] theorem State.clearFlags_lanes (m : BitVec 21) : (s.clearFlags m).lanes = s.lanes := rfl
@[simp] theorem State.clearFlags_laneRate (m : BitVec 21) : (s.clearFlags m).laneRate = s.laneRate := rfl
@[simp] theorem State.clearFlags_loadTick (m : BitVec 21) : (s.clearFlags m).loadTick = s.loadTick := rfl
@[simp] theorem State.clearFlags_table (m : BitVec 21) : (s.clearFlags m).table = s.table := rfl
@[simp] theorem State.clearFlags_slots (m : BitVec 21) : (s.clearFlags m).slots = s.slots := rfl
@[simp] theorem State.clearFlags_signing (m : BitVec 21) : (s.clearFlags m).signing = s.signing := rfl
@[simp] theorem State.clearFlags_routes (m : BitVec 21) : (s.clearFlags m).routes = s.routes := rfl
@[simp] theorem State.clearFlags_kfu (m : BitVec 21) : (s.clearFlags m).kfu = s.kfu := rfl
@[simp] theorem State.clearFlags_station (m : BitVec 21) : (s.clearFlags m).station = s.station := rfl
@[simp] theorem State.clearFlags_config (m : BitVec 21) : (s.clearFlags m).config = s.config := rfl
@[simp] theorem State.clearFlags_flags (m : BitVec 21) : (s.clearFlags m).flags = s.flags &&& ~~~m := rfl
@[simp] theorem State.clearFlags_store (m : BitVec 21) : (s.clearFlags m).store = s.store := rfl
@[simp] theorem State.clearFlags_pending (m : BitVec 21) : (s.clearFlags m).pending = s.pending := rfl

/-! A job in flight -/

@[simp] theorem State.setJob_power (j : Job) : (s.setJob j).power = s.power := rfl
@[simp] theorem State.setJob_service (j : Job) : (s.setJob j).service = s.service := rfl
@[simp] theorem State.setJob_loaded (j : Job) : (s.setJob j).loaded = s.loaded := rfl
@[simp] theorem State.setJob_clock (j : Job) : (s.setJob j).clock = s.clock := rfl
@[simp] theorem State.setJob_lanes (j : Job) : (s.setJob j).lanes = s.lanes := rfl
@[simp] theorem State.setJob_laneRate (j : Job) : (s.setJob j).laneRate = s.laneRate := rfl
@[simp] theorem State.setJob_loadTick (j : Job) : (s.setJob j).loadTick = s.loadTick := rfl
@[simp] theorem State.setJob_table (j : Job) : (s.setJob j).table = s.table := rfl
@[simp] theorem State.setJob_slots (j : Job) : (s.setJob j).slots = s.slots := rfl
@[simp] theorem State.setJob_signing (j : Job) : (s.setJob j).signing = s.signing := rfl
@[simp] theorem State.setJob_routes (j : Job) : (s.setJob j).routes = s.routes := rfl
@[simp] theorem State.setJob_kfu (j : Job) : (s.setJob j).kfu = { s.kfu with job := some j } := rfl
@[simp] theorem State.setJob_station (j : Job) : (s.setJob j).station = s.station := rfl
@[simp] theorem State.setJob_config (j : Job) : (s.setJob j).config = s.config := rfl
@[simp] theorem State.setJob_flags (j : Job) : (s.setJob j).flags = s.flags := rfl
@[simp] theorem State.setJob_store (j : Job) : (s.setJob j).store = s.store := rfl
@[simp] theorem State.setJob_pending (j : Job) : (s.setJob j).pending = s.pending := rfl

/-! The unit free -/

@[simp] theorem State.freeUnit_power : (s.freeUnit).power = s.power := rfl
@[simp] theorem State.freeUnit_service : (s.freeUnit).service = s.service := rfl
@[simp] theorem State.freeUnit_loaded : (s.freeUnit).loaded = s.loaded := rfl
@[simp] theorem State.freeUnit_clock : (s.freeUnit).clock = s.clock := rfl
@[simp] theorem State.freeUnit_lanes : (s.freeUnit).lanes = s.lanes := rfl
@[simp] theorem State.freeUnit_laneRate : (s.freeUnit).laneRate = s.laneRate := rfl
@[simp] theorem State.freeUnit_loadTick : (s.freeUnit).loadTick = s.loadTick := rfl
@[simp] theorem State.freeUnit_table : (s.freeUnit).table = s.table := rfl
@[simp] theorem State.freeUnit_slots : (s.freeUnit).slots = s.slots := rfl
@[simp] theorem State.freeUnit_signing : (s.freeUnit).signing = s.signing := rfl
@[simp] theorem State.freeUnit_routes : (s.freeUnit).routes = s.routes := rfl
@[simp] theorem State.freeUnit_kfu : (s.freeUnit).kfu = { s.kfu with job := none } := rfl
@[simp] theorem State.freeUnit_station : (s.freeUnit).station = s.station := rfl
@[simp] theorem State.freeUnit_config : (s.freeUnit).config = s.config := rfl
@[simp] theorem State.freeUnit_flags : (s.freeUnit).flags = s.flags := rfl
@[simp] theorem State.freeUnit_store : (s.freeUnit).store = s.store := rfl
@[simp] theorem State.freeUnit_pending : (s.freeUnit).pending = s.pending := rfl

/-! The ADMIT hold cleared -/

@[simp] theorem State.clearHold_power : (s.clearHold).power = s.power := rfl
@[simp] theorem State.clearHold_service : (s.clearHold).service = s.service := rfl
@[simp] theorem State.clearHold_loaded : (s.clearHold).loaded = s.loaded := rfl
@[simp] theorem State.clearHold_clock : (s.clearHold).clock = s.clock := rfl
@[simp] theorem State.clearHold_lanes : (s.clearHold).lanes = s.lanes := rfl
@[simp] theorem State.clearHold_laneRate : (s.clearHold).laneRate = s.laneRate := rfl
@[simp] theorem State.clearHold_loadTick : (s.clearHold).loadTick = s.loadTick := rfl
@[simp] theorem State.clearHold_table : (s.clearHold).table = s.table := rfl
@[simp] theorem State.clearHold_slots : (s.clearHold).slots = s.slots := rfl
@[simp] theorem State.clearHold_signing : (s.clearHold).signing = s.signing := rfl
@[simp] theorem State.clearHold_routes : (s.clearHold).routes = s.routes := rfl
@[simp] theorem State.clearHold_kfu : (s.clearHold).kfu = { s.kfu with admitHold := false } := rfl
@[simp] theorem State.clearHold_station : (s.clearHold).station = s.station := rfl
@[simp] theorem State.clearHold_config : (s.clearHold).config = s.config := rfl
@[simp] theorem State.clearHold_flags : (s.clearHold).flags = s.flags := rfl
@[simp] theorem State.clearHold_store : (s.clearHold).store = s.store := rfl
@[simp] theorem State.clearHold_pending : (s.clearHold).pending = s.pending := rfl

/-! The settings of a lane replaced -/

@[simp] theorem State.setSettings_power (l : LaneNo) (x : LaneSettings) : (s.setSettings l x).power = s.power := rfl
@[simp] theorem State.setSettings_service (l : LaneNo) (x : LaneSettings) : (s.setSettings l x).service = s.service := rfl
@[simp] theorem State.setSettings_loaded (l : LaneNo) (x : LaneSettings) : (s.setSettings l x).loaded = s.loaded := rfl
@[simp] theorem State.setSettings_clock (l : LaneNo) (x : LaneSettings) : (s.setSettings l x).clock = s.clock := rfl
@[simp] theorem State.setSettings_lanes (l : LaneNo) (x : LaneSettings) : (s.setSettings l x).lanes = s.lanes := rfl
@[simp] theorem State.setSettings_laneRate (l : LaneNo) (x : LaneSettings) : (s.setSettings l x).laneRate = s.laneRate := rfl
@[simp] theorem State.setSettings_loadTick (l : LaneNo) (x : LaneSettings) : (s.setSettings l x).loadTick = s.loadTick := rfl
@[simp] theorem State.setSettings_table (l : LaneNo) (x : LaneSettings) : (s.setSettings l x).table = s.table := rfl
@[simp] theorem State.setSettings_slots (l : LaneNo) (x : LaneSettings) : (s.setSettings l x).slots = s.slots := rfl
@[simp] theorem State.setSettings_signing (l : LaneNo) (x : LaneSettings) : (s.setSettings l x).signing = s.signing := rfl
@[simp] theorem State.setSettings_routes (l : LaneNo) (x : LaneSettings) : (s.setSettings l x).routes = s.routes := rfl
@[simp] theorem State.setSettings_kfu (l : LaneNo) (x : LaneSettings) : (s.setSettings l x).kfu = s.kfu := rfl
@[simp] theorem State.setSettings_station (l : LaneNo) (x : LaneSettings) : (s.setSettings l x).station = s.station := rfl
@[simp] theorem State.setSettings_config (l : LaneNo) (x : LaneSettings) :
    (s.setSettings l x).config = { s.config with lanes := s.config.lanes.set l x } := rfl
@[simp] theorem State.setSettings_flags (l : LaneNo) (x : LaneSettings) : (s.setSettings l x).flags = s.flags := rfl
@[simp] theorem State.setSettings_store (l : LaneNo) (x : LaneSettings) : (s.setSettings l x).store = s.store := rfl
@[simp] theorem State.setSettings_pending (l : LaneNo) (x : LaneSettings) : (s.setSettings l x).pending = s.pending := rfl

/-! A store action begun -/

@[simp] theorem State.beginAction_power (r : StoreReq) : (s.beginAction r).power = s.power := rfl
@[simp] theorem State.beginAction_service (r : StoreReq) : (s.beginAction r).service = s.service := rfl
@[simp] theorem State.beginAction_loaded (r : StoreReq) : (s.beginAction r).loaded = s.loaded := rfl
@[simp] theorem State.beginAction_clock (r : StoreReq) : (s.beginAction r).clock = s.clock := rfl
@[simp] theorem State.beginAction_lanes (r : StoreReq) : (s.beginAction r).lanes = s.lanes := rfl
@[simp] theorem State.beginAction_laneRate (r : StoreReq) : (s.beginAction r).laneRate = s.laneRate := rfl
@[simp] theorem State.beginAction_loadTick (r : StoreReq) : (s.beginAction r).loadTick = s.loadTick := rfl
@[simp] theorem State.beginAction_table (r : StoreReq) : (s.beginAction r).table = s.table := rfl
@[simp] theorem State.beginAction_slots (r : StoreReq) : (s.beginAction r).slots = s.slots := rfl
@[simp] theorem State.beginAction_signing (r : StoreReq) : (s.beginAction r).signing = s.signing := rfl
@[simp] theorem State.beginAction_routes (r : StoreReq) : (s.beginAction r).routes = s.routes := rfl
@[simp] theorem State.beginAction_kfu (r : StoreReq) : (s.beginAction r).kfu = s.kfu := rfl
@[simp] theorem State.beginAction_station (r : StoreReq) : (s.beginAction r).station = s.station := rfl
@[simp] theorem State.beginAction_config (r : StoreReq) : (s.beginAction r).config = s.config := rfl
@[simp] theorem State.beginAction_flags (r : StoreReq) : (s.beginAction r).flags = s.flags := rfl
@[simp] theorem State.beginAction_store (r : StoreReq) :
    (s.beginAction r).store = { s.store with action := some (s.actionOf r), second := false } := rfl
@[simp] theorem State.beginAction_pending (r : StoreReq) : (s.beginAction r).pending = s.pending := rfl

/-! Every slot treated by an evaluation -/

@[simp] theorem State.evaluateSlots_power : (s.evaluateSlots).power = s.power := by simp only [State.evaluateSlots]
@[simp] theorem State.evaluateSlots_service : (s.evaluateSlots).service = s.service := by simp only [State.evaluateSlots]
@[simp] theorem State.evaluateSlots_loaded : (s.evaluateSlots).loaded = s.loaded := by simp only [State.evaluateSlots]
@[simp] theorem State.evaluateSlots_clock : (s.evaluateSlots).clock = s.clock := by simp only [State.evaluateSlots]
@[simp] theorem State.evaluateSlots_lanes : (s.evaluateSlots).lanes = s.lanes := by simp only [State.evaluateSlots]
@[simp] theorem State.evaluateSlots_laneRate : (s.evaluateSlots).laneRate = s.laneRate := by simp only [State.evaluateSlots]
@[simp] theorem State.evaluateSlots_loadTick : (s.evaluateSlots).loadTick = s.loadTick := by simp only [State.evaluateSlots]
@[simp] theorem State.evaluateSlots_table : (s.evaluateSlots).table = s.table := by simp only [State.evaluateSlots]
@[simp] theorem State.evaluateSlots_slots :
    (s.evaluateSlots).slots = Vector.ofFn fun n : SlotNo => s.slots[n].evaluated s.clock.seconds := by simp only [State.evaluateSlots]
@[simp] theorem State.evaluateSlots_signing : (s.evaluateSlots).signing = s.signing := by simp only [State.evaluateSlots]
@[simp] theorem State.evaluateSlots_routes : (s.evaluateSlots).routes = s.routes := by simp only [State.evaluateSlots]
@[simp] theorem State.evaluateSlots_kfu : (s.evaluateSlots).kfu = s.kfu := by simp only [State.evaluateSlots]
@[simp] theorem State.evaluateSlots_station : (s.evaluateSlots).station = s.station := by simp only [State.evaluateSlots]
@[simp] theorem State.evaluateSlots_config : (s.evaluateSlots).config = s.config := by simp only [State.evaluateSlots]
@[simp] theorem State.evaluateSlots_flags : (s.evaluateSlots).flags = s.flags := by simp only [State.evaluateSlots]
@[simp] theorem State.evaluateSlots_store : (s.evaluateSlots).store = s.store := by simp only [State.evaluateSlots]
@[simp] theorem State.evaluateSlots_pending : (s.evaluateSlots).pending = s.pending := by simp only [State.evaluateSlots]

/-! The alert outputs driven -/

@[simp] theorem State.driveAlerts_power : (s.driveAlerts).power = s.power := by simp only [State.driveAlerts]
@[simp] theorem State.driveAlerts_service : (s.driveAlerts).service = s.service := by simp only [State.driveAlerts]
@[simp] theorem State.driveAlerts_loaded : (s.driveAlerts).loaded = s.loaded := by simp only [State.driveAlerts]
@[simp] theorem State.driveAlerts_clock : (s.driveAlerts).clock = s.clock := by simp only [State.driveAlerts]
@[simp] theorem State.driveAlerts_lanes :
    (s.driveAlerts).lanes = Vector.ofFn fun l : LaneNo => { s.lanes[l] with alert := s.lanes[l].alertDue } := by simp only [State.driveAlerts]
@[simp] theorem State.driveAlerts_laneRate : (s.driveAlerts).laneRate = s.laneRate := by simp only [State.driveAlerts]
@[simp] theorem State.driveAlerts_loadTick : (s.driveAlerts).loadTick = s.loadTick := by simp only [State.driveAlerts]
@[simp] theorem State.driveAlerts_table : (s.driveAlerts).table = s.table := by simp only [State.driveAlerts]
@[simp] theorem State.driveAlerts_slots : (s.driveAlerts).slots = s.slots := by simp only [State.driveAlerts]
@[simp] theorem State.driveAlerts_signing : (s.driveAlerts).signing = s.signing := by simp only [State.driveAlerts]
@[simp] theorem State.driveAlerts_routes : (s.driveAlerts).routes = s.routes := by simp only [State.driveAlerts]
@[simp] theorem State.driveAlerts_kfu : (s.driveAlerts).kfu = s.kfu := by simp only [State.driveAlerts]
@[simp] theorem State.driveAlerts_station :
    (s.driveAlerts).station = { s.station with alert := s.stationAlertDue } := by simp only [State.driveAlerts]
@[simp] theorem State.driveAlerts_config : (s.driveAlerts).config = s.config := by simp only [State.driveAlerts]
@[simp] theorem State.driveAlerts_flags : (s.driveAlerts).flags = s.flags := by simp only [State.driveAlerts]
@[simp] theorem State.driveAlerts_store : (s.driveAlerts).store = s.store := by simp only [State.driveAlerts]
@[simp] theorem State.driveAlerts_pending : (s.driveAlerts).pending = s.pending := by simp only [State.driveAlerts]

/-! A port interface replaced -/

@[simp] theorem State.onPort_power (p : Port) (f : PortState → PortState) : (s.onPort p f).power = s.power := by
  cases p <;> rfl
@[simp] theorem State.onPort_service (p : Port) (f : PortState → PortState) : (s.onPort p f).service = s.service := by
  cases p <;> rfl
@[simp] theorem State.onPort_loaded (p : Port) (f : PortState → PortState) : (s.onPort p f).loaded = s.loaded := by
  cases p <;> rfl
@[simp] theorem State.onPort_clock (p : Port) (f : PortState → PortState) : (s.onPort p f).clock = s.clock := by
  cases p <;> rfl
@[simp] theorem State.onPort_laneRate (p : Port) (f : PortState → PortState) : (s.onPort p f).laneRate = s.laneRate := by
  cases p <;> rfl
@[simp] theorem State.onPort_loadTick (p : Port) (f : PortState → PortState) : (s.onPort p f).loadTick = s.loadTick := by
  cases p <;> rfl
@[simp] theorem State.onPort_table (p : Port) (f : PortState → PortState) : (s.onPort p f).table = s.table := by
  cases p <;> rfl
@[simp] theorem State.onPort_slots (p : Port) (f : PortState → PortState) : (s.onPort p f).slots = s.slots := by
  cases p <;> rfl
@[simp] theorem State.onPort_signing (p : Port) (f : PortState → PortState) : (s.onPort p f).signing = s.signing := by
  cases p <;> rfl
@[simp] theorem State.onPort_routes (p : Port) (f : PortState → PortState) : (s.onPort p f).routes = s.routes := by
  cases p <;> rfl
@[simp] theorem State.onPort_kfu (p : Port) (f : PortState → PortState) : (s.onPort p f).kfu = s.kfu := by
  cases p <;> rfl
@[simp] theorem State.onPort_config (p : Port) (f : PortState → PortState) : (s.onPort p f).config = s.config := by
  cases p <;> rfl
@[simp] theorem State.onPort_flags (p : Port) (f : PortState → PortState) : (s.onPort p f).flags = s.flags := by
  cases p <;> rfl
@[simp] theorem State.onPort_store (p : Port) (f : PortState → PortState) : (s.onPort p f).store = s.store := by
  cases p <;> rfl
@[simp] theorem State.onPort_pending (p : Port) (f : PortState → PortState) : (s.onPort p f).pending = s.pending := by
  cases p <;> rfl
@[simp] theorem State.produce_power (p : Port) (a : Answer) : (s.produce p a).power = s.power := by
  cases p <;> rfl
@[simp] theorem State.produce_service (p : Port) (a : Answer) : (s.produce p a).service = s.service := by
  cases p <;> rfl
@[simp] theorem State.produce_loaded (p : Port) (a : Answer) : (s.produce p a).loaded = s.loaded := by
  cases p <;> rfl
@[simp] theorem State.produce_clock (p : Port) (a : Answer) : (s.produce p a).clock = s.clock := by
  cases p <;> rfl
@[simp] theorem State.produce_laneRate (p : Port) (a : Answer) : (s.produce p a).laneRate = s.laneRate := by
  cases p <;> rfl
@[simp] theorem State.produce_loadTick (p : Port) (a : Answer) : (s.produce p a).loadTick = s.loadTick := by
  cases p <;> rfl
@[simp] theorem State.produce_table (p : Port) (a : Answer) : (s.produce p a).table = s.table := by
  cases p <;> rfl
@[simp] theorem State.produce_slots (p : Port) (a : Answer) : (s.produce p a).slots = s.slots := by
  cases p <;> rfl
@[simp] theorem State.produce_signing (p : Port) (a : Answer) : (s.produce p a).signing = s.signing := by
  cases p <;> rfl
@[simp] theorem State.produce_routes (p : Port) (a : Answer) : (s.produce p a).routes = s.routes := by
  cases p <;> rfl
@[simp] theorem State.produce_kfu (p : Port) (a : Answer) : (s.produce p a).kfu = s.kfu := by
  cases p <;> rfl
@[simp] theorem State.produce_config (p : Port) (a : Answer) : (s.produce p a).config = s.config := by
  cases p <;> rfl
@[simp] theorem State.produce_flags (p : Port) (a : Answer) : (s.produce p a).flags = s.flags := by
  cases p <;> rfl
@[simp] theorem State.produce_store (p : Port) (a : Answer) : (s.produce p a).store = s.store := by
  cases p <;> rfl
@[simp] theorem State.produce_pending (p : Port) (a : Answer) : (s.produce p a).pending = s.pending := by
  cases p <;> rfl

/-- Replacing a lane's port leaves the station. -/
@[simp] theorem State.onPort_lane_station (l : LaneNo) (f : PortState → PortState) :
    (s.onPort (.lane l) f).station = s.station := rfl

/-- Replacing the station port leaves the lanes. -/
@[simp] theorem State.onPort_station_lanes (f : PortState → PortState) : (s.onPort .station f).lanes = s.lanes := rfl

@[simp] theorem State.produce_lane_station (l : LaneNo) (a : Answer) : (s.produce (.lane l) a).station = s.station := rfl

@[simp] theorem State.produce_station_lanes (a : Answer) : (s.produce .station a).lanes = s.lanes := rfl

/-! One lane, context or slot after an update -/

@[simp] theorem State.onLane_same (l : LaneNo) (f : Lane → Lane) : (s.onLane l f).lanes[l] = f s.lanes[l] := by
  simp

theorem State.onLane_other (l k : LaneNo) (f : Lane → Lane) (h : k ≠ l) : (s.onLane l f).lanes[k] = s.lanes[k] := by
  have : l.val ≠ k.val := fun e => h (Fin.ext e.symm)
  simp [this]

@[simp] theorem State.onSlot_same (n : SlotNo) (f : Slot → Slot) : (s.onSlot n f).slots[n] = f s.slots[n] := by
  simp

theorem State.onSlot_other (n k : SlotNo) (f : Slot → Slot) (h : k ≠ n) : (s.onSlot n f).slots[k] = s.slots[k] := by
  have : n.val ≠ k.val := fun e => h (Fin.ext e.symm)
  simp [this]

@[simp] theorem State.ctx_onCtx_same (l : LaneNo) (c : CtxNo) (f : Context → Context) :
    (s.onCtx l c f).ctx l c = f (s.ctx l c) := by
  simp [State.ctx, Lane.onCtx]

theorem State.ctx_onCtx_other (l : LaneNo) (c d : CtxNo) (f : Context → Context) (h : d ≠ c) :
    (s.onCtx l c f).ctx l d = s.ctx l d := by
  have : c.val ≠ d.val := fun e => h (Fin.ext e.symm)
  simp [State.ctx, Lane.onCtx, this]

theorem State.ctx_onCtx_lane (l k : LaneNo) (c d : CtxNo) (f : Context → Context) (h : k ≠ l) :
    (s.onCtx l c f).ctx k d = s.ctx k d := by
  have : l.val ≠ k.val := fun e => h (Fin.ext e.symm)
  simp [State.ctx, this]

end Sys2Proof.Machine
end

