-- ==== Sys2Proof/Laws/Ops.lean ====
section
/-! SUPPORT. What each shared operation can change: one lemma an operation, which says that every other field of State is as
before, and the fields' own lemmas from it. -/

namespace Sys2Proof.Machine

variable (s : State)

/-- Answers produced on a lane port change the lanes only. -/
theorem State.produceAll_frame (l : LaneNo) (as : List Answer) :
    s.produceAll (.lane l) as = { s with lanes := (s.produceAll (.lane l) as).lanes } := by
  induction as generalizing s with
  | nil => rfl
  | cons a as ih =>
    rw [show s.produceAll (.lane l) (a :: as) = (s.produce (.lane l) a).produceAll (.lane l) as from rfl, ih]
    rfl

@[simp] theorem State.produceAll_power (l : LaneNo) (as : List Answer) : (s.produceAll (.lane l) as).power = s.power := by
  rw [State.produceAll_frame]
@[simp] theorem State.produceAll_service (l : LaneNo) (as : List Answer) : (s.produceAll (.lane l) as).service = s.service := by
  rw [State.produceAll_frame]
@[simp] theorem State.produceAll_loaded (l : LaneNo) (as : List Answer) : (s.produceAll (.lane l) as).loaded = s.loaded := by
  rw [State.produceAll_frame]
@[simp] theorem State.produceAll_clock (l : LaneNo) (as : List Answer) : (s.produceAll (.lane l) as).clock = s.clock := by
  rw [State.produceAll_frame]
@[simp] theorem State.produceAll_laneRate (l : LaneNo) (as : List Answer) : (s.produceAll (.lane l) as).laneRate = s.laneRate := by
  rw [State.produceAll_frame]
@[simp] theorem State.produceAll_loadTick (l : LaneNo) (as : List Answer) : (s.produceAll (.lane l) as).loadTick = s.loadTick := by
  rw [State.produceAll_frame]
@[simp] theorem State.produceAll_table (l : LaneNo) (as : List Answer) : (s.produceAll (.lane l) as).table = s.table := by
  rw [State.produceAll_frame]
@[simp] theorem State.produceAll_slots (l : LaneNo) (as : List Answer) : (s.produceAll (.lane l) as).slots = s.slots := by
  rw [State.produceAll_frame]
@[simp] theorem State.produceAll_signing (l : LaneNo) (as : List Answer) : (s.produceAll (.lane l) as).signing = s.signing := by
  rw [State.produceAll_frame]
@[simp] theorem State.produceAll_routes (l : LaneNo) (as : List Answer) : (s.produceAll (.lane l) as).routes = s.routes := by
  rw [State.produceAll_frame]
@[simp] theorem State.produceAll_kfu (l : LaneNo) (as : List Answer) : (s.produceAll (.lane l) as).kfu = s.kfu := by
  rw [State.produceAll_frame]
@[simp] theorem State.produceAll_station (l : LaneNo) (as : List Answer) : (s.produceAll (.lane l) as).station = s.station := by
  rw [State.produceAll_frame]
@[simp] theorem State.produceAll_config (l : LaneNo) (as : List Answer) : (s.produceAll (.lane l) as).config = s.config := by
  rw [State.produceAll_frame]
@[simp] theorem State.produceAll_flags (l : LaneNo) (as : List Answer) : (s.produceAll (.lane l) as).flags = s.flags := by
  rw [State.produceAll_frame]
@[simp] theorem State.produceAll_store (l : LaneNo) (as : List Answer) : (s.produceAll (.lane l) as).store = s.store := by
  rw [State.produceAll_frame]
@[simp] theorem State.produceAll_pending (l : LaneNo) (as : List Answer) : (s.produceAll (.lane l) as).pending = s.pending := by
  rw [State.produceAll_frame]

/-- Answering WAITING entries changes the lanes only (R8). -/
theorem State.answerWaiting_frame (l : LaneNo) (pick : Entry → Bool) (r : Reply) :
    s.answerWaiting l pick r = { s with lanes := (s.answerWaiting l pick r).lanes } := by
  unfold State.answerWaiting
  rw [State.produceAll_frame]
  rfl

@[simp] theorem State.answerWaiting_power (l : LaneNo) (pick : Entry → Bool) (r : Reply) : (s.answerWaiting l pick r).power = s.power := by
  rw [State.answerWaiting_frame]
@[simp] theorem State.answerWaiting_service (l : LaneNo) (pick : Entry → Bool) (r : Reply) : (s.answerWaiting l pick r).service = s.service := by
  rw [State.answerWaiting_frame]
@[simp] theorem State.answerWaiting_loaded (l : LaneNo) (pick : Entry → Bool) (r : Reply) : (s.answerWaiting l pick r).loaded = s.loaded := by
  rw [State.answerWaiting_frame]
@[simp] theorem State.answerWaiting_clock (l : LaneNo) (pick : Entry → Bool) (r : Reply) : (s.answerWaiting l pick r).clock = s.clock := by
  rw [State.answerWaiting_frame]
@[simp] theorem State.answerWaiting_laneRate (l : LaneNo) (pick : Entry → Bool) (r : Reply) : (s.answerWaiting l pick r).laneRate = s.laneRate := by
  rw [State.answerWaiting_frame]
@[simp] theorem State.answerWaiting_loadTick (l : LaneNo) (pick : Entry → Bool) (r : Reply) : (s.answerWaiting l pick r).loadTick = s.loadTick := by
  rw [State.answerWaiting_frame]
@[simp] theorem State.answerWaiting_table (l : LaneNo) (pick : Entry → Bool) (r : Reply) : (s.answerWaiting l pick r).table = s.table := by
  rw [State.answerWaiting_frame]
@[simp] theorem State.answerWaiting_slots (l : LaneNo) (pick : Entry → Bool) (r : Reply) : (s.answerWaiting l pick r).slots = s.slots := by
  rw [State.answerWaiting_frame]
@[simp] theorem State.answerWaiting_signing (l : LaneNo) (pick : Entry → Bool) (r : Reply) : (s.answerWaiting l pick r).signing = s.signing := by
  rw [State.answerWaiting_frame]
@[simp] theorem State.answerWaiting_routes (l : LaneNo) (pick : Entry → Bool) (r : Reply) : (s.answerWaiting l pick r).routes = s.routes := by
  rw [State.answerWaiting_frame]
@[simp] theorem State.answerWaiting_kfu (l : LaneNo) (pick : Entry → Bool) (r : Reply) : (s.answerWaiting l pick r).kfu = s.kfu := by
  rw [State.answerWaiting_frame]
@[simp] theorem State.answerWaiting_station (l : LaneNo) (pick : Entry → Bool) (r : Reply) : (s.answerWaiting l pick r).station = s.station := by
  rw [State.answerWaiting_frame]
@[simp] theorem State.answerWaiting_config (l : LaneNo) (pick : Entry → Bool) (r : Reply) : (s.answerWaiting l pick r).config = s.config := by
  rw [State.answerWaiting_frame]
@[simp] theorem State.answerWaiting_flags (l : LaneNo) (pick : Entry → Bool) (r : Reply) : (s.answerWaiting l pick r).flags = s.flags := by
  rw [State.answerWaiting_frame]
@[simp] theorem State.answerWaiting_store (l : LaneNo) (pick : Entry → Bool) (r : Reply) : (s.answerWaiting l pick r).store = s.store := by
  rw [State.answerWaiting_frame]
@[simp] theorem State.answerWaiting_pending (l : LaneNo) (pick : Entry → Bool) (r : Reply) : (s.answerWaiting l pick r).pending = s.pending := by
  rw [State.answerWaiting_frame]

/-- Answering a RUNNING entry changes the lanes only (R8). -/
theorem State.answerRunning_frame (l : LaneNo) (c : CtxNo) (r : Reply) :
    s.answerRunning l c r = { s with lanes := (s.answerRunning l c r).lanes } := by
  unfold State.answerRunning
  rw [State.produceAll_frame]
  rfl

@[simp] theorem State.answerRunning_power (l : LaneNo) (c : CtxNo) (r : Reply) : (s.answerRunning l c r).power = s.power := by
  rw [State.answerRunning_frame]
@[simp] theorem State.answerRunning_service (l : LaneNo) (c : CtxNo) (r : Reply) : (s.answerRunning l c r).service = s.service := by
  rw [State.answerRunning_frame]
@[simp] theorem State.answerRunning_loaded (l : LaneNo) (c : CtxNo) (r : Reply) : (s.answerRunning l c r).loaded = s.loaded := by
  rw [State.answerRunning_frame]
@[simp] theorem State.answerRunning_clock (l : LaneNo) (c : CtxNo) (r : Reply) : (s.answerRunning l c r).clock = s.clock := by
  rw [State.answerRunning_frame]
@[simp] theorem State.answerRunning_laneRate (l : LaneNo) (c : CtxNo) (r : Reply) : (s.answerRunning l c r).laneRate = s.laneRate := by
  rw [State.answerRunning_frame]
@[simp] theorem State.answerRunning_loadTick (l : LaneNo) (c : CtxNo) (r : Reply) : (s.answerRunning l c r).loadTick = s.loadTick := by
  rw [State.answerRunning_frame]
@[simp] theorem State.answerRunning_table (l : LaneNo) (c : CtxNo) (r : Reply) : (s.answerRunning l c r).table = s.table := by
  rw [State.answerRunning_frame]
@[simp] theorem State.answerRunning_slots (l : LaneNo) (c : CtxNo) (r : Reply) : (s.answerRunning l c r).slots = s.slots := by
  rw [State.answerRunning_frame]
@[simp] theorem State.answerRunning_signing (l : LaneNo) (c : CtxNo) (r : Reply) : (s.answerRunning l c r).signing = s.signing := by
  rw [State.answerRunning_frame]
@[simp] theorem State.answerRunning_routes (l : LaneNo) (c : CtxNo) (r : Reply) : (s.answerRunning l c r).routes = s.routes := by
  rw [State.answerRunning_frame]
@[simp] theorem State.answerRunning_kfu (l : LaneNo) (c : CtxNo) (r : Reply) : (s.answerRunning l c r).kfu = s.kfu := by
  rw [State.answerRunning_frame]
@[simp] theorem State.answerRunning_station (l : LaneNo) (c : CtxNo) (r : Reply) : (s.answerRunning l c r).station = s.station := by
  rw [State.answerRunning_frame]
@[simp] theorem State.answerRunning_config (l : LaneNo) (c : CtxNo) (r : Reply) : (s.answerRunning l c r).config = s.config := by
  rw [State.answerRunning_frame]
@[simp] theorem State.answerRunning_flags (l : LaneNo) (c : CtxNo) (r : Reply) : (s.answerRunning l c r).flags = s.flags := by
  rw [State.answerRunning_frame]
@[simp] theorem State.answerRunning_store (l : LaneNo) (c : CtxNo) (r : Reply) : (s.answerRunning l c r).store = s.store := by
  rw [State.answerRunning_frame]
@[simp] theorem State.answerRunning_pending (l : LaneNo) (c : CtxNo) (r : Reply) : (s.answerRunning l c r).pending = s.pending := by
  rw [State.answerRunning_frame]

/-- A store request changes the store only (R172). -/
theorem State.requestStore_frame (r : StoreReq) : s.requestStore r = { s with store := (s.requestStore r).store } := by
  unfold State.requestStore State.beginAction
  split
  · rfl
  · split <;> rfl

@[simp] theorem State.requestStore_power (r : StoreReq) : (s.requestStore r).power = s.power := by
  rw [State.requestStore_frame]
@[simp] theorem State.requestStore_service (r : StoreReq) : (s.requestStore r).service = s.service := by
  rw [State.requestStore_frame]
@[simp] theorem State.requestStore_loaded (r : StoreReq) : (s.requestStore r).loaded = s.loaded := by
  rw [State.requestStore_frame]
@[simp] theorem State.requestStore_clock (r : StoreReq) : (s.requestStore r).clock = s.clock := by
  rw [State.requestStore_frame]
@[simp] theorem State.requestStore_lanes (r : StoreReq) : (s.requestStore r).lanes = s.lanes := by
  rw [State.requestStore_frame]
@[simp] theorem State.requestStore_laneRate (r : StoreReq) : (s.requestStore r).laneRate = s.laneRate := by
  rw [State.requestStore_frame]
@[simp] theorem State.requestStore_loadTick (r : StoreReq) : (s.requestStore r).loadTick = s.loadTick := by
  rw [State.requestStore_frame]
@[simp] theorem State.requestStore_table (r : StoreReq) : (s.requestStore r).table = s.table := by
  rw [State.requestStore_frame]
@[simp] theorem State.requestStore_slots (r : StoreReq) : (s.requestStore r).slots = s.slots := by
  rw [State.requestStore_frame]
@[simp] theorem State.requestStore_signing (r : StoreReq) : (s.requestStore r).signing = s.signing := by
  rw [State.requestStore_frame]
@[simp] theorem State.requestStore_routes (r : StoreReq) : (s.requestStore r).routes = s.routes := by
  rw [State.requestStore_frame]
@[simp] theorem State.requestStore_kfu (r : StoreReq) : (s.requestStore r).kfu = s.kfu := by
  rw [State.requestStore_frame]
@[simp] theorem State.requestStore_station (r : StoreReq) : (s.requestStore r).station = s.station := by
  rw [State.requestStore_frame]
@[simp] theorem State.requestStore_config (r : StoreReq) : (s.requestStore r).config = s.config := by
  rw [State.requestStore_frame]
@[simp] theorem State.requestStore_flags (r : StoreReq) : (s.requestStore r).flags = s.flags := by
  rw [State.requestStore_frame]
@[simp] theorem State.requestStore_pending (r : StoreReq) : (s.requestStore r).pending = s.pending := by
  rw [State.requestStore_frame]

/-- The next action changes the store only (R173). -/
theorem State.beginNext_frame : s.beginNext = { s with store := (s.beginNext).store } := by
  unfold State.beginNext State.beginAction
  split <;> rfl

@[simp] theorem State.beginNext_power : (s.beginNext).power = s.power := by
  rw [State.beginNext_frame]
@[simp] theorem State.beginNext_service : (s.beginNext).service = s.service := by
  rw [State.beginNext_frame]
@[simp] theorem State.beginNext_loaded : (s.beginNext).loaded = s.loaded := by
  rw [State.beginNext_frame]
@[simp] theorem State.beginNext_clock : (s.beginNext).clock = s.clock := by
  rw [State.beginNext_frame]
@[simp] theorem State.beginNext_lanes : (s.beginNext).lanes = s.lanes := by
  rw [State.beginNext_frame]
@[simp] theorem State.beginNext_laneRate : (s.beginNext).laneRate = s.laneRate := by
  rw [State.beginNext_frame]
@[simp] theorem State.beginNext_loadTick : (s.beginNext).loadTick = s.loadTick := by
  rw [State.beginNext_frame]
@[simp] theorem State.beginNext_table : (s.beginNext).table = s.table := by
  rw [State.beginNext_frame]
@[simp] theorem State.beginNext_slots : (s.beginNext).slots = s.slots := by
  rw [State.beginNext_frame]
@[simp] theorem State.beginNext_signing : (s.beginNext).signing = s.signing := by
  rw [State.beginNext_frame]
@[simp] theorem State.beginNext_routes : (s.beginNext).routes = s.routes := by
  rw [State.beginNext_frame]
@[simp] theorem State.beginNext_kfu : (s.beginNext).kfu = s.kfu := by
  rw [State.beginNext_frame]
@[simp] theorem State.beginNext_station : (s.beginNext).station = s.station := by
  rw [State.beginNext_frame]
@[simp] theorem State.beginNext_config : (s.beginNext).config = s.config := by
  rw [State.beginNext_frame]
@[simp] theorem State.beginNext_flags : (s.beginNext).flags = s.flags := by
  rw [State.beginNext_frame]
@[simp] theorem State.beginNext_pending : (s.beginNext).pending = s.pending := by
  rw [State.beginNext_frame]

/-- An erase changes the slots and the store only (R86). -/
theorem State.eraseIfUnused_frame (n : SlotNo) :
    s.eraseIfUnused n = { s with slots := (s.eraseIfUnused n).slots, store := (s.eraseIfUnused n).store } := by
  unfold State.eraseIfUnused
  split
  · split
    · rw [State.requestStore_frame]
      rfl
    · rfl
  · rfl

@[simp] theorem State.eraseIfUnused_power (n : SlotNo) : (s.eraseIfUnused n).power = s.power := by
  rw [State.eraseIfUnused_frame]
@[simp] theorem State.eraseIfUnused_service (n : SlotNo) : (s.eraseIfUnused n).service = s.service := by
  rw [State.eraseIfUnused_frame]
@[simp] theorem State.eraseIfUnused_loaded (n : SlotNo) : (s.eraseIfUnused n).loaded = s.loaded := by
  rw [State.eraseIfUnused_frame]
@[simp] theorem State.eraseIfUnused_clock (n : SlotNo) : (s.eraseIfUnused n).clock = s.clock := by
  rw [State.eraseIfUnused_frame]
@[simp] theorem State.eraseIfUnused_lanes (n : SlotNo) : (s.eraseIfUnused n).lanes = s.lanes := by
  rw [State.eraseIfUnused_frame]
@[simp] theorem State.eraseIfUnused_laneRate (n : SlotNo) : (s.eraseIfUnused n).laneRate = s.laneRate := by
  rw [State.eraseIfUnused_frame]
@[simp] theorem State.eraseIfUnused_loadTick (n : SlotNo) : (s.eraseIfUnused n).loadTick = s.loadTick := by
  rw [State.eraseIfUnused_frame]
@[simp] theorem State.eraseIfUnused_table (n : SlotNo) : (s.eraseIfUnused n).table = s.table := by
  rw [State.eraseIfUnused_frame]
@[simp] theorem State.eraseIfUnused_signing (n : SlotNo) : (s.eraseIfUnused n).signing = s.signing := by
  rw [State.eraseIfUnused_frame]
@[simp] theorem State.eraseIfUnused_routes (n : SlotNo) : (s.eraseIfUnused n).routes = s.routes := by
  rw [State.eraseIfUnused_frame]
@[simp] theorem State.eraseIfUnused_kfu (n : SlotNo) : (s.eraseIfUnused n).kfu = s.kfu := by
  rw [State.eraseIfUnused_frame]
@[simp] theorem State.eraseIfUnused_station (n : SlotNo) : (s.eraseIfUnused n).station = s.station := by
  rw [State.eraseIfUnused_frame]
@[simp] theorem State.eraseIfUnused_config (n : SlotNo) : (s.eraseIfUnused n).config = s.config := by
  rw [State.eraseIfUnused_frame]
@[simp] theorem State.eraseIfUnused_flags (n : SlotNo) : (s.eraseIfUnused n).flags = s.flags := by
  rw [State.eraseIfUnused_frame]
@[simp] theorem State.eraseIfUnused_pending (n : SlotNo) : (s.eraseIfUnused n).pending = s.pending := by
  rw [State.eraseIfUnused_frame]

/-- A release changes the slots and the store only (R83). -/
theorem State.release_frame (n : SlotNo) :
    s.release n = { s with slots := (s.release n).slots, store := (s.release n).store } := by
  unfold State.release
  rw [State.eraseIfUnused_frame]
  rfl

@[simp] theorem State.release_power (n : SlotNo) : (s.release n).power = s.power := by
  rw [State.release_frame]
@[simp] theorem State.release_service (n : SlotNo) : (s.release n).service = s.service := by
  rw [State.release_frame]
@[simp] theorem State.release_loaded (n : SlotNo) : (s.release n).loaded = s.loaded := by
  rw [State.release_frame]
@[simp] theorem State.release_clock (n : SlotNo) : (s.release n).clock = s.clock := by
  rw [State.release_frame]
@[simp] theorem State.release_lanes (n : SlotNo) : (s.release n).lanes = s.lanes := by
  rw [State.release_frame]
@[simp] theorem State.release_laneRate (n : SlotNo) : (s.release n).laneRate = s.laneRate := by
  rw [State.release_frame]
@[simp] theorem State.release_loadTick (n : SlotNo) : (s.release n).loadTick = s.loadTick := by
  rw [State.release_frame]
@[simp] theorem State.release_table (n : SlotNo) : (s.release n).table = s.table := by
  rw [State.release_frame]
@[simp] theorem State.release_signing (n : SlotNo) : (s.release n).signing = s.signing := by
  rw [State.release_frame]
@[simp] theorem State.release_routes (n : SlotNo) : (s.release n).routes = s.routes := by
  rw [State.release_frame]
@[simp] theorem State.release_kfu (n : SlotNo) : (s.release n).kfu = s.kfu := by
  rw [State.release_frame]
@[simp] theorem State.release_station (n : SlotNo) : (s.release n).station = s.station := by
  rw [State.release_frame]
@[simp] theorem State.release_config (n : SlotNo) : (s.release n).config = s.config := by
  rw [State.release_frame]
@[simp] theorem State.release_flags (n : SlotNo) : (s.release n).flags = s.flags := by
  rw [State.release_frame]
@[simp] theorem State.release_pending (n : SlotNo) : (s.release n).pending = s.pending := by
  rw [State.release_frame]

/-- A claim's release changes the passage table only (R47). -/
theorem State.releaseClaim_frame (l : LaneNo) (c : CtxNo) :
    s.releaseClaim l c = { s with table := (s.releaseClaim l c).table } := by
  unfold State.releaseClaim
  split
  · rfl
  · split
    · split <;> rfl
    · rfl

@[simp] theorem State.releaseClaim_power (l : LaneNo) (c : CtxNo) : (s.releaseClaim l c).power = s.power := by
  rw [State.releaseClaim_frame]
@[simp] theorem State.releaseClaim_service (l : LaneNo) (c : CtxNo) : (s.releaseClaim l c).service = s.service := by
  rw [State.releaseClaim_frame]
@[simp] theorem State.releaseClaim_loaded (l : LaneNo) (c : CtxNo) : (s.releaseClaim l c).loaded = s.loaded := by
  rw [State.releaseClaim_frame]
@[simp] theorem State.releaseClaim_clock (l : LaneNo) (c : CtxNo) : (s.releaseClaim l c).clock = s.clock := by
  rw [State.releaseClaim_frame]
@[simp] theorem State.releaseClaim_lanes (l : LaneNo) (c : CtxNo) : (s.releaseClaim l c).lanes = s.lanes := by
  rw [State.releaseClaim_frame]
@[simp] theorem State.releaseClaim_laneRate (l : LaneNo) (c : CtxNo) : (s.releaseClaim l c).laneRate = s.laneRate := by
  rw [State.releaseClaim_frame]
@[simp] theorem State.releaseClaim_loadTick (l : LaneNo) (c : CtxNo) : (s.releaseClaim l c).loadTick = s.loadTick := by
  rw [State.releaseClaim_frame]
@[simp] theorem State.releaseClaim_slots (l : LaneNo) (c : CtxNo) : (s.releaseClaim l c).slots = s.slots := by
  rw [State.releaseClaim_frame]
@[simp] theorem State.releaseClaim_signing (l : LaneNo) (c : CtxNo) : (s.releaseClaim l c).signing = s.signing := by
  rw [State.releaseClaim_frame]
@[simp] theorem State.releaseClaim_routes (l : LaneNo) (c : CtxNo) : (s.releaseClaim l c).routes = s.routes := by
  rw [State.releaseClaim_frame]
@[simp] theorem State.releaseClaim_kfu (l : LaneNo) (c : CtxNo) : (s.releaseClaim l c).kfu = s.kfu := by
  rw [State.releaseClaim_frame]
@[simp] theorem State.releaseClaim_station (l : LaneNo) (c : CtxNo) : (s.releaseClaim l c).station = s.station := by
  rw [State.releaseClaim_frame]
@[simp] theorem State.releaseClaim_config (l : LaneNo) (c : CtxNo) : (s.releaseClaim l c).config = s.config := by
  rw [State.releaseClaim_frame]
@[simp] theorem State.releaseClaim_flags (l : LaneNo) (c : CtxNo) : (s.releaseClaim l c).flags = s.flags := by
  rw [State.releaseClaim_frame]
@[simp] theorem State.releaseClaim_store (l : LaneNo) (c : CtxNo) : (s.releaseClaim l c).store = s.store := by
  rw [State.releaseClaim_frame]
@[simp] theorem State.releaseClaim_pending (l : LaneNo) (c : CtxNo) : (s.releaseClaim l c).pending = s.pending := by
  rw [State.releaseClaim_frame]

/-- A seal changes the passage table only (R50). -/
theorem State.sealClaim_frame (l : LaneNo) (c : CtxNo) (k : Counter) (t : Seconds) :
    s.sealClaim l c k t = { s with table := (s.sealClaim l c k t).table } := by
  unfold State.sealClaim
  split <;> rfl

@[simp] theorem State.sealClaim_power (l : LaneNo) (c : CtxNo) (k : Counter) (t : Seconds) : (s.sealClaim l c k t).power = s.power := by
  rw [State.sealClaim_frame]
@[simp] theorem State.sealClaim_service (l : LaneNo) (c : CtxNo) (k : Counter) (t : Seconds) : (s.sealClaim l c k t).service = s.service := by
  rw [State.sealClaim_frame]
@[simp] theorem State.sealClaim_loaded (l : LaneNo) (c : CtxNo) (k : Counter) (t : Seconds) : (s.sealClaim l c k t).loaded = s.loaded := by
  rw [State.sealClaim_frame]
@[simp] theorem State.sealClaim_clock (l : LaneNo) (c : CtxNo) (k : Counter) (t : Seconds) : (s.sealClaim l c k t).clock = s.clock := by
  rw [State.sealClaim_frame]
@[simp] theorem State.sealClaim_lanes (l : LaneNo) (c : CtxNo) (k : Counter) (t : Seconds) : (s.sealClaim l c k t).lanes = s.lanes := by
  rw [State.sealClaim_frame]
@[simp] theorem State.sealClaim_laneRate (l : LaneNo) (c : CtxNo) (k : Counter) (t : Seconds) : (s.sealClaim l c k t).laneRate = s.laneRate := by
  rw [State.sealClaim_frame]
@[simp] theorem State.sealClaim_loadTick (l : LaneNo) (c : CtxNo) (k : Counter) (t : Seconds) : (s.sealClaim l c k t).loadTick = s.loadTick := by
  rw [State.sealClaim_frame]
@[simp] theorem State.sealClaim_slots (l : LaneNo) (c : CtxNo) (k : Counter) (t : Seconds) : (s.sealClaim l c k t).slots = s.slots := by
  rw [State.sealClaim_frame]
@[simp] theorem State.sealClaim_signing (l : LaneNo) (c : CtxNo) (k : Counter) (t : Seconds) : (s.sealClaim l c k t).signing = s.signing := by
  rw [State.sealClaim_frame]
@[simp] theorem State.sealClaim_routes (l : LaneNo) (c : CtxNo) (k : Counter) (t : Seconds) : (s.sealClaim l c k t).routes = s.routes := by
  rw [State.sealClaim_frame]
@[simp] theorem State.sealClaim_kfu (l : LaneNo) (c : CtxNo) (k : Counter) (t : Seconds) : (s.sealClaim l c k t).kfu = s.kfu := by
  rw [State.sealClaim_frame]
@[simp] theorem State.sealClaim_station (l : LaneNo) (c : CtxNo) (k : Counter) (t : Seconds) : (s.sealClaim l c k t).station = s.station := by
  rw [State.sealClaim_frame]
@[simp] theorem State.sealClaim_config (l : LaneNo) (c : CtxNo) (k : Counter) (t : Seconds) : (s.sealClaim l c k t).config = s.config := by
  rw [State.sealClaim_frame]
@[simp] theorem State.sealClaim_flags (l : LaneNo) (c : CtxNo) (k : Counter) (t : Seconds) : (s.sealClaim l c k t).flags = s.flags := by
  rw [State.sealClaim_frame]
@[simp] theorem State.sealClaim_store (l : LaneNo) (c : CtxNo) (k : Counter) (t : Seconds) : (s.sealClaim l c k t).store = s.store := by
  rw [State.sealClaim_frame]
@[simp] theorem State.sealClaim_pending (l : LaneNo) (c : CtxNo) (k : Counter) (t : Seconds) : (s.sealClaim l c k t).pending = s.pending := by
  rw [State.sealClaim_frame]

/-- Room for an entry changes the passage table and the flags only (R45). -/
theorem State.makeRoom_frame : s.makeRoom = { s with table := (s.makeRoom).table, flags := (s.makeRoom).flags } := by
  unfold State.makeRoom
  split
  · split <;> rfl
  · rfl

@[simp] theorem State.makeRoom_power : (s.makeRoom).power = s.power := by
  rw [State.makeRoom_frame]
@[simp] theorem State.makeRoom_service : (s.makeRoom).service = s.service := by
  rw [State.makeRoom_frame]
@[simp] theorem State.makeRoom_loaded : (s.makeRoom).loaded = s.loaded := by
  rw [State.makeRoom_frame]
@[simp] theorem State.makeRoom_clock : (s.makeRoom).clock = s.clock := by
  rw [State.makeRoom_frame]
@[simp] theorem State.makeRoom_lanes : (s.makeRoom).lanes = s.lanes := by
  rw [State.makeRoom_frame]
@[simp] theorem State.makeRoom_laneRate : (s.makeRoom).laneRate = s.laneRate := by
  rw [State.makeRoom_frame]
@[simp] theorem State.makeRoom_loadTick : (s.makeRoom).loadTick = s.loadTick := by
  rw [State.makeRoom_frame]
@[simp] theorem State.makeRoom_slots : (s.makeRoom).slots = s.slots := by
  rw [State.makeRoom_frame]
@[simp] theorem State.makeRoom_signing : (s.makeRoom).signing = s.signing := by
  rw [State.makeRoom_frame]
@[simp] theorem State.makeRoom_routes : (s.makeRoom).routes = s.routes := by
  rw [State.makeRoom_frame]
@[simp] theorem State.makeRoom_kfu : (s.makeRoom).kfu = s.kfu := by
  rw [State.makeRoom_frame]
@[simp] theorem State.makeRoom_station : (s.makeRoom).station = s.station := by
  rw [State.makeRoom_frame]
@[simp] theorem State.makeRoom_config : (s.makeRoom).config = s.config := by
  rw [State.makeRoom_frame]
@[simp] theorem State.makeRoom_store : (s.makeRoom).store = s.store := by
  rw [State.makeRoom_frame]
@[simp] theorem State.makeRoom_pending : (s.makeRoom).pending = s.pending := by
  rw [State.makeRoom_frame]

/-- Freeing a context changes the lanes only (R5). -/
theorem State.freeContext_frame (l : LaneNo) (c : CtxNo) (cause : EndCause) :
    s.freeContext l c cause = { s with lanes := (s.freeContext l c cause).lanes } := by
  unfold State.freeContext
  cases cause <;> rfl

@[simp] theorem State.freeContext_power (l : LaneNo) (c : CtxNo) (cause : EndCause) : (s.freeContext l c cause).power = s.power := by
  rw [State.freeContext_frame]
@[simp] theorem State.freeContext_service (l : LaneNo) (c : CtxNo) (cause : EndCause) : (s.freeContext l c cause).service = s.service := by
  rw [State.freeContext_frame]
@[simp] theorem State.freeContext_loaded (l : LaneNo) (c : CtxNo) (cause : EndCause) : (s.freeContext l c cause).loaded = s.loaded := by
  rw [State.freeContext_frame]
@[simp] theorem State.freeContext_clock (l : LaneNo) (c : CtxNo) (cause : EndCause) : (s.freeContext l c cause).clock = s.clock := by
  rw [State.freeContext_frame]
@[simp] theorem State.freeContext_laneRate (l : LaneNo) (c : CtxNo) (cause : EndCause) : (s.freeContext l c cause).laneRate = s.laneRate := by
  rw [State.freeContext_frame]
@[simp] theorem State.freeContext_loadTick (l : LaneNo) (c : CtxNo) (cause : EndCause) : (s.freeContext l c cause).loadTick = s.loadTick := by
  rw [State.freeContext_frame]
@[simp] theorem State.freeContext_table (l : LaneNo) (c : CtxNo) (cause : EndCause) : (s.freeContext l c cause).table = s.table := by
  rw [State.freeContext_frame]
@[simp] theorem State.freeContext_slots (l : LaneNo) (c : CtxNo) (cause : EndCause) : (s.freeContext l c cause).slots = s.slots := by
  rw [State.freeContext_frame]
@[simp] theorem State.freeContext_signing (l : LaneNo) (c : CtxNo) (cause : EndCause) : (s.freeContext l c cause).signing = s.signing := by
  rw [State.freeContext_frame]
@[simp] theorem State.freeContext_routes (l : LaneNo) (c : CtxNo) (cause : EndCause) : (s.freeContext l c cause).routes = s.routes := by
  rw [State.freeContext_frame]
@[simp] theorem State.freeContext_kfu (l : LaneNo) (c : CtxNo) (cause : EndCause) : (s.freeContext l c cause).kfu = s.kfu := by
  rw [State.freeContext_frame]
@[simp] theorem State.freeContext_station (l : LaneNo) (c : CtxNo) (cause : EndCause) : (s.freeContext l c cause).station = s.station := by
  rw [State.freeContext_frame]
@[simp] theorem State.freeContext_config (l : LaneNo) (c : CtxNo) (cause : EndCause) : (s.freeContext l c cause).config = s.config := by
  rw [State.freeContext_frame]
@[simp] theorem State.freeContext_flags (l : LaneNo) (c : CtxNo) (cause : EndCause) : (s.freeContext l c cause).flags = s.flags := by
  rw [State.freeContext_frame]
@[simp] theorem State.freeContext_store (l : LaneNo) (c : CtxNo) (cause : EndCause) : (s.freeContext l c cause).store = s.store := by
  rw [State.freeContext_frame]
@[simp] theorem State.freeContext_pending (l : LaneNo) (c : CtxNo) (cause : EndCause) : (s.freeContext l c cause).pending = s.pending := by
  rw [State.freeContext_frame]

/-- A context's ending changes the lanes, the slots, the store and the passage table only (R5). -/
theorem State.endContext_frame (l : LaneNo) (c : CtxNo) (cause : EndCause) :
    s.endContext l c cause =
      { s with
        lanes := (s.endContext l c cause).lanes
        slots := (s.endContext l c cause).slots
        store := (s.endContext l c cause).store
        table := (s.endContext l c cause).table } := by
  unfold State.endContext
  dsimp only
  cases (s.ctx l c).body.master <;> cases (s.ctx l c).body.hasClaim <;>
    simp only [Bool.false_eq_true, if_true, if_false]
  · rw [State.freeContext_frame]
  · rw [State.freeContext_frame, State.releaseClaim_frame]
  · rw [State.freeContext_frame, State.release_frame]
  · rw [State.freeContext_frame, State.releaseClaim_frame, State.release_frame]

@[simp] theorem State.endContext_power (l : LaneNo) (c : CtxNo) (cause : EndCause) : (s.endContext l c cause).power = s.power := by
  rw [State.endContext_frame]
@[simp] theorem State.endContext_service (l : LaneNo) (c : CtxNo) (cause : EndCause) : (s.endContext l c cause).service = s.service := by
  rw [State.endContext_frame]
@[simp] theorem State.endContext_loaded (l : LaneNo) (c : CtxNo) (cause : EndCause) : (s.endContext l c cause).loaded = s.loaded := by
  rw [State.endContext_frame]
@[simp] theorem State.endContext_clock (l : LaneNo) (c : CtxNo) (cause : EndCause) : (s.endContext l c cause).clock = s.clock := by
  rw [State.endContext_frame]
@[simp] theorem State.endContext_laneRate (l : LaneNo) (c : CtxNo) (cause : EndCause) : (s.endContext l c cause).laneRate = s.laneRate := by
  rw [State.endContext_frame]
@[simp] theorem State.endContext_loadTick (l : LaneNo) (c : CtxNo) (cause : EndCause) : (s.endContext l c cause).loadTick = s.loadTick := by
  rw [State.endContext_frame]
@[simp] theorem State.endContext_signing (l : LaneNo) (c : CtxNo) (cause : EndCause) : (s.endContext l c cause).signing = s.signing := by
  rw [State.endContext_frame]
@[simp] theorem State.endContext_routes (l : LaneNo) (c : CtxNo) (cause : EndCause) : (s.endContext l c cause).routes = s.routes := by
  rw [State.endContext_frame]
@[simp] theorem State.endContext_kfu (l : LaneNo) (c : CtxNo) (cause : EndCause) : (s.endContext l c cause).kfu = s.kfu := by
  rw [State.endContext_frame]
@[simp] theorem State.endContext_station (l : LaneNo) (c : CtxNo) (cause : EndCause) : (s.endContext l c cause).station = s.station := by
  rw [State.endContext_frame]
@[simp] theorem State.endContext_config (l : LaneNo) (c : CtxNo) (cause : EndCause) : (s.endContext l c cause).config = s.config := by
  rw [State.endContext_frame]
@[simp] theorem State.endContext_flags (l : LaneNo) (c : CtxNo) (cause : EndCause) : (s.endContext l c cause).flags = s.flags := by
  rw [State.endContext_frame]
@[simp] theorem State.endContext_pending (l : LaneNo) (c : CtxNo) (cause : EndCause) : (s.endContext l c cause).pending = s.pending := by
  rw [State.endContext_frame]

/-- An outside ending changes the same parts (R6). -/
theorem State.reachEnd_frame (l : LaneNo) (c : CtxNo) (p : PendingEnd) :
    s.reachEnd l c p =
      { s with
        lanes := (s.reachEnd l c p).lanes
        slots := (s.reachEnd l c p).slots
        store := (s.reachEnd l c p).store
        table := (s.reachEnd l c p).table } := by
  unfold State.reachEnd
  split
  · rfl
  · split
    · rfl
    · rw [State.endContext_frame]

@[simp] theorem State.reachEnd_power (l : LaneNo) (c : CtxNo) (p : PendingEnd) : (s.reachEnd l c p).power = s.power := by
  rw [State.reachEnd_frame]
@[simp] theorem State.reachEnd_service (l : LaneNo) (c : CtxNo) (p : PendingEnd) : (s.reachEnd l c p).service = s.service := by
  rw [State.reachEnd_frame]
@[simp] theorem State.reachEnd_loaded (l : LaneNo) (c : CtxNo) (p : PendingEnd) : (s.reachEnd l c p).loaded = s.loaded := by
  rw [State.reachEnd_frame]
@[simp] theorem State.reachEnd_clock (l : LaneNo) (c : CtxNo) (p : PendingEnd) : (s.reachEnd l c p).clock = s.clock := by
  rw [State.reachEnd_frame]
@[simp] theorem State.reachEnd_laneRate (l : LaneNo) (c : CtxNo) (p : PendingEnd) : (s.reachEnd l c p).laneRate = s.laneRate := by
  rw [State.reachEnd_frame]
@[simp] theorem State.reachEnd_loadTick (l : LaneNo) (c : CtxNo) (p : PendingEnd) : (s.reachEnd l c p).loadTick = s.loadTick := by
  rw [State.reachEnd_frame]
@[simp] theorem State.reachEnd_signing (l : LaneNo) (c : CtxNo) (p : PendingEnd) : (s.reachEnd l c p).signing = s.signing := by
  rw [State.reachEnd_frame]
@[simp] theorem State.reachEnd_routes (l : LaneNo) (c : CtxNo) (p : PendingEnd) : (s.reachEnd l c p).routes = s.routes := by
  rw [State.reachEnd_frame]
@[simp] theorem State.reachEnd_kfu (l : LaneNo) (c : CtxNo) (p : PendingEnd) : (s.reachEnd l c p).kfu = s.kfu := by
  rw [State.reachEnd_frame]
@[simp] theorem State.reachEnd_station (l : LaneNo) (c : CtxNo) (p : PendingEnd) : (s.reachEnd l c p).station = s.station := by
  rw [State.reachEnd_frame]
@[simp] theorem State.reachEnd_config (l : LaneNo) (c : CtxNo) (p : PendingEnd) : (s.reachEnd l c p).config = s.config := by
  rw [State.reachEnd_frame]
@[simp] theorem State.reachEnd_flags (l : LaneNo) (c : CtxNo) (p : PendingEnd) : (s.reachEnd l c p).flags = s.flags := by
  rw [State.reachEnd_frame]
@[simp] theorem State.reachEnd_pending (l : LaneNo) (c : CtxNo) (p : PendingEnd) : (s.reachEnd l c p).pending = s.pending := by
  rw [State.reachEnd_frame]

/-- A pending end applied changes the same parts (R6). -/
theorem State.applyPending_frame (l : LaneNo) (c : CtxNo) :
    s.applyPending l c =
      { s with
        lanes := (s.applyPending l c).lanes
        slots := (s.applyPending l c).slots
        store := (s.applyPending l c).store
        table := (s.applyPending l c).table } := by
  unfold State.applyPending
  split
  · rfl
  · split
    · rfl
    · rw [State.endContext_frame]

@[simp] theorem State.applyPending_power (l : LaneNo) (c : CtxNo) : (s.applyPending l c).power = s.power := by
  rw [State.applyPending_frame]
@[simp] theorem State.applyPending_service (l : LaneNo) (c : CtxNo) : (s.applyPending l c).service = s.service := by
  rw [State.applyPending_frame]
@[simp] theorem State.applyPending_loaded (l : LaneNo) (c : CtxNo) : (s.applyPending l c).loaded = s.loaded := by
  rw [State.applyPending_frame]
@[simp] theorem State.applyPending_clock (l : LaneNo) (c : CtxNo) : (s.applyPending l c).clock = s.clock := by
  rw [State.applyPending_frame]
@[simp] theorem State.applyPending_laneRate (l : LaneNo) (c : CtxNo) : (s.applyPending l c).laneRate = s.laneRate := by
  rw [State.applyPending_frame]
@[simp] theorem State.applyPending_loadTick (l : LaneNo) (c : CtxNo) : (s.applyPending l c).loadTick = s.loadTick := by
  rw [State.applyPending_frame]
@[simp] theorem State.applyPending_signing (l : LaneNo) (c : CtxNo) : (s.applyPending l c).signing = s.signing := by
  rw [State.applyPending_frame]
@[simp] theorem State.applyPending_routes (l : LaneNo) (c : CtxNo) : (s.applyPending l c).routes = s.routes := by
  rw [State.applyPending_frame]
@[simp] theorem State.applyPending_kfu (l : LaneNo) (c : CtxNo) : (s.applyPending l c).kfu = s.kfu := by
  rw [State.applyPending_frame]
@[simp] theorem State.applyPending_station (l : LaneNo) (c : CtxNo) : (s.applyPending l c).station = s.station := by
  rw [State.applyPending_frame]
@[simp] theorem State.applyPending_config (l : LaneNo) (c : CtxNo) : (s.applyPending l c).config = s.config := by
  rw [State.applyPending_frame]
@[simp] theorem State.applyPending_flags (l : LaneNo) (c : CtxNo) : (s.applyPending l c).flags = s.flags := by
  rw [State.applyPending_frame]
@[simp] theorem State.applyPending_pending (l : LaneNo) (c : CtxNo) : (s.applyPending l c).pending = s.pending := by
  rw [State.applyPending_frame]

/-- LANE_RESET to every context of a lane changes the same parts. -/
theorem State.resetContexts_frame (l : LaneNo) :
    s.resetContexts l =
      { s with
        lanes := (s.resetContexts l).lanes
        slots := (s.resetContexts l).slots
        store := (s.resetContexts l).store
        table := (s.resetContexts l).table } := by
  unfold State.resetContexts
  induction List.finRange 3 generalizing s with
  | nil => rfl
  | cons c cs ih =>
    rw [List.foldl_cons, ih, State.reachEnd_frame]

@[simp] theorem State.resetContexts_power (l : LaneNo) : (s.resetContexts l).power = s.power := by
  rw [State.resetContexts_frame]
@[simp] theorem State.resetContexts_service (l : LaneNo) : (s.resetContexts l).service = s.service := by
  rw [State.resetContexts_frame]
@[simp] theorem State.resetContexts_loaded (l : LaneNo) : (s.resetContexts l).loaded = s.loaded := by
  rw [State.resetContexts_frame]
@[simp] theorem State.resetContexts_clock (l : LaneNo) : (s.resetContexts l).clock = s.clock := by
  rw [State.resetContexts_frame]
@[simp] theorem State.resetContexts_laneRate (l : LaneNo) : (s.resetContexts l).laneRate = s.laneRate := by
  rw [State.resetContexts_frame]
@[simp] theorem State.resetContexts_loadTick (l : LaneNo) : (s.resetContexts l).loadTick = s.loadTick := by
  rw [State.resetContexts_frame]
@[simp] theorem State.resetContexts_signing (l : LaneNo) : (s.resetContexts l).signing = s.signing := by
  rw [State.resetContexts_frame]
@[simp] theorem State.resetContexts_routes (l : LaneNo) : (s.resetContexts l).routes = s.routes := by
  rw [State.resetContexts_frame]
@[simp] theorem State.resetContexts_kfu (l : LaneNo) : (s.resetContexts l).kfu = s.kfu := by
  rw [State.resetContexts_frame]
@[simp] theorem State.resetContexts_station (l : LaneNo) : (s.resetContexts l).station = s.station := by
  rw [State.resetContexts_frame]
@[simp] theorem State.resetContexts_config (l : LaneNo) : (s.resetContexts l).config = s.config := by
  rw [State.resetContexts_frame]
@[simp] theorem State.resetContexts_flags (l : LaneNo) : (s.resetContexts l).flags = s.flags := by
  rw [State.resetContexts_frame]
@[simp] theorem State.resetContexts_pending (l : LaneNo) : (s.resetContexts l).pending = s.pending := by
  rw [State.resetContexts_frame]

/-- A lane's disabling changes the same parts (R30). -/
theorem State.disableLane_frame (l : LaneNo) :
    s.disableLane l =
      { s with
        lanes := (s.disableLane l).lanes
        slots := (s.disableLane l).slots
        store := (s.disableLane l).store
        table := (s.disableLane l).table } := by
  unfold State.disableLane State.addServiceChanged State.onLane
  rw [State.resetContexts_frame, State.answerWaiting_frame]

@[simp] theorem State.disableLane_power (l : LaneNo) : (s.disableLane l).power = s.power := by
  rw [State.disableLane_frame]
@[simp] theorem State.disableLane_service (l : LaneNo) : (s.disableLane l).service = s.service := by
  rw [State.disableLane_frame]
@[simp] theorem State.disableLane_loaded (l : LaneNo) : (s.disableLane l).loaded = s.loaded := by
  rw [State.disableLane_frame]
@[simp] theorem State.disableLane_clock (l : LaneNo) : (s.disableLane l).clock = s.clock := by
  rw [State.disableLane_frame]
@[simp] theorem State.disableLane_laneRate (l : LaneNo) : (s.disableLane l).laneRate = s.laneRate := by
  rw [State.disableLane_frame]
@[simp] theorem State.disableLane_loadTick (l : LaneNo) : (s.disableLane l).loadTick = s.loadTick := by
  rw [State.disableLane_frame]
@[simp] theorem State.disableLane_signing (l : LaneNo) : (s.disableLane l).signing = s.signing := by
  rw [State.disableLane_frame]
@[simp] theorem State.disableLane_routes (l : LaneNo) : (s.disableLane l).routes = s.routes := by
  rw [State.disableLane_frame]
@[simp] theorem State.disableLane_kfu (l : LaneNo) : (s.disableLane l).kfu = s.kfu := by
  rw [State.disableLane_frame]
@[simp] theorem State.disableLane_station (l : LaneNo) : (s.disableLane l).station = s.station := by
  rw [State.disableLane_frame]
@[simp] theorem State.disableLane_config (l : LaneNo) : (s.disableLane l).config = s.config := by
  rw [State.disableLane_frame]
@[simp] theorem State.disableLane_flags (l : LaneNo) : (s.disableLane l).flags = s.flags := by
  rw [State.disableLane_frame]
@[simp] theorem State.disableLane_pending (l : LaneNo) : (s.disableLane l).pending = s.pending := by
  rw [State.disableLane_frame]

/-- Leaving service changes the same parts on each lane (R34). -/
theorem State.leaveServiceLane_frame (l : LaneNo) :
    s.leaveServiceLane l =
      { s with
        lanes := (s.leaveServiceLane l).lanes
        slots := (s.leaveServiceLane l).slots
        store := (s.leaveServiceLane l).store
        table := (s.leaveServiceLane l).table } := by
  unfold State.leaveServiceLane State.addServiceChanged State.onLane
  rw [State.resetContexts_frame, State.answerWaiting_frame]

@[simp] theorem State.leaveServiceLane_power (l : LaneNo) : (s.leaveServiceLane l).power = s.power := by
  rw [State.leaveServiceLane_frame]
@[simp] theorem State.leaveServiceLane_service (l : LaneNo) : (s.leaveServiceLane l).service = s.service := by
  rw [State.leaveServiceLane_frame]
@[simp] theorem State.leaveServiceLane_loaded (l : LaneNo) : (s.leaveServiceLane l).loaded = s.loaded := by
  rw [State.leaveServiceLane_frame]
@[simp] theorem State.leaveServiceLane_clock (l : LaneNo) : (s.leaveServiceLane l).clock = s.clock := by
  rw [State.leaveServiceLane_frame]
@[simp] theorem State.leaveServiceLane_laneRate (l : LaneNo) : (s.leaveServiceLane l).laneRate = s.laneRate := by
  rw [State.leaveServiceLane_frame]
@[simp] theorem State.leaveServiceLane_loadTick (l : LaneNo) : (s.leaveServiceLane l).loadTick = s.loadTick := by
  rw [State.leaveServiceLane_frame]
@[simp] theorem State.leaveServiceLane_signing (l : LaneNo) : (s.leaveServiceLane l).signing = s.signing := by
  rw [State.leaveServiceLane_frame]
@[simp] theorem State.leaveServiceLane_routes (l : LaneNo) : (s.leaveServiceLane l).routes = s.routes := by
  rw [State.leaveServiceLane_frame]
@[simp] theorem State.leaveServiceLane_kfu (l : LaneNo) : (s.leaveServiceLane l).kfu = s.kfu := by
  rw [State.leaveServiceLane_frame]
@[simp] theorem State.leaveServiceLane_station (l : LaneNo) : (s.leaveServiceLane l).station = s.station := by
  rw [State.leaveServiceLane_frame]
@[simp] theorem State.leaveServiceLane_config (l : LaneNo) : (s.leaveServiceLane l).config = s.config := by
  rw [State.leaveServiceLane_frame]
@[simp] theorem State.leaveServiceLane_flags (l : LaneNo) : (s.leaveServiceLane l).flags = s.flags := by
  rw [State.leaveServiceLane_frame]
@[simp] theorem State.leaveServiceLane_pending (l : LaneNo) : (s.leaveServiceLane l).pending = s.pending := by
  rw [State.leaveServiceLane_frame]

/-- A link's going DOWN changes the same parts and the flags (R191, R32). -/
theorem State.linkDown_frame (l : LaneNo) :
    s.linkDown l =
      { s with
        lanes := (s.linkDown l).lanes
        slots := (s.linkDown l).slots
        store := (s.linkDown l).store
        table := (s.linkDown l).table
        flags := (s.linkDown l).flags } := by
  unfold State.linkDown State.latch State.onLane
  rw [State.resetContexts_frame]

@[simp] theorem State.linkDown_power (l : LaneNo) : (s.linkDown l).power = s.power := by
  rw [State.linkDown_frame]
@[simp] theorem State.linkDown_service (l : LaneNo) : (s.linkDown l).service = s.service := by
  rw [State.linkDown_frame]
@[simp] theorem State.linkDown_loaded (l : LaneNo) : (s.linkDown l).loaded = s.loaded := by
  rw [State.linkDown_frame]
@[simp] theorem State.linkDown_clock (l : LaneNo) : (s.linkDown l).clock = s.clock := by
  rw [State.linkDown_frame]
@[simp] theorem State.linkDown_laneRate (l : LaneNo) : (s.linkDown l).laneRate = s.laneRate := by
  rw [State.linkDown_frame]
@[simp] theorem State.linkDown_loadTick (l : LaneNo) : (s.linkDown l).loadTick = s.loadTick := by
  rw [State.linkDown_frame]
@[simp] theorem State.linkDown_signing (l : LaneNo) : (s.linkDown l).signing = s.signing := by
  rw [State.linkDown_frame]
@[simp] theorem State.linkDown_routes (l : LaneNo) : (s.linkDown l).routes = s.routes := by
  rw [State.linkDown_frame]
@[simp] theorem State.linkDown_kfu (l : LaneNo) : (s.linkDown l).kfu = s.kfu := by
  rw [State.linkDown_frame]
@[simp] theorem State.linkDown_station (l : LaneNo) : (s.linkDown l).station = s.station := by
  rw [State.linkDown_frame]
@[simp] theorem State.linkDown_config (l : LaneNo) : (s.linkDown l).config = s.config := by
  rw [State.linkDown_frame]
@[simp] theorem State.linkDown_pending (l : LaneNo) : (s.linkDown l).pending = s.pending := by
  rw [State.linkDown_frame]

/-- The withdrawal of a master key changes the same parts (R29). -/
theorem State.withdrawContext_frame (n : SlotNo) (l : LaneNo) (c : CtxNo) :
    s.withdrawContext n l c =
      { s with
        lanes := (s.withdrawContext n l c).lanes
        slots := (s.withdrawContext n l c).slots
        store := (s.withdrawContext n l c).store
        table := (s.withdrawContext n l c).table } := by
  unfold State.withdrawContext
  split
  · split
    · rw [State.endContext_frame]
    · rfl
  · split <;> rfl
  · split
    · rw [State.endContext_frame]
    · rfl
  · rfl

@[simp] theorem State.withdrawContext_power (n : SlotNo) (l : LaneNo) (c : CtxNo) : (s.withdrawContext n l c).power = s.power := by
  rw [State.withdrawContext_frame]
@[simp] theorem State.withdrawContext_service (n : SlotNo) (l : LaneNo) (c : CtxNo) : (s.withdrawContext n l c).service = s.service := by
  rw [State.withdrawContext_frame]
@[simp] theorem State.withdrawContext_loaded (n : SlotNo) (l : LaneNo) (c : CtxNo) : (s.withdrawContext n l c).loaded = s.loaded := by
  rw [State.withdrawContext_frame]
@[simp] theorem State.withdrawContext_clock (n : SlotNo) (l : LaneNo) (c : CtxNo) : (s.withdrawContext n l c).clock = s.clock := by
  rw [State.withdrawContext_frame]
@[simp] theorem State.withdrawContext_laneRate (n : SlotNo) (l : LaneNo) (c : CtxNo) : (s.withdrawContext n l c).laneRate = s.laneRate := by
  rw [State.withdrawContext_frame]
@[simp] theorem State.withdrawContext_loadTick (n : SlotNo) (l : LaneNo) (c : CtxNo) : (s.withdrawContext n l c).loadTick = s.loadTick := by
  rw [State.withdrawContext_frame]
@[simp] theorem State.withdrawContext_signing (n : SlotNo) (l : LaneNo) (c : CtxNo) : (s.withdrawContext n l c).signing = s.signing := by
  rw [State.withdrawContext_frame]
@[simp] theorem State.withdrawContext_routes (n : SlotNo) (l : LaneNo) (c : CtxNo) : (s.withdrawContext n l c).routes = s.routes := by
  rw [State.withdrawContext_frame]
@[simp] theorem State.withdrawContext_kfu (n : SlotNo) (l : LaneNo) (c : CtxNo) : (s.withdrawContext n l c).kfu = s.kfu := by
  rw [State.withdrawContext_frame]
@[simp] theorem State.withdrawContext_station (n : SlotNo) (l : LaneNo) (c : CtxNo) : (s.withdrawContext n l c).station = s.station := by
  rw [State.withdrawContext_frame]
@[simp] theorem State.withdrawContext_config (n : SlotNo) (l : LaneNo) (c : CtxNo) : (s.withdrawContext n l c).config = s.config := by
  rw [State.withdrawContext_frame]
@[simp] theorem State.withdrawContext_flags (n : SlotNo) (l : LaneNo) (c : CtxNo) : (s.withdrawContext n l c).flags = s.flags := by
  rw [State.withdrawContext_frame]
@[simp] theorem State.withdrawContext_pending (n : SlotNo) (l : LaneNo) (c : CtxNo) : (s.withdrawContext n l c).pending = s.pending := by
  rw [State.withdrawContext_frame]

/-- The same for a lane, its waiting PROVE entries answered first. -/
theorem State.withdrawLane_frame (n : SlotNo) (l : LaneNo) :
    s.withdrawLane n l =
      { s with
        lanes := (s.withdrawLane n l).lanes
        slots := (s.withdrawLane n l).slots
        store := (s.withdrawLane n l).store
        table := (s.withdrawLane n l).table } := by
  unfold State.withdrawLane
  generalize h : s.answerWaiting l (fun e => (s.ctx l e.ctx).body.provingOn n) (.code .keyWithdrawn) = t
  have ht : t = { s with lanes := t.lanes } := by rw [← h]; exact State.answerWaiting_frame s l _ _
  clear h
  have step (cs : List CtxNo) (u : State) :
      cs.foldl (fun t c => t.withdrawContext n l c) u =
        { u with
          lanes := (cs.foldl (fun t c => t.withdrawContext n l c) u).lanes
          slots := (cs.foldl (fun t c => t.withdrawContext n l c) u).slots
          store := (cs.foldl (fun t c => t.withdrawContext n l c) u).store
          table := (cs.foldl (fun t c => t.withdrawContext n l c) u).table } := by
    induction cs generalizing u with
    | nil => rfl
    | cons c cs ih =>
      rw [List.foldl_cons, ih, State.withdrawContext_frame]
  rw [step, ht]

@[simp] theorem State.withdrawLane_power (n : SlotNo) (l : LaneNo) : (s.withdrawLane n l).power = s.power := by
  rw [State.withdrawLane_frame]
@[simp] theorem State.withdrawLane_service (n : SlotNo) (l : LaneNo) : (s.withdrawLane n l).service = s.service := by
  rw [State.withdrawLane_frame]
@[simp] theorem State.withdrawLane_loaded (n : SlotNo) (l : LaneNo) : (s.withdrawLane n l).loaded = s.loaded := by
  rw [State.withdrawLane_frame]
@[simp] theorem State.withdrawLane_clock (n : SlotNo) (l : LaneNo) : (s.withdrawLane n l).clock = s.clock := by
  rw [State.withdrawLane_frame]
@[simp] theorem State.withdrawLane_laneRate (n : SlotNo) (l : LaneNo) : (s.withdrawLane n l).laneRate = s.laneRate := by
  rw [State.withdrawLane_frame]
@[simp] theorem State.withdrawLane_loadTick (n : SlotNo) (l : LaneNo) : (s.withdrawLane n l).loadTick = s.loadTick := by
  rw [State.withdrawLane_frame]
@[simp] theorem State.withdrawLane_signing (n : SlotNo) (l : LaneNo) : (s.withdrawLane n l).signing = s.signing := by
  rw [State.withdrawLane_frame]
@[simp] theorem State.withdrawLane_routes (n : SlotNo) (l : LaneNo) : (s.withdrawLane n l).routes = s.routes := by
  rw [State.withdrawLane_frame]
@[simp] theorem State.withdrawLane_kfu (n : SlotNo) (l : LaneNo) : (s.withdrawLane n l).kfu = s.kfu := by
  rw [State.withdrawLane_frame]
@[simp] theorem State.withdrawLane_station (n : SlotNo) (l : LaneNo) : (s.withdrawLane n l).station = s.station := by
  rw [State.withdrawLane_frame]
@[simp] theorem State.withdrawLane_config (n : SlotNo) (l : LaneNo) : (s.withdrawLane n l).config = s.config := by
  rw [State.withdrawLane_frame]
@[simp] theorem State.withdrawLane_flags (n : SlotNo) (l : LaneNo) : (s.withdrawLane n l).flags = s.flags := by
  rw [State.withdrawLane_frame]
@[simp] theorem State.withdrawLane_pending (n : SlotNo) (l : LaneNo) : (s.withdrawLane n l).pending = s.pending := by
  rw [State.withdrawLane_frame]

/-- The same for all lanes. -/
theorem State.withdrawMaster_frame (n : SlotNo) :
    s.withdrawMaster n =
      { s with
        lanes := (s.withdrawMaster n).lanes
        slots := (s.withdrawMaster n).slots
        store := (s.withdrawMaster n).store
        table := (s.withdrawMaster n).table } := by
  unfold State.withdrawMaster
  induction List.finRange 4 generalizing s with
  | nil => rfl
  | cons l ls ih =>
    rw [List.foldl_cons, ih, State.withdrawLane_frame]

@[simp] theorem State.withdrawMaster_power (n : SlotNo) : (s.withdrawMaster n).power = s.power := by
  rw [State.withdrawMaster_frame]
@[simp] theorem State.withdrawMaster_service (n : SlotNo) : (s.withdrawMaster n).service = s.service := by
  rw [State.withdrawMaster_frame]
@[simp] theorem State.withdrawMaster_loaded (n : SlotNo) : (s.withdrawMaster n).loaded = s.loaded := by
  rw [State.withdrawMaster_frame]
@[simp] theorem State.withdrawMaster_clock (n : SlotNo) : (s.withdrawMaster n).clock = s.clock := by
  rw [State.withdrawMaster_frame]
@[simp] theorem State.withdrawMaster_laneRate (n : SlotNo) : (s.withdrawMaster n).laneRate = s.laneRate := by
  rw [State.withdrawMaster_frame]
@[simp] theorem State.withdrawMaster_loadTick (n : SlotNo) : (s.withdrawMaster n).loadTick = s.loadTick := by
  rw [State.withdrawMaster_frame]
@[simp] theorem State.withdrawMaster_signing (n : SlotNo) : (s.withdrawMaster n).signing = s.signing := by
  rw [State.withdrawMaster_frame]
@[simp] theorem State.withdrawMaster_routes (n : SlotNo) : (s.withdrawMaster n).routes = s.routes := by
  rw [State.withdrawMaster_frame]
@[simp] theorem State.withdrawMaster_kfu (n : SlotNo) : (s.withdrawMaster n).kfu = s.kfu := by
  rw [State.withdrawMaster_frame]
@[simp] theorem State.withdrawMaster_station (n : SlotNo) : (s.withdrawMaster n).station = s.station := by
  rw [State.withdrawMaster_frame]
@[simp] theorem State.withdrawMaster_config (n : SlotNo) : (s.withdrawMaster n).config = s.config := by
  rw [State.withdrawMaster_frame]
@[simp] theorem State.withdrawMaster_flags (n : SlotNo) : (s.withdrawMaster n).flags = s.flags := by
  rw [State.withdrawMaster_frame]
@[simp] theorem State.withdrawMaster_pending (n : SlotNo) : (s.withdrawMaster n).pending = s.pending := by
  rw [State.withdrawMaster_frame]

/-- SERVICE_CHANGED to every lane changes the lanes only (R157). -/
theorem State.serviceChangedAll_frame : s.serviceChangedAll = { s with lanes := (s.serviceChangedAll).lanes } := by
  unfold State.serviceChangedAll
  induction List.finRange 4 generalizing s with
  | nil => rfl
  | cons l ls ih =>
    rw [List.foldl_cons, ih]
    rfl

@[simp] theorem State.serviceChangedAll_power : (s.serviceChangedAll).power = s.power := by
  rw [State.serviceChangedAll_frame]
@[simp] theorem State.serviceChangedAll_service : (s.serviceChangedAll).service = s.service := by
  rw [State.serviceChangedAll_frame]
@[simp] theorem State.serviceChangedAll_loaded : (s.serviceChangedAll).loaded = s.loaded := by
  rw [State.serviceChangedAll_frame]
@[simp] theorem State.serviceChangedAll_clock : (s.serviceChangedAll).clock = s.clock := by
  rw [State.serviceChangedAll_frame]
@[simp] theorem State.serviceChangedAll_laneRate : (s.serviceChangedAll).laneRate = s.laneRate := by
  rw [State.serviceChangedAll_frame]
@[simp] theorem State.serviceChangedAll_loadTick : (s.serviceChangedAll).loadTick = s.loadTick := by
  rw [State.serviceChangedAll_frame]
@[simp] theorem State.serviceChangedAll_table : (s.serviceChangedAll).table = s.table := by
  rw [State.serviceChangedAll_frame]
@[simp] theorem State.serviceChangedAll_slots : (s.serviceChangedAll).slots = s.slots := by
  rw [State.serviceChangedAll_frame]
@[simp] theorem State.serviceChangedAll_signing : (s.serviceChangedAll).signing = s.signing := by
  rw [State.serviceChangedAll_frame]
@[simp] theorem State.serviceChangedAll_routes : (s.serviceChangedAll).routes = s.routes := by
  rw [State.serviceChangedAll_frame]
@[simp] theorem State.serviceChangedAll_kfu : (s.serviceChangedAll).kfu = s.kfu := by
  rw [State.serviceChangedAll_frame]
@[simp] theorem State.serviceChangedAll_station : (s.serviceChangedAll).station = s.station := by
  rw [State.serviceChangedAll_frame]
@[simp] theorem State.serviceChangedAll_config : (s.serviceChangedAll).config = s.config := by
  rw [State.serviceChangedAll_frame]
@[simp] theorem State.serviceChangedAll_flags : (s.serviceChangedAll).flags = s.flags := by
  rw [State.serviceChangedAll_frame]
@[simp] theorem State.serviceChangedAll_store : (s.serviceChangedAll).store = s.store := by
  rw [State.serviceChangedAll_frame]
@[simp] theorem State.serviceChangedAll_pending : (s.serviceChangedAll).pending = s.pending := by
  rw [State.serviceChangedAll_frame]

/-- SIGNING_CHANGED changes the lanes only (R26). -/
theorem State.signingChangedAll_frame : s.signingChangedAll = { s with lanes := (s.signingChangedAll).lanes } := by
  unfold State.signingChangedAll
  induction List.finRange 4 generalizing s with
  | nil => rfl
  | cons l ls ih =>
    rw [List.foldl_cons, ih]
    split <;> rfl

@[simp] theorem State.signingChangedAll_power : (s.signingChangedAll).power = s.power := by
  rw [State.signingChangedAll_frame]
@[simp] theorem State.signingChangedAll_service : (s.signingChangedAll).service = s.service := by
  rw [State.signingChangedAll_frame]
@[simp] theorem State.signingChangedAll_loaded : (s.signingChangedAll).loaded = s.loaded := by
  rw [State.signingChangedAll_frame]
@[simp] theorem State.signingChangedAll_clock : (s.signingChangedAll).clock = s.clock := by
  rw [State.signingChangedAll_frame]
@[simp] theorem State.signingChangedAll_laneRate : (s.signingChangedAll).laneRate = s.laneRate := by
  rw [State.signingChangedAll_frame]
@[simp] theorem State.signingChangedAll_loadTick : (s.signingChangedAll).loadTick = s.loadTick := by
  rw [State.signingChangedAll_frame]
@[simp] theorem State.signingChangedAll_table : (s.signingChangedAll).table = s.table := by
  rw [State.signingChangedAll_frame]
@[simp] theorem State.signingChangedAll_slots : (s.signingChangedAll).slots = s.slots := by
  rw [State.signingChangedAll_frame]
@[simp] theorem State.signingChangedAll_signing : (s.signingChangedAll).signing = s.signing := by
  rw [State.signingChangedAll_frame]
@[simp] theorem State.signingChangedAll_routes : (s.signingChangedAll).routes = s.routes := by
  rw [State.signingChangedAll_frame]
@[simp] theorem State.signingChangedAll_kfu : (s.signingChangedAll).kfu = s.kfu := by
  rw [State.signingChangedAll_frame]
@[simp] theorem State.signingChangedAll_station : (s.signingChangedAll).station = s.station := by
  rw [State.signingChangedAll_frame]
@[simp] theorem State.signingChangedAll_config : (s.signingChangedAll).config = s.config := by
  rw [State.signingChangedAll_frame]
@[simp] theorem State.signingChangedAll_flags : (s.signingChangedAll).flags = s.flags := by
  rw [State.signingChangedAll_frame]
@[simp] theorem State.signingChangedAll_store : (s.signingChangedAll).store = s.store := by
  rw [State.signingChangedAll_frame]
@[simp] theorem State.signingChangedAll_pending : (s.signingChangedAll).pending = s.pending := by
  rw [State.signingChangedAll_frame]

/-- Forming the current signing generation again changes it and the lanes only (R78). -/
theorem State.reformSigning_frame :
    s.reformSigning = { s with lanes := (s.reformSigning).lanes, signing := (s.reformSigning).signing } := by
  unfold State.reformSigning
  split
  · rfl
  · rw [State.signingChangedAll_frame]

@[simp] theorem State.reformSigning_power : (s.reformSigning).power = s.power := by
  rw [State.reformSigning_frame]
@[simp] theorem State.reformSigning_service : (s.reformSigning).service = s.service := by
  rw [State.reformSigning_frame]
@[simp] theorem State.reformSigning_loaded : (s.reformSigning).loaded = s.loaded := by
  rw [State.reformSigning_frame]
@[simp] theorem State.reformSigning_clock : (s.reformSigning).clock = s.clock := by
  rw [State.reformSigning_frame]
@[simp] theorem State.reformSigning_laneRate : (s.reformSigning).laneRate = s.laneRate := by
  rw [State.reformSigning_frame]
@[simp] theorem State.reformSigning_loadTick : (s.reformSigning).loadTick = s.loadTick := by
  rw [State.reformSigning_frame]
@[simp] theorem State.reformSigning_table : (s.reformSigning).table = s.table := by
  rw [State.reformSigning_frame]
@[simp] theorem State.reformSigning_slots : (s.reformSigning).slots = s.slots := by
  rw [State.reformSigning_frame]
@[simp] theorem State.reformSigning_routes : (s.reformSigning).routes = s.routes := by
  rw [State.reformSigning_frame]
@[simp] theorem State.reformSigning_kfu : (s.reformSigning).kfu = s.kfu := by
  rw [State.reformSigning_frame]
@[simp] theorem State.reformSigning_station : (s.reformSigning).station = s.station := by
  rw [State.reformSigning_frame]
@[simp] theorem State.reformSigning_config : (s.reformSigning).config = s.config := by
  rw [State.reformSigning_frame]
@[simp] theorem State.reformSigning_flags : (s.reformSigning).flags = s.flags := by
  rw [State.reformSigning_frame]
@[simp] theorem State.reformSigning_store : (s.reformSigning).store = s.store := by
  rw [State.reformSigning_frame]
@[simp] theorem State.reformSigning_pending : (s.reformSigning).pending = s.pending := by
  rw [State.reformSigning_frame]

/-- An evaluation changes the slots, the store and the flags only (R72). -/
theorem State.evaluate_frame :
    s.evaluate = { s with slots := (s.evaluate).slots, store := (s.evaluate).store, flags := (s.evaluate).flags } := by
  have step (ns : List SlotNo) (u : State) :
      ns.foldl (fun (t : State) n => t.requestStore (.writeSlot n)) u =
        { u with store := (ns.foldl (fun (t : State) n => t.requestStore (.writeSlot n)) u).store } := by
    induction ns generalizing u with
    | nil => rfl
    | cons n ns ih =>
      rw [List.foldl_cons, ih, State.requestStore_frame]
  obtain ⟨v, hv⟩ : ∃ v, s.evaluateSlots = { s with slots := v } := ⟨_, rfl⟩
  unfold State.evaluate
  rw [hv]
  clear hv
  dsimp only
  split
  · rw [step]
    split <;> rfl
  · rfl

@[simp] theorem State.evaluate_power : (s.evaluate).power = s.power := by
  rw [State.evaluate_frame]
@[simp] theorem State.evaluate_service : (s.evaluate).service = s.service := by
  rw [State.evaluate_frame]
@[simp] theorem State.evaluate_loaded : (s.evaluate).loaded = s.loaded := by
  rw [State.evaluate_frame]
@[simp] theorem State.evaluate_clock : (s.evaluate).clock = s.clock := by
  rw [State.evaluate_frame]
@[simp] theorem State.evaluate_lanes : (s.evaluate).lanes = s.lanes := by
  rw [State.evaluate_frame]
@[simp] theorem State.evaluate_laneRate : (s.evaluate).laneRate = s.laneRate := by
  rw [State.evaluate_frame]
@[simp] theorem State.evaluate_loadTick : (s.evaluate).loadTick = s.loadTick := by
  rw [State.evaluate_frame]
@[simp] theorem State.evaluate_table : (s.evaluate).table = s.table := by
  rw [State.evaluate_frame]
@[simp] theorem State.evaluate_signing : (s.evaluate).signing = s.signing := by
  rw [State.evaluate_frame]
@[simp] theorem State.evaluate_routes : (s.evaluate).routes = s.routes := by
  rw [State.evaluate_frame]
@[simp] theorem State.evaluate_kfu : (s.evaluate).kfu = s.kfu := by
  rw [State.evaluate_frame]
@[simp] theorem State.evaluate_station : (s.evaluate).station = s.station := by
  rw [State.evaluate_frame]
@[simp] theorem State.evaluate_config : (s.evaluate).config = s.config := by
  rw [State.evaluate_frame]
@[simp] theorem State.evaluate_pending : (s.evaluate).pending = s.pending := by
  rw [State.evaluate_frame]

/-- Entering SERVING changes the service state and the lanes only (R157). -/
theorem State.enterServing_frame :
    s.enterServing = { s with service := (s.enterServing).service, lanes := (s.enterServing).lanes } := by
  unfold State.enterServing
  rw [State.serviceChangedAll_frame]

@[simp] theorem State.enterServing_power : (s.enterServing).power = s.power := by
  rw [State.enterServing_frame]
@[simp] theorem State.enterServing_loaded : (s.enterServing).loaded = s.loaded := by
  rw [State.enterServing_frame]
@[simp] theorem State.enterServing_clock : (s.enterServing).clock = s.clock := by
  rw [State.enterServing_frame]
@[simp] theorem State.enterServing_laneRate : (s.enterServing).laneRate = s.laneRate := by
  rw [State.enterServing_frame]
@[simp] theorem State.enterServing_loadTick : (s.enterServing).loadTick = s.loadTick := by
  rw [State.enterServing_frame]
@[simp] theorem State.enterServing_table : (s.enterServing).table = s.table := by
  rw [State.enterServing_frame]
@[simp] theorem State.enterServing_slots : (s.enterServing).slots = s.slots := by
  rw [State.enterServing_frame]
@[simp] theorem State.enterServing_signing : (s.enterServing).signing = s.signing := by
  rw [State.enterServing_frame]
@[simp] theorem State.enterServing_routes : (s.enterServing).routes = s.routes := by
  rw [State.enterServing_frame]
@[simp] theorem State.enterServing_kfu : (s.enterServing).kfu = s.kfu := by
  rw [State.enterServing_frame]
@[simp] theorem State.enterServing_station : (s.enterServing).station = s.station := by
  rw [State.enterServing_frame]
@[simp] theorem State.enterServing_config : (s.enterServing).config = s.config := by
  rw [State.enterServing_frame]
@[simp] theorem State.enterServing_flags : (s.enterServing).flags = s.flags := by
  rw [State.enterServing_frame]
@[simp] theorem State.enterServing_store : (s.enterServing).store = s.store := by
  rw [State.enterServing_frame]
@[simp] theorem State.enterServing_pending : (s.enterServing).pending = s.pending := by
  rw [State.enterServing_frame]

/-- Leaving SERVING changes the service state beside those parts (R34, R157). -/
theorem State.leaveService_frame :
    s.leaveService =
      { s with
        service := (s.leaveService).service
        lanes := (s.leaveService).lanes
        slots := (s.leaveService).slots
        store := (s.leaveService).store
        table := (s.leaveService).table } := by
  have step (ls : List LaneNo) (u : State) :
      ls.foldl (fun t l => t.leaveServiceLane l) u =
        { u with
          lanes := (ls.foldl (fun t l => t.leaveServiceLane l) u).lanes
          slots := (ls.foldl (fun t l => t.leaveServiceLane l) u).slots
          store := (ls.foldl (fun t l => t.leaveServiceLane l) u).store
          table := (ls.foldl (fun t l => t.leaveServiceLane l) u).table } := by
    induction ls generalizing u with
    | nil => rfl
    | cons l ls ih =>
      rw [List.foldl_cons, ih, State.leaveServiceLane_frame]
  unfold State.leaveService
  rw [step]

@[simp] theorem State.leaveService_power : (s.leaveService).power = s.power := by
  rw [State.leaveService_frame]
@[simp] theorem State.leaveService_loaded : (s.leaveService).loaded = s.loaded := by
  rw [State.leaveService_frame]
@[simp] theorem State.leaveService_clock : (s.leaveService).clock = s.clock := by
  rw [State.leaveService_frame]
@[simp] theorem State.leaveService_laneRate : (s.leaveService).laneRate = s.laneRate := by
  rw [State.leaveService_frame]
@[simp] theorem State.leaveService_loadTick : (s.leaveService).loadTick = s.loadTick := by
  rw [State.leaveService_frame]
@[simp] theorem State.leaveService_signing : (s.leaveService).signing = s.signing := by
  rw [State.leaveService_frame]
@[simp] theorem State.leaveService_routes : (s.leaveService).routes = s.routes := by
  rw [State.leaveService_frame]
@[simp] theorem State.leaveService_kfu : (s.leaveService).kfu = s.kfu := by
  rw [State.leaveService_frame]
@[simp] theorem State.leaveService_station : (s.leaveService).station = s.station := by
  rw [State.leaveService_frame]
@[simp] theorem State.leaveService_config : (s.leaveService).config = s.config := by
  rw [State.leaveService_frame]
@[simp] theorem State.leaveService_flags : (s.leaveService).flags = s.flags := by
  rw [State.leaveService_frame]
@[simp] theorem State.leaveService_pending : (s.leaveService).pending = s.pending := by
  rw [State.leaveService_frame]

/-- The challenge sequence's advance changes the unit and the store only (R111, R112). -/
theorem State.advanceSequence_frame :
    s.advanceSequence = { s with kfu := (s.advanceSequence).kfu, store := (s.advanceSequence).store } := by
  unfold State.advanceSequence
  split
  · rfl
  · split
    · rfl
    · rw [State.requestStore_frame]

@[simp] theorem State.advanceSequence_power : (s.advanceSequence).power = s.power := by
  rw [State.advanceSequence_frame]
@[simp] theorem State.advanceSequence_service : (s.advanceSequence).service = s.service := by
  rw [State.advanceSequence_frame]
@[simp] theorem State.advanceSequence_loaded : (s.advanceSequence).loaded = s.loaded := by
  rw [State.advanceSequence_frame]
@[simp] theorem State.advanceSequence_clock : (s.advanceSequence).clock = s.clock := by
  rw [State.advanceSequence_frame]
@[simp] theorem State.advanceSequence_lanes : (s.advanceSequence).lanes = s.lanes := by
  rw [State.advanceSequence_frame]
@[simp] theorem State.advanceSequence_laneRate : (s.advanceSequence).laneRate = s.laneRate := by
  rw [State.advanceSequence_frame]
@[simp] theorem State.advanceSequence_loadTick : (s.advanceSequence).loadTick = s.loadTick := by
  rw [State.advanceSequence_frame]
@[simp] theorem State.advanceSequence_table : (s.advanceSequence).table = s.table := by
  rw [State.advanceSequence_frame]
@[simp] theorem State.advanceSequence_slots : (s.advanceSequence).slots = s.slots := by
  rw [State.advanceSequence_frame]
@[simp] theorem State.advanceSequence_signing : (s.advanceSequence).signing = s.signing := by
  rw [State.advanceSequence_frame]
@[simp] theorem State.advanceSequence_routes : (s.advanceSequence).routes = s.routes := by
  rw [State.advanceSequence_frame]
@[simp] theorem State.advanceSequence_station : (s.advanceSequence).station = s.station := by
  rw [State.advanceSequence_frame]
@[simp] theorem State.advanceSequence_config : (s.advanceSequence).config = s.config := by
  rw [State.advanceSequence_frame]
@[simp] theorem State.advanceSequence_flags : (s.advanceSequence).flags = s.flags := by
  rw [State.advanceSequence_frame]
@[simp] theorem State.advanceSequence_pending : (s.advanceSequence).pending = s.pending := by
  rw [State.advanceSequence_frame]

/-- A job's start changes the unit, the lanes, the slots, the store, the passage table and the flags only (R119). -/
theorem State.startEntry_frame (l : LaneNo) (e : Entry) :
    s.startEntry l e =
      { s with
        lanes := (s.startEntry l e).lanes
        slots := (s.startEntry l e).slots
        store := (s.startEntry l e).store
        table := (s.startEntry l e).table
        kfu := (s.startEntry l e).kfu
        flags := (s.startEntry l e).flags } := by
  unfold State.startEntry
  split
  · unfold State.startOpen State.answerAtStart
    split
    · split
      · rfl
      · rw [State.endContext_frame, State.answerWaiting_frame]
      · rw [State.endContext_frame, State.answerWaiting_frame]
    · rfl
  · unfold State.startProve
    split <;> rfl
  · unfold State.startSeal State.answerAtStart
    split
    · split
      · unfold State.onCtx State.onLane
        rw [State.answerWaiting_frame]
      · simp only []
        split <;> rfl
    · rfl

@[simp] theorem State.startEntry_power (l : LaneNo) (e : Entry) : (s.startEntry l e).power = s.power := by
  rw [State.startEntry_frame]
@[simp] theorem State.startEntry_service (l : LaneNo) (e : Entry) : (s.startEntry l e).service = s.service := by
  rw [State.startEntry_frame]
@[simp] theorem State.startEntry_loaded (l : LaneNo) (e : Entry) : (s.startEntry l e).loaded = s.loaded := by
  rw [State.startEntry_frame]
@[simp] theorem State.startEntry_clock (l : LaneNo) (e : Entry) : (s.startEntry l e).clock = s.clock := by
  rw [State.startEntry_frame]
@[simp] theorem State.startEntry_laneRate (l : LaneNo) (e : Entry) : (s.startEntry l e).laneRate = s.laneRate := by
  rw [State.startEntry_frame]
@[simp] theorem State.startEntry_loadTick (l : LaneNo) (e : Entry) : (s.startEntry l e).loadTick = s.loadTick := by
  rw [State.startEntry_frame]
@[simp] theorem State.startEntry_signing (l : LaneNo) (e : Entry) : (s.startEntry l e).signing = s.signing := by
  rw [State.startEntry_frame]
@[simp] theorem State.startEntry_routes (l : LaneNo) (e : Entry) : (s.startEntry l e).routes = s.routes := by
  rw [State.startEntry_frame]
@[simp] theorem State.startEntry_station (l : LaneNo) (e : Entry) : (s.startEntry l e).station = s.station := by
  rw [State.startEntry_frame]
@[simp] theorem State.startEntry_config (l : LaneNo) (e : Entry) : (s.startEntry l e).config = s.config := by
  rw [State.startEntry_frame]
@[simp] theorem State.startEntry_pending (l : LaneNo) (e : Entry) : (s.startEntry l e).pending = s.pending := by
  rw [State.startEntry_frame]

/-- The job chosen, a LOAD leaving the station controller. -/
theorem State.startChoice_frame (ch : Choice) :
    s.startChoice ch =
      { s with
        lanes := (s.startChoice ch).lanes
        slots := (s.startChoice ch).slots
        store := (s.startChoice ch).store
        table := (s.startChoice ch).table
        kfu := (s.startChoice ch).kfu
        flags := (s.startChoice ch).flags
        station := (s.startChoice ch).station } := by
  unfold State.startChoice
  cases ch
  · simp only []
    rw [State.startEntry_frame]
  · simp only []
    rw [State.startEntry_frame]
  · rfl

@[simp] theorem State.startChoice_power (ch : Choice) : (s.startChoice ch).power = s.power := by
  rw [State.startChoice_frame]
@[simp] theorem State.startChoice_service (ch : Choice) : (s.startChoice ch).service = s.service := by
  rw [State.startChoice_frame]
@[simp] theorem State.startChoice_loaded (ch : Choice) : (s.startChoice ch).loaded = s.loaded := by
  rw [State.startChoice_frame]
@[simp] theorem State.startChoice_clock (ch : Choice) : (s.startChoice ch).clock = s.clock := by
  rw [State.startChoice_frame]
@[simp] theorem State.startChoice_laneRate (ch : Choice) : (s.startChoice ch).laneRate = s.laneRate := by
  rw [State.startChoice_frame]
@[simp] theorem State.startChoice_loadTick (ch : Choice) : (s.startChoice ch).loadTick = s.loadTick := by
  rw [State.startChoice_frame]
@[simp] theorem State.startChoice_signing (ch : Choice) : (s.startChoice ch).signing = s.signing := by
  rw [State.startChoice_frame]
@[simp] theorem State.startChoice_routes (ch : Choice) : (s.startChoice ch).routes = s.routes := by
  rw [State.startChoice_frame]
@[simp] theorem State.startChoice_config (ch : Choice) : (s.startChoice ch).config = s.config := by
  rw [State.startChoice_frame]
@[simp] theorem State.startChoice_pending (ch : Choice) : (s.startChoice ch).pending = s.pending := by
  rw [State.startChoice_frame]

/-- The arbiter's choices change the same parts (R115). -/
theorem State.arbitrateFor_frame (n : Nat) :
    s.arbitrateFor n =
      { s with
        lanes := (s.arbitrateFor n).lanes
        slots := (s.arbitrateFor n).slots
        store := (s.arbitrateFor n).store
        table := (s.arbitrateFor n).table
        kfu := (s.arbitrateFor n).kfu
        flags := (s.arbitrateFor n).flags
        station := (s.arbitrateFor n).station } := by
  induction n generalizing s with
  | zero => rfl
  | succ n ih =>
    unfold State.arbitrateFor
    split
    · rfl
    · split
      · rfl
      · rw [ih, State.startChoice_frame]

@[simp] theorem State.arbitrateFor_power (n : Nat) : (s.arbitrateFor n).power = s.power := by
  rw [State.arbitrateFor_frame]
@[simp] theorem State.arbitrateFor_service (n : Nat) : (s.arbitrateFor n).service = s.service := by
  rw [State.arbitrateFor_frame]
@[simp] theorem State.arbitrateFor_loaded (n : Nat) : (s.arbitrateFor n).loaded = s.loaded := by
  rw [State.arbitrateFor_frame]
@[simp] theorem State.arbitrateFor_clock (n : Nat) : (s.arbitrateFor n).clock = s.clock := by
  rw [State.arbitrateFor_frame]
@[simp] theorem State.arbitrateFor_laneRate (n : Nat) : (s.arbitrateFor n).laneRate = s.laneRate := by
  rw [State.arbitrateFor_frame]
@[simp] theorem State.arbitrateFor_loadTick (n : Nat) : (s.arbitrateFor n).loadTick = s.loadTick := by
  rw [State.arbitrateFor_frame]
@[simp] theorem State.arbitrateFor_signing (n : Nat) : (s.arbitrateFor n).signing = s.signing := by
  rw [State.arbitrateFor_frame]
@[simp] theorem State.arbitrateFor_routes (n : Nat) : (s.arbitrateFor n).routes = s.routes := by
  rw [State.arbitrateFor_frame]
@[simp] theorem State.arbitrateFor_config (n : Nat) : (s.arbitrateFor n).config = s.config := by
  rw [State.arbitrateFor_frame]
@[simp] theorem State.arbitrateFor_pending (n : Nat) : (s.arbitrateFor n).pending = s.pending := by
  rw [State.arbitrateFor_frame]

/-- The arbiter changes the same parts (R115). -/
theorem State.arbitrate_frame :
    s.arbitrate =
      { s with
        lanes := (s.arbitrate).lanes
        slots := (s.arbitrate).slots
        store := (s.arbitrate).store
        table := (s.arbitrate).table
        kfu := (s.arbitrate).kfu
        flags := (s.arbitrate).flags
        station := (s.arbitrate).station } := by
  unfold State.arbitrate
  rw [State.arbitrateFor_frame]

@[simp] theorem State.arbitrate_power : (s.arbitrate).power = s.power := by
  rw [State.arbitrate_frame]
@[simp] theorem State.arbitrate_service : (s.arbitrate).service = s.service := by
  rw [State.arbitrate_frame]
@[simp] theorem State.arbitrate_loaded : (s.arbitrate).loaded = s.loaded := by
  rw [State.arbitrate_frame]
@[simp] theorem State.arbitrate_clock : (s.arbitrate).clock = s.clock := by
  rw [State.arbitrate_frame]
@[simp] theorem State.arbitrate_laneRate : (s.arbitrate).laneRate = s.laneRate := by
  rw [State.arbitrate_frame]
@[simp] theorem State.arbitrate_loadTick : (s.arbitrate).loadTick = s.loadTick := by
  rw [State.arbitrate_frame]
@[simp] theorem State.arbitrate_signing : (s.arbitrate).signing = s.signing := by
  rw [State.arbitrate_frame]
@[simp] theorem State.arbitrate_routes : (s.arbitrate).routes = s.routes := by
  rw [State.arbitrate_frame]
@[simp] theorem State.arbitrate_config : (s.arbitrate).config = s.config := by
  rw [State.arbitrate_frame]
@[simp] theorem State.arbitrate_pending : (s.arbitrate).pending = s.pending := by
  rw [State.arbitrate_frame]

end Sys2Proof.Machine
end

