-- ==== Sys2Proof/Laws/Ports.lean ====
section
/-! SUPPORT. The port interfaces: what becomes of the parts of a port when an answer enters, leaves or is cut off, and the CRC one
byte at a time. -/

namespace Sys2Proof.Machine

@[simp] theorem PortState.enqueue_rx (p : PortState) (r : Rate) (a : Answer) : (p.enqueue r a).rx = p.rx := rfl

@[simp] theorem PortState.enqueue_answers (p : PortState) (r : Rate) (a : Answer) :
    (p.enqueue r a).answers = p.answers ++ [a] := rfl

@[simp] theorem PortState.sent_rx (p : PortState) (r : Rate) : (p.sent r).rx = p.rx := by
  unfold PortState.sent
  split <;> rfl

@[simp] theorem PortState.sent_answers (p : PortState) (r : Rate) : (p.sent r).answers = p.answers.drop 1 := by
  unfold PortState.sent
  split
  · next h => exact h.symm
  · next h => exact h.symm

@[simp] theorem PortState.cutOff_rx (p : PortState) : p.cutOff.rx = p.rx := rfl

@[simp] theorem PortState.cutOff_answers (p : PortState) : p.cutOff.answers = [] := rfl

/-- An answer in transmission is followed by the abort sequence at its own rate (R189). -/
theorem PortState.cutOff_sending (p : PortState) (line : List Byte) (r : Rate) (h : p.tx = .sending line r) :
    p.cutOff.tx = .cutOff [0x7D, 0x7E] r := by
  simp [PortState.cutOff, h, abortLine]

/-- With no answer in transmission nothing is sent (R189). -/
theorem PortState.cutOff_rest (p : PortState) (h : ∀ line r, p.tx ≠ .sending line r) : p.cutOff.tx = p.tx := by
  cases hx : p.tx with
  | sending line r => exact absurd hx (h line r)
  | _ => simp [PortState.cutOff, hx]

@[simp] theorem crc16_nil : crc16 [] = 0xFFFF := rfl

/-- The CRC of one more byte goes on from the register of those before it (R185). -/
theorem crc16_append (xs ys : List Byte) : crc16 (xs ++ ys) = ys.foldl crcByte (crc16 xs) := List.foldl_append ..

end Sys2Proof.Machine
end

