-- ==== Sys2Proof/Laws/Selection.lean ====
section
/-! SUPPORT. Laws of the shared folds and selections: the best of a list, the order of the slots, the endings of a lane's contexts,
the notices of all lanes and the bounds of a time in ticks. -/

namespace Sys2Proof.Machine

/-- The best of a list with one element more. -/
theorem bestOf_append {α : Type} (better : α → α → Bool) (xs : List α) (b : α) :
    bestOf better (xs ++ [b]) =
      match bestOf better xs with
      | none => some b
      | some a => if better b a then some b else some a := by
  unfold bestOf
  rw [List.foldl_append]
  rfl

/-- Only the empty list has no best element. -/
theorem bestOf_eq_none {α : Type} (better : α → α → Bool) (xs : List α) : bestOf better xs = none ↔ xs = [] := by
  induction xs using List.reverseRecOn with
  | nil => simp [bestOf]
  | append_singleton xs x ih =>
    rw [bestOf_append]
    cases bestOf better xs <;> simp
    split <;> simp

/-- The best of a list is one of its elements. -/
theorem bestOf_mem {α : Type} (better : α → α → Bool) (xs : List α) (a : α) (h : bestOf better xs = some a) : a ∈ xs := by
  induction xs using List.reverseRecOn with
  | nil => simp [bestOf] at h
  | append_singleton xs z ih =>
    rw [bestOf_append] at h
    cases hh : bestOf better xs with
    | none =>
      rw [hh] at h
      simp_all
    | some w =>
      rw [hh] at h
      dsimp only at h
      split at h
      · simp_all
      · exact List.mem_append_left _ (ih (hh.trans h))

/-- An element that betters all before it and is bettered by none behind it is the best. -/
theorem bestOf_first {α : Type} (better : α → α → Bool) (xs ys : List α) (x : α) (h1 : ∀ y ∈ xs, better x y = true)
    (h2 : ∀ y ∈ ys, better y x = false) : bestOf better (xs ++ x :: ys) = some x := by
  induction ys using List.reverseRecOn with
  | nil =>
    rw [bestOf_append]
    cases h : bestOf better xs with
    | none => rfl
    | some a => simp [h1 a (bestOf_mem better xs a h)]
  | append_singleton ys y ih =>
    rw [show xs ++ x :: (ys ++ [y]) = (xs ++ x :: ys) ++ [y] by simp, bestOf_append,
      ih fun z hz => h2 z (List.mem_append_left _ hz)]
    simp [h2 y (by simp)]

/-- The slots in order, cut at one of them. -/
theorem finRange_split (n : SlotNo) :
    ∃ a b : List SlotNo, List.finRange 24 = a ++ n :: b ∧ (∀ k ∈ a, k < n) ∧ ∀ k ∈ b, n < k := by
  refine ⟨(List.finRange 24).take n.val, (List.finRange 24).drop (n.val + 1), ?_, ?_, ?_⟩
  · have : n.val < (List.finRange 24).length := by simp
    conv_lhs => rw [← List.take_append_drop n.val (List.finRange 24), List.drop_eq_getElem_cons this]
    simp
  · intro k hk
    rw [List.mem_take_iff_getElem] at hk
    obtain ⟨j, hj, rfl⟩ := hk
    simp at *
    exact Fin.lt_def.2 (by simp; omega)
  · intro k hk
    rw [List.mem_drop_iff_getElem] at hk
    obtain ⟨j, hj, rfl⟩ := hk
    simp at *
    exact Fin.lt_def.2 (by simp; omega)

/-- The three contexts of a lane are reached one after another. -/
theorem State.resetContexts_eq (s : State) (l : LaneNo) :
    s.resetContexts l = ((s.reachEnd l 0 .laneReset).reachEnd l 1 .laneReset).reachEnd l 2 .laneReset := by
  unfold State.resetContexts
  simp only [show List.finRange 3 = [0, 1, 2] from by decide, List.foldl_cons, List.foldl_nil]

/-- SERVICE_CHANGED on every lane, written out. -/
theorem State.serviceChangedAll_eq (s : State) :
    s.serviceChangedAll =
      { s with
        lanes := Vector.ofFn fun l : LaneNo =>
          { s.lanes[l] with notices := { s.lanes[l].notices with serviceChanged := true } } } := by
  rw [State.serviceChangedAll_frame]
  congr 1
  unfold State.serviceChangedAll
  simp only [show List.finRange 4 = [0, 1, 2, 3] from by decide, List.foldl_cons, List.foldl_nil]
  ext l hl
  have : l = 0 ∨ l = 1 ∨ l = 2 ∨ l = 3 := by omega
  rcases this with h | h | h | h <;> subst h <;> simp [State.addServiceChanged, State.onLane]

/-- A time in ticks is the least number of ticks not below it (R23, R190). -/
theorem ticksOf_bounds (ms : BitVec 16) :
    ms.toNat * 1024 ≤ ticksOf ms * 1000 ∧ ticksOf ms * 1000 < ms.toNat * 1024 + 1000 := by
  unfold ticksOf
  omega

/-- A failed action touches its own record and ends. -/
theorem Store.left_idle (st : Store) (a : StoreAct) (x : AttemptLeft) :
    (st.left a x).idle =
      { st with
        action := none, second := false, slots := (st.left a x).slots, image := (st.left a x).image, boot := (st.left a x).boot } := by
  cases x <;> cases a <;> rfl

end Sys2Proof.Machine
end

