-- ==== Sys2Proof/Laws/Station.lean ====
section
/-! SUPPORT. The station request queue and the operations: what a request does to the blocks does not look at the queue it
stands in, and a request on a ready station executes at once. -/

namespace Sys2Proof.Machine

variable (s : State) (q : List StationEntry)

/-! ### Operations that do not look at the station request queue -/

theorem State.requestStore_withQueue (r : StoreReq) : (s.withQueue q).requestStore r = (s.requestStore r).withQueue q := by
  unfold State.requestStore State.beginAction State.withQueue
  dsimp only
  split
  · rfl
  · split
    · cases r <;> rfl
    · rfl

theorem State.produceAll_withQueue (l : LaneNo) (as : List Answer) :
    (s.withQueue q).produceAll (.lane l) as = (s.produceAll (.lane l) as).withQueue q := by
  induction as generalizing s with
  | nil => rfl
  | cons a as ih => exact ih (s.produce (.lane l) a)

theorem State.answerWaiting_withQueue (l : LaneNo) (pick : Entry → Bool) (r : Reply) :
    (s.withQueue q).answerWaiting l pick r = (s.answerWaiting l pick r).withQueue q := by
  unfold State.answerWaiting
  rw [← State.produceAll_withQueue]
  rfl

theorem State.eraseIfUnused_withQueue (n : SlotNo) : (s.withQueue q).eraseIfUnused n = (s.eraseIfUnused n).withQueue q := by
  unfold State.eraseIfUnused
  rw [show (s.withQueue q).slots = s.slots from rfl]
  split
  · split
    · rw [← State.requestStore_withQueue]
      rfl
    · rfl
  · rfl

theorem State.release_withQueue (n : SlotNo) : (s.withQueue q).release n = (s.release n).withQueue q := by
  unfold State.release
  rw [← State.eraseIfUnused_withQueue]
  rfl

theorem State.releaseClaim_withQueue (l : LaneNo) (c : CtxNo) :
    (s.withQueue q).releaseClaim l c = (s.releaseClaim l c).withQueue q := by
  unfold State.releaseClaim State.now
  rw [show (s.withQueue q).table = s.table from rfl, show (s.withQueue q).clock = s.clock from rfl]
  split
  · rfl
  · split
    · split <;> rfl
    · rfl

theorem State.freeContext_withQueue (l : LaneNo) (c : CtxNo) (cause : EndCause) :
    (s.withQueue q).freeContext l c cause = (s.freeContext l c cause).withQueue q := by
  cases cause <;> rfl

theorem State.endContext_withQueue (l : LaneNo) (c : CtxNo) (cause : EndCause) :
    (s.withQueue q).endContext l c cause = (s.endContext l c cause).withQueue q := by
  unfold State.endContext
  dsimp only
  rw [show (s.withQueue q).ctx l c = s.ctx l c from rfl]
  cases (s.ctx l c).body.master <;> cases (s.ctx l c).body.hasClaim <;>
    simp only [Bool.false_eq_true, if_true, if_false, State.release_withQueue, State.releaseClaim_withQueue,
      State.freeContext_withQueue]

theorem State.reachEnd_withQueue (l : LaneNo) (c : CtxNo) (p : PendingEnd) :
    (s.withQueue q).reachEnd l c p = (s.reachEnd l c p).withQueue q := by
  unfold State.reachEnd
  rw [show (s.withQueue q).ctx l c = s.ctx l c from rfl]
  split
  · rfl
  · split
    · rfl
    · exact State.endContext_withQueue s q l c p.cause

theorem State.resetContexts_withQueue (l : LaneNo) : (s.withQueue q).resetContexts l = (s.resetContexts l).withQueue q := by
  unfold State.resetContexts
  induction List.finRange 3 generalizing s with
  | nil => rfl
  | cons c cs ih => rw [List.foldl_cons, State.reachEnd_withQueue, ih, List.foldl_cons]

theorem State.disableLane_withQueue (l : LaneNo) : (s.withQueue q).disableLane l = (s.disableLane l).withQueue q := by
  unfold State.disableLane
  rw [State.answerWaiting_withQueue, State.resetContexts_withQueue]
  generalize State.resetContexts _ _ = t
  rfl

theorem State.linkDown_withQueue (l : LaneNo) : (s.withQueue q).linkDown l = (s.linkDown l).withQueue q := by
  unfold State.linkDown
  rw [show (s.withQueue q).onLane l Lane.cleared = (s.onLane l Lane.cleared).withQueue q from rfl,
    State.resetContexts_withQueue]
  generalize State.resetContexts _ _ = t
  rfl

theorem State.withdrawContext_withQueue (n : SlotNo) (l : LaneNo) (c : CtxNo) :
    (s.withQueue q).withdrawContext n l c = (s.withdrawContext n l c).withQueue q := by
  unfold State.withdrawContext
  rw [show (s.withQueue q).ctx l c = s.ctx l c from rfl]
  split
  · split
    · exact State.endContext_withQueue s q l c .revoked
    · rfl
  · split <;> rfl
  · split
    · exact State.endContext_withQueue s q l c .revoked
    · rfl
  · rfl

theorem State.withdrawLane_withQueue (n : SlotNo) (l : LaneNo) :
    (s.withQueue q).withdrawLane n l = (s.withdrawLane n l).withQueue q := by
  unfold State.withdrawLane
  rw [State.answerWaiting_withQueue]
  dsimp only
  rw [show (fun e : Entry => ((s.withQueue q).ctx l e.ctx).body.provingOn n) = fun e => (s.ctx l e.ctx).body.provingOn n
    from rfl]
  generalize s.answerWaiting l (fun e => (s.ctx l e.ctx).body.provingOn n) (.code .keyWithdrawn) = t
  induction List.finRange 3 generalizing t with
  | nil => rfl
  | cons c cs ih => rw [List.foldl_cons, State.withdrawContext_withQueue, ih, List.foldl_cons]

theorem State.withdrawMaster_withQueue (n : SlotNo) : (s.withQueue q).withdrawMaster n = (s.withdrawMaster n).withQueue q := by
  unfold State.withdrawMaster
  induction List.finRange 4 generalizing s with
  | nil => rfl
  | cons l ls ih => rw [List.foldl_cons, State.withdrawLane_withQueue, ih, List.foldl_cons]

theorem State.signingChangedAll_withQueue : (s.withQueue q).signingChangedAll = s.signingChangedAll.withQueue q := by
  unfold State.signingChangedAll
  induction List.finRange 4 generalizing s with
  | nil => rfl
  | cons l ls ih =>
    rw [List.foldl_cons, List.foldl_cons, ← ih]
    rw [show (s.withQueue q).settings l = s.settings l from rfl]
    split <;> rfl

theorem State.reformSigning_withQueue : (s.withQueue q).reformSigning = s.reformSigning.withQueue q := by
  unfold State.reformSigning
  rw [show (s.withQueue q).formSigning = s.formSigning from rfl, show (s.withQueue q).signing = s.signing from rfl]
  split
  · rfl
  · rw [← State.signingChangedAll_withQueue]
    rfl

theorem State.evaluate_withQueue : (s.withQueue q).evaluate = s.evaluate.withQueue q := by
  have step (ns : List SlotNo) (u : State) :
      ns.foldl (fun (t : State) n => t.requestStore (.writeSlot n)) (u.withQueue q) =
        (ns.foldl (fun (t : State) n => t.requestStore (.writeSlot n)) u).withQueue q := by
    induction ns generalizing u with
    | nil => rfl
    | cons n ns ih => rw [List.foldl_cons, State.requestStore_withQueue, ih, List.foldl_cons]
  obtain ⟨v, hv, hw⟩ : ∃ v, s.evaluateSlots = { s with slots := v }
      ∧ (s.withQueue q).evaluateSlots = State.withQueue { s with slots := v } q := ⟨_, rfl, rfl⟩
  unfold State.evaluate
  rw [show (s.withQueue q).clock = s.clock from rfl,
    show (s.withQueue q).evaluationChanges = s.evaluationChanges from rfl, hv, hw]
  clear hv hw
  dsimp only
  rw [step]
  split
  · rw [show State.overrunAfter (State.withQueue { s with slots := v } q) s.evaluationChanges =
      State.overrunAfter { s with slots := v } s.evaluationChanges from rfl]
    split <;> rfl
  · rfl

theorem State.withdraw_withQueue (n : SlotNo) (d : KeyData) :
    (s.withQueue q).withdraw n d = (s.withdraw n d).withQueue q := by
  unfold State.withdraw
  dsimp only
  rw [show (s.withQueue q).onSlot n (fun sl => { sl with body := .held .withdrawn d }) =
    (s.onSlot n fun sl => { sl with body := .held .withdrawn d }).withQueue q from rfl, State.requestStore_withQueue]
  split
  · rw [State.withdrawMaster_withQueue, State.eraseIfUnused_withQueue, State.reformSigning_withQueue]
  · rw [State.eraseIfUnused_withQueue, State.reformSigning_withQueue]

theorem State.applyTimeout_withQueue (l : LaneNo) (t : BitVec 16) :
    (s.withQueue q).applyTimeout l t = (s.applyTimeout l t).withQueue q := by
  unfold State.applyTimeout
  rw [show (s.withQueue q).lanes = s.lanes from rfl]
  split
  · dsimp only
    generalize hu : (s.onLane l fun ln =>
      { ln with linkDeadline := if t = 0 then none else some (s.lastFrameTick l + ticksOf t) }) = u
    have : ((s.withQueue q).onLane l fun ln =>
        { ln with linkDeadline := if t = 0 then none else some ((s.withQueue q).lastFrameTick l + ticksOf t) }) =
        u.withQueue q := by rw [← hu]; rfl
    rw [this, show (u.withQueue q).linkDeadlineReached l = u.linkDeadlineReached l from rfl]
    split
    · exact State.linkDown_withQueue u q l
    · rfl
  · rfl

/-! ### A request on a ready station -/

/-- On a ready station a request is executed at once: answered, it leaves the queue; else it stays EXECUTING (R154, R156). -/
theorem State.stationRequest_ready (h : s.StationReady) (k : StationKind) (tag : Byte) (body : List Byte) :
    (s.powered fun s => s.stationFrame fun t => t.stationRequest k tag body) =
      let e : StationEntry := { kind := k, tag := tag, body := body, executing := true, answered := false }
      let x := (s.stationFrameArrives.withQueue [e]).execute { e with executing := false }
      .next (match x.2 with
        | some r => x.1.answerExecuting r
        | none => x.1).driveAlerts := by
  obtain ⟨h1, h2, h3, h4⟩ := h
  have h4' : ¬ answerPlaces ≤ s.stationFrameArrives.station.placesHeld := by
    simp [Station.placesHeld, h3, answerPlaces] at *
    omega
  simp only [State.powered, h1, if_true, State.stationFrame, h4', if_false, State.stationRequest]
  simp only [State.stationFrameArrives_service, h2, if_false, State.stationFrameArrives_station, h3, stationQueueSize,
    State.runStation, State.withQueue_station, List.nil_append, List.length_cons, List.length_nil, State.runStationFor,
    if_true]
  rfl

/-- A request on a ready station that is answered in its step. -/
theorem State.stationRequest_answered (h : s.StationReady) (k : StationKind) (tag : Byte) (body : List Byte) (u : State)
    (r : Reply)
    (hx : ∀ q, (s.stationFrameArrives.withQueue q).execute
      { kind := k, tag := tag, body := body, executing := false, answered := false } = (u.withQueue q, some r))
    (hu : u.station.queue = []) :
    (s.powered fun s => s.stationFrame fun t => t.stationRequest k tag body) =
      .next (u.produce .station { kind := k.code, tag := tag, reply := r, serial := none }).driveAlerts := by
  have : u.withQueue [] = u := by
    rw [← hu]
    rfl
  rw [State.stationRequest_ready s h]
  dsimp only
  rw [hx]
  simp only [State.answerExecuting, State.withQueue_station, State.stationReply]
  rw [show ∀ q, (u.withQueue q).withQueue [] = u.withQueue [] from fun _ => rfl, this]

/-- A request on a ready station that stays EXECUTING. -/
theorem State.stationRequest_executing (h : s.StationReady) (k : StationKind) (tag : Byte) (body : List Byte) (u : State)
    (hx : (s.stationFrameArrives.withQueue
        [{ kind := k, tag := tag, body := body, executing := true, answered := false }]).execute
      { kind := k, tag := tag, body := body, executing := false, answered := false } = (u, none)) :
    (s.powered fun s => s.stationFrame fun t => t.stationRequest k tag body) = .next u.driveAlerts := by
  rw [State.stationRequest_ready s h]
  dsimp only
  rw [hx]

end Sys2Proof.Machine
end

