-- ==== Sys2Proof/Tests/Slice0.lean ====
section
/-! SUPPORT. Tests: the words of the table, the smoke test of WellFormed, the manual's worked examples, small steps of the commands,
and for every statement with hypotheses a state and operands that meet them. -/

namespace Sys2Proof.Tests

open Sys2Proof Sys2Proof.Machine

-- One theorem after another: kernel checks that wait for each other would each hold a thread.
set_option Elab.async false

/-! ### Small states -/

/-- A key of a slot. -/
def keyOf (role : Role) (issuer : Byte) (g : Gen) (a : Seconds) (e : Option Seconds) : KeyData :=
  { issuer := issuer, role := role, generation := g, activation := a, expiry := e, key := 1, check := 9 }

/-- A slot that holds a key. -/
def slotOf (st : HeldState) (d : KeyData) (refs : Nat) : Slot := { body := .held st d, refs := refs }

/-- A module in service at 1000 s: home issuer 30, a master key of issuer 5 in slot 3, a record key in slot 4, one route for
every tag to issuer 5. -/
def serving : State :=
  { State.reset with
    service := .serving
    loaded := true
    clock := { Clock.reset with timeValid := true, seconds := 1000, mono := 2000, trimSet := 0, trimFromConfig := false }
    slots := (State.reset.slots.set 3 (slotOf .active (keyOf .tagMaster 5 2 0 none) 0)).set 4
      (slotOf .active (keyOf .record 30 7 0 (some 5000)) 0)
    signing := some 7
    routes := State.reset.routes.set 0 { Route.cleared with enabled := true, mask := BitVec.allOnes 48, issuer := 5 }
    kfu := { State.reset.kfu with boot := some 41 }
    station := Station.fresh
    config := { WorkingConfig.defaults with items := { WorkingConfig.defaults.items with home := 30 } }
    flags := 0 }

/-- The occupancy of a tag. -/
def occupied : Occupancy :=
  { tagId := 0xABC, generation := 2, counter := 10, nonce := 3, issuer := 5, watch := true, strict := false, deadline := 2123 }

/-- A tag key and a challenge. -/
def proof : TagProof := { tagKey := 1, challenge := 2 }

/-- `s` with a context of ticket 1 in a state. -/
def withCtx (s : State) (l : LaneNo) (c : CtxNo) (b : CtxBody) : State :=
  s.onCtx l c fun x => { x with ticket := 1, body := b }

/-- `s` with a waiting entry on a lane. -/
def withEntry (s : State) (l : LaneNo) (c : CtxNo) (r : LaneReq) : State := s.appendEntry l r 7 c

/-- `s` with a job in flight for a context, whose entry is RUNNING. -/
def withJob (s : State) (l : LaneNo) (c : CtxNo) (r : LaneReq) (j : Job) : State :=
  State.setJob
    (s.onLane l fun ln =>
      { ln.onCtx c fun x => { x with inFlight := true } with
        queue := [{ serial := 0, req := r, tag := 7, ctx := c, phase := .running, discard := false }]
        nextSerial := 1 })
    j

/-- `s` after an update of one lane. -/
def withLane (s : State) (l : LaneNo) (f : Lane → Lane) : State := s.onLane l f

/-- `s` with a passage entry SEALED by lane 2 at 990 s with a counter, expiring at tick 9000. -/
def sealedAt (s : State) (counter : Counter) : State :=
  { s with
    table :=
      { entries := [{ tagId := 0xABC, lane := 2, counter := counter, body := .sealed 990 9000 1 }], sealCount := 1 } }

/-- Context 0 of lane 0 PROVED, with its claim. -/
def claimed : State :=
  { withCtx serving 0 0 (.proved occupied proof .new) with
    table := { entries := [{ tagId := 0xABC, lane := 0, counter := 10, body := .claimed 0 none }], sealCount := 0 } }

/-- An OPEN of lane 0 that runs. -/
def opening : State :=
  (withJob (withCtx serving 0 0 (.opening occupied 3)) 0 0 .openReq (.openJob 0 0 1 0xABC 2 5)).reference 3

/-- A PROVE of lane 0 that runs, with a response. -/
def proving (resp : Mac) : State :=
  (withJob (withCtx serving 0 0 (.proving occupied 3 proof)) 0 0 (.proveReq resp)
    (.proveJob 0 0 1 2 3 10 0xABC resp)).reference 3

/-- A SEAL of lane 0 that runs. -/
def sealing : State :=
  (withJob
    { withCtx serving 0 0 (.sealing occupied proof .new) with
      table := { entries := [{ tagId := 0xABC, lane := 0, counter := 10, body := .claimed 0 none }], sealCount := 0 } }
    0 0 (.sealReq 3 0x1234) (.sealJob 0 0 4 1 7 false 3 0x1234)).reference 4

/-- A load of a tag master key of generation 3 into slot 9. -/
def load (check : BitVec 32) : LoadReq :=
  { slot := 9, issuer := 5, role := .tagMaster, generation := 3, activation := 900, expiry := none, wrapped := 6, check := check }

/-- The body of that load. -/
def loadBody (slot issuer role generation : Byte) : List Byte :=
  [slot, issuer, role, 0, generation, 0, 0, 3, 0x84, 0xFF, 0xFF, 0xFF, 0xFF] ++ List.replicate 15 0 ++ [6, 0, 0, 0, 9]

/-- `s` with a station request executing. -/
def executing (s : State) (k : StationKind) (body : List Byte) : State :=
  s.withQueue [{ kind := k, tag := 7, body := body, executing := true, answered := false }]

/-- `s` with a store action in progress. -/
def storing (s : State) (a : StoreAct) (second : Bool) : State :=
  { s with store := { s.store with action := some a, second := second } }

/-- Six answers that wait at a port. -/
def answersHeld : List Answer := List.replicate 6 { kind := 5, tag := 0, reply := .code .ok, serial := none }

/-- The state a command answers. -/
def after (o : Host.Outcome State Fault Refusal) : State :=
  match o with
  | .next t => t
  | _ => State.reset

/-- The reply of the last answer of a port. -/
def lastReply (s : State) (p : Port) : Option Reply := (s.portOf p).answers.getLast?.map Answer.reply

/-! ### Words -/

/-- The table gives no row bits, so no word spells a command. -/
theorem test_no_word_spells_a_command : decodeTableWord 8 0 = none ∧ decodeTableWord 16 0x1234 = none := by decide

theorem test_fetch_word_leaves_the_queue : (State.reset.withFetchWord 8 1).pending = [] := rfl

/-! ### Well-formed commands -/

theorem smoke_body_too_long : (Instr.openReq 0 1 (List.replicate 60 0)).wellFormed = false := by decide

theorem smoke_body_fits : (Instr.openReq 0 1 (List.replicate 59 0)).wellFormed = true := by decide

theorem smoke_malformed_frame_that_is_none : (Instr.malformedFrame (.lane 0) 0x05 1 0 []).wellFormed = false := by decide

theorem smoke_malformed_frame_body_too_long :
    (Instr.malformedFrame .station 0x77 1 60 (List.replicate 60 0)).wellFormed = false := by decide

theorem smoke_malformed_frame : (Instr.malformedFrame (.lane 0) 0x10 1 0 []).wellFormed = true := by decide

theorem smoke_no_characters : (Instr.frameDiscarded .station []).wellFormed = false := by decide

/-! ### The manual's worked examples -/

/-- Section 1.8: dwell limits of 10, 120 and 500 ms are 11, 123 and 512 ticks. -/
theorem test_dwell_ticks : ticksOf 10 = 11 ∧ ticksOf 120 = 123 ∧ ticksOf 500 = 512 := by decide

/-- R190: timeouts of 50, 500 and 5000 ms are 52, 512 and 5120 ticks. -/
theorem test_link_timeout_ticks : ticksOf 50 = 52 ∧ ticksOf 500 = 512 ∧ ticksOf 5000 = 5120 := by decide

/-- R185: the CRC of the nine bytes "123456789" is 29B1 hex. -/
theorem test_crc_check_value : crc16 [0x31, 0x32, 0x33, 0x34, 0x35, 0x36, 0x37, 0x38, 0x39] = 0x29B1 := by decide +kernel

/-- Section 7.3: a trim of +21 inserts a pulse at 49,932, 149,796 and 2,047,219. -/
theorem test_trim_insertions :
    pulseWeight 21 49932 = 2 ∧ pulseWeight 21 149796 = 2 ∧ pulseWeight 21 2047219 = 2 ∧ pulseWeight 21 49931 = 1 := by
  decide +kernel

/-- R141: a trim of −128 deletes the pulses 8,192 and 24,576; a trim of 0 none. -/
theorem test_trim_deletions :
    pulseWeight 0x80 8192 = 0 ∧ pulseWeight 0x80 24576 = 0 ∧ pulseWeight 0x80 8193 = 1 ∧ pulseWeight 0 8192 = 1 := by
  decide +kernel

/-- The verdict of a tag whose entry stands SEALED with the counter 65535 (section 2.4). -/
def wrapVerdict (present : Counter) (strict : Bool) : Verdict :=
  ((sealedAt serving 0xFFFF).classify 0 0 0xABC present strict).2.verdict

/-- Section 2.4: the counters of the wrap table. -/
theorem test_wrap_table :
    wrapVerdict 0 false = .new ∧ wrapVerdict 1 false = .new ∧ wrapVerdict 32766 false = .new
      ∧ wrapVerdict 32767 false = .suspect ∧ wrapVerdict 65533 false = .suspect ∧ wrapVerdict 32767 true = .suspectHeld
      ∧ wrapVerdict 65534 false = .rereadUnwritten ∧ wrapVerdict 65535 true = .reread := by decide +kernel

/-- The routes of section 4.7, with route 12 of its tie. -/
def tieRoutes : Vector Route 32 :=
  (((Vector.replicate 32 Route.cleared).set 3
      { Route.cleared with enabled := true, compare := 0x284091C70000, mask := 0xFFFF, issuer := 12, minGen := 2 }).set 7
      { Route.cleared with enabled := true, compare := 0x284091C75A00, mask := 0xFF, issuer := 40, minGen := 5, watch := true }).set
    9 { Route.cleared with enabled := true, mask := 0xFFFFFFFFFFFF, strict := true }

/-- Section 4.7: routes 3, 7 and 9. -/
theorem test_route_results :
    routeLookup tieRoutes 0x284091C75A3E = { deny := false, watch := true, strict := true, issuer := some (40, 5) }
      ∧ routeLookup tieRoutes 0x284091C7613B = { deny := false, watch := false, strict := true, issuer := some (12, 2) }
      ∧ routeLookup tieRoutes 0x7700000000AA = { deny := false, watch := false, strict := true, issuer := none } := by
  decide +kernel

/-- Section 4.7, a tie: route 12 loses to route 7 at 40 cared bits and beats route 3. -/
theorem test_route_tie :
    let routes := tieRoutes.set 12
      { Route.cleared with enabled := true, compare := 0x284091C7003E, mask := 0xFF00, issuer := 55 }
    (routeLookup routes 0x284091C75A3E).issuer = some (40, 5) ∧ (routeLookup routes 0x284091C7613E).issuer = some (55, 1)
      ∧ (routeLookup routes 0x284091C7613B).issuer = some (12, 2) := by decide +kernel

/-- Section 11.6: bytes of the worked record. -/
theorem test_record_bytes :
    let b := TransitRecord.bytes
      { gantry := 0x0913, lane := 2, seconds := 0, fraction := 512, unsynchronised := false, tagId := 0, issuer := 0
        counter := 42, vehicleClass := 0, generation := 0, holdover := false, suspect := false, watch := false
        readerRef := 0 }
    b.length = 24 ∧ b.take 3 = [0x09, 0x13, 0x02] ∧ (b.drop 7).take 2 = [0x02, 0x00] ∧ (b.drop 16).take 2 = [0x00, 0x2A]
      ∧ b.getD 21 1 = 0 := by decide +kernel

/-- Section 5.8: the candidates at the completion of the PROVE of 2/1, with the unit free. -/
def candidates : State :=
  let e (n : Nat) (r : LaneReq) (c : CtxNo) : Entry :=
    { serial := n, req := r, tag := 0, ctx := c, phase := .waiting, discard := false }
  let s := withLane (withLane (withLane serving 0 fun ln => { ln with queue := [e 0 .openReq 1] }) 1
    fun ln => { ln with queue := [e 0 (.proveReq 0) 0] }) 3
    fun ln => { ln with queue := [e 0 (.sealReq 0 0) 2, e 1 (.proveReq 0) 0] }
  { s with kfu := { s.kfu with stepPointer := 2, admitPointer := 0 }, station := { s.station with load := some (load 0, 1740) } }

/-- The lane and context a choice names, 9 for a LOAD. -/
def placeOf : Choice → Nat × Nat
  | .step l e => (l.val, e.ctx.val)
  | .admitting l e => (l.val, e.ctx.val)
  | .load _ => (9, 9)

/-- Section 5.8: the SEAL of 3/2 is chosen first. -/
theorem test_arbitration_first : candidates.choose.map placeOf = some (3, 2) := by decide +kernel

/-- Section 5.8: with no STEP candidate the LOAD, promoted after 260 ticks, goes before the OPEN; one that has waited 200
ticks goes after it. -/
theorem test_arbitration_promotion :
    let s := withLane (withLane candidates 1 fun ln => { ln with queue := [] }) 3 fun ln => { ln with queue := [] }
    s.choose.map placeOf = some (9, 9)
      ∧ (State.choose { s with station := { s.station with load := some (load 0, 1800) } }).map placeOf = some (0, 1) := by
  decide +kernel

/-! ### Small steps -/

/-- The body of an OPEN of tag ABC hex, generation 2, counter 10, nonce 3. -/
def openBody : List Byte := [0, 0, 0, 0, 0x0A, 0xBC, 0, 2, 0, 10, 0, 0, 0, 3]

/-- OPEN taken: the job starts at once, the context is OPENING under ticket 1 with the deadline of 120 ms, and the master slot
has one reference. -/
theorem test_open_starts :
    let t := after (exec (.openReq 0 7 openBody) serving)
    (t.ctx 0 0).body = .opening { occupied with watch := false } 3 ∧ (t.ctx 0 0).ticket = 1 ∧ (t.ctx 0 0).inFlight = true
      ∧ t.slots[(3 : SlotNo)].refs = 1 ∧ (t.lanes[(0 : LaneNo)].queue.map Entry.phase) = [.running] := by
  decide +kernel

/-- The first step of the boot path: START_UP on a blank store leaves SEED_WAIT with the three losses latched (R178 to
R181). -/
theorem test_start_up_of_a_blank_store :
    let t := after (exec .startUp State.reset)
    t.service = .seedWait ∧ t.loaded = true ∧ t.flags = 0b1101 ∧ t.station.alert = true := by decide +kernel

/-- RESEED with 41 requests the boot record write at once and stays EXECUTING. -/
theorem test_reseed_requests_the_write :
    let t := after (exec (.reseed 1 [0, 0, 0, 41]) (after (exec .startUp State.reset)))
    t.store.action = some (.writeBoot 41) ∧ t.station.isExecuting .reseed = true := by decide +kernel

/-- Its completion brings the module into SERVING under 41, with SERVICE_CHANGED and the lane alerts, and the OK. -/
theorem test_reseed_completes :
    let t := after (exec .storeActionComplete (storing (executing { serving with service := .seedWait } .reseed [0, 0, 0, 41])
      (.writeBoot 41) false))
    t.service = .serving ∧ t.kfu.boot = some 41 ∧ lastReply t .station = some (.code .ok)
      ∧ t.lanes[(2 : LaneNo)].alert = true := by decide +kernel

/-- A SEAL's record counter is the tag's counter plus 1, and the entry stands SEALED for 60 × 1024 ticks (R21, R50). -/
theorem test_seal_completes :
    let t := after (exec .sealCompletion sealing)
    t.table.entries = [{ tagId := 0xABC, lane := 0, counter := 11, body := .sealed 1000 63440 1 }]
      ∧ (t.ctx 0 0).body = .free ∧ (t.ctx 0 0).endCause = .sealed ∧ t.slots[(4 : SlotNo)].refs = 0 := by decide +kernel

/-- The withdrawal of an unused key erases it at once, and the answer says ERASING (R84, R86). -/
theorem test_withdraw_unused :
    let t := after (exec (.withdrawKey 1 [3]) serving)
    t.slots[(3 : SlotNo)].state = .erasing ∧ lastReply t .station = some (.withdrawn .erasing 0)
      ∧ t.store.pending = [.eraseSlot 3] := by decide +kernel

/-- The withdrawal of the signing key leaves no current signing generation and SIGNING_CHANGED on the lanes (R78). -/
theorem test_withdraw_signer :
    let t := after (exec (.withdrawKey 1 [4]) serving)
    t.signing = none ∧ t.lanes[(1 : LaneNo)].notices.signingChanged = true := by decide +kernel

/-- A link expiry while an answer is sent cuts it off: 7D 7E at the lane rate, and the place is free (R189, R32). -/
theorem test_link_expiry_cuts_off :
    let s := withLane (serving.laneReply 0 5 1 (.code .ok)) 0 fun ln => { ln with linkDeadline := some 2000 }
    let t := after (exec (.linkExpiry 0) s)
    t.lanes[(0 : LaneNo)].port.tx = .cutOff [0x7D, 0x7E] .r460800 ∧ t.lanes[(0 : LaneNo)].port.answers = [] := by decide +kernel

/-- A STATUS with the mask 00 22 00 hex clears LANE_DOWN of lane 1 and the frame fault of lane 1 (section 11.8). -/
theorem test_status_clears :
    let t := after (exec (.statusReq 1 [0, 0x22, 0]) { serving with flags := 0x2201 })
    t.flags = 1 ∧ t.flag (.laneDown 1) = false ∧ Flag.mask (.laneDown 1) ||| Flag.mask (.frameFault (.lane 1)) = 0x2200 := by
  decide +kernel

/-- The second event after the last second of a fraction wrap: the seconds advance with the tick, the event is taken after
it (R72, R138). -/
theorem test_second_event :
    let s := { serving with clock := { serving.clock with fraction := 1023, seconds := 4999 } }
    let t := after (exec .fractionTick s)
    t.clock.seconds = 5000 ∧ t.clock.secondEvents = 1 ∧ t.slots[(4 : SlotNo)].state = .active
      ∧ (after (exec .secondEvent t)).slots[(4 : SlotNo)].state = .expired
      ∧ (after (exec .secondEvent t)).flag .keyOverrun = true := by decide +kernel

/-- The last-loss time captured at a power failure, and the monotonic count restarted at the power-on (R151, R152). -/
theorem test_power_cycle :
    let t := after (exec (.powerOn true) (after (exec (.mainPowerFail .beforeChange) serving)))
    t.clock.lastLoss = 1000 ∧ t.clock.lastLossValid = true ∧ t.clock.mono = 0 ∧ t.service = .starting
      ∧ t.clock.backupLow = true ∧ t.clock.timeValid = true := by decide +kernel

/-! ### Witnesses: what meets the hypotheses of each statement -/

theorem witness_StepExecutesFrontCommand : serving.pending = [] := rfl

theorem witness_AlertsFollowKept :
    ({ serving with pending := [.pollReq 0 1 []] } : State).AlertsFollow
      ∧ ∃ t, step { serving with pending := [.pollReq 0 1 []] } = .next t :=
  ⟨⟨by decide +kernel, by decide +kernel⟩, _, rfl⟩

theorem claimed_claims_match : claimed.ClaimsMatch := by
  unfold State.ClaimsMatch
  decide +kernel

theorem witness_TableSoundKept :
    ({ claimed with pending := [.dropReq 0 1 [0, 1]] } : State).TableSound
      ∧ ∃ t, step { claimed with pending := [.dropReq 0 1 [0, 1]] } = .next t :=
  ⟨⟨by unfold Table.Ordered; decide +kernel, by decide +kernel, claimed_claims_match⟩, _, rfl⟩

/-- A store with a write in progress and another one waiting. -/
def storeBusy : State :=
  let s := storing serving (.writeBoot 42) false
  { s with store := { s.store with pending := [.writeSlot 4] }, pending := [.storeActionComplete] }

theorem witness_StoreListKept : storeBusy.store.ListSound ∧ ∃ t, step storeBusy = .next t :=
  ⟨⟨by decide +kernel, by decide +kernel⟩, _, rfl⟩

theorem opening_refs_sound : opening.RefsSound := by
  refine ⟨⟨by decide +kernel, ?_⟩, ⟨by decide +kernel, by decide +kernel⟩, by decide +kernel⟩
  intro j l c hj ho
  obtain rfl : Job.openJob 0 0 1 0xABC 2 5 = j := Option.some.inj hj
  obtain ⟨rfl, rfl⟩ : (0, 0) = (l, c) := Option.some.inj ho
  decide +kernel

theorem witness_QueuesSoundKept :
    ({ opening with pending := [.openCompletion] } : State).QueuesSound
      ∧ ∃ t, step { opening with pending := [.openCompletion] } = .next t := by
  refine ⟨⟨?_, ?_, opening_refs_sound.1, opening_refs_sound.2.1, ?_⟩, _, rfl⟩
  · unfold Lane.QueueSound Lane.EntriesSound
    decide +kernel
  · unfold Station.QueueSound
    decide +kernel
  · unfold State.LoadSound
    decide +kernel

theorem witness_ReferenceCountsKept :
    ({ opening with pending := [.openCompletion] } : State).RefsSound
      ∧ ∃ t, step { opening with pending := [.openCompletion] } = .next t :=
  ⟨opening_refs_sound, _, rfl⟩

theorem witness_SlotsMoveForward :
    ∃ t, exec (.withdrawKey 1 [3]) serving = .next t ∧ serving.power = true ∧ t.power = true
      ∧ Instr.withdrawKey 1 [3] ≠ .startUp ∧ ∀ req k, serving.kfu.job = some (.loadJob req k) → req.slot ≠ 3 :=
  ⟨_, rfl, by decide +kernel, by decide +kernel, by decide, fun _ _ h => nomatch h⟩

/-- A RESET whose answer is being sent. -/
def resetting : State := after (exec (.resetReq 7 []) serving)

/-- The STARTING module with its first boot record write in progress. -/
def starting : State := storing { State.reset with loaded := true } (.writeBoot 42) false

/-- The module in SEED_WAIT with a RESEED executing. -/
def reseeding : State := storing (executing { serving with service := .seedWait } .reseed [0, 0, 0, 42]) (.writeBoot 42) false

theorem witness_ServiceStateMoves_reset :
    resetting.StartSound ∧ ∃ t, exec (.answerTransmitted .station) resetting = .next t ∧ resetting.power = true
      ∧ t.power = true ∧ t.service ≠ resetting.service :=
  ⟨⟨by decide +kernel, by decide +kernel⟩, _, rfl, by decide +kernel, by decide +kernel, by decide +kernel⟩

theorem witness_ServiceStateMoves_boot_written :
    starting.StartSound ∧ ∃ t, exec .storeActionComplete starting = .next t ∧ starting.power = true
      ∧ t.power = true ∧ t.service ≠ starting.service :=
  ⟨⟨by decide +kernel, by decide +kernel⟩, _, rfl, by decide +kernel, by decide +kernel, by decide +kernel⟩

theorem witness_ServiceStateMoves_start_up :
    State.reset.StartSound ∧ ∃ t, exec .startUp State.reset = .next t ∧ State.reset.power = true
      ∧ t.power = true ∧ t.service ≠ State.reset.service :=
  ⟨⟨by decide +kernel, by decide +kernel⟩, _, rfl, by decide +kernel, by decide +kernel, by decide +kernel⟩

/-- An OPEN that runs under the last boot count and the last challenge sequence. -/
def lastOpening : State := { opening with kfu := { opening.kfu with boot := some 0xFFFFFFFF, sequence := 0xFFFFFFFF } }

theorem witness_ServiceStateMoves_exhaustion :
    lastOpening.StartSound ∧ ∃ t, exec .openCompletion lastOpening = .next t ∧ lastOpening.power = true
      ∧ t.power = true ∧ t.service ≠ lastOpening.service :=
  ⟨⟨by decide +kernel, by decide +kernel⟩, _, rfl, by decide +kernel, by decide +kernel, by decide +kernel⟩

theorem witness_ServiceStateMoves_reseed :
    reseeding.StartSound ∧ ∃ t, exec .storeActionComplete reseeding = .next t ∧ reseeding.power = true
      ∧ t.power = true ∧ t.service ≠ reseeding.service :=
  ⟨⟨by decide +kernel, by decide +kernel⟩, _, rfl, by decide +kernel, by decide +kernel, by decide +kernel⟩

/-- The module with main power off. -/
def off : State := after (exec (.mainPowerFail .beforeChange) serving)

theorem witness_ServiceStateMoves_power_on : off.power = false ∧ ∃ t, exec (.powerOn false) off = .next t :=
  ⟨by decide +kernel, _, rfl⟩

theorem witness_FrameRoundTrip :
    ([0x7E, 0x7D] : List Byte).length ≤ maxBody ∧ (List.replicate 59 (0 : Byte)).length ≤ maxBody
      ∧ (serving.portOf (.lane 0)).rx = .hunt ∧ Rx.opened = Rx.opened := by decide +kernel

theorem witness_RequestFrameReceivedIsItsRow :
    (Instr.openReq 3 0x7E openBody).request = some (.lane 3, 0x01, 0x7E, openBody) ∧ openBody.length ≤ maxBody
      ∧ ((serving.portOf (.lane 3)).rx = .hunt ∨ (serving.portOf (.lane 3)).rx = Rx.opened) := by decide +kernel

theorem witness_ReceiverFollowsTable :
    (0x5D : Byte) ≠ 0x7E ∧ (0x5D : Byte) ≠ 0x7D ∧ ((0x5D : Byte) = 0x5E ∧ (0x7D : Byte) = 0x7E ∨ (0x5D : Byte) = 0x5D ∧ (0x7D : Byte) = 0x7D)
      ∧ (0x5C : Byte) ≠ 0x5E ∧ (0x5C : Byte) ≠ 0x5D ∧ (0x5C : Byte) ≠ 0x7E := by decide

/-- A flag and one byte, then a character error (lane 2); a frame of 64 bytes and a 65th (station). -/
theorem witness_DiscardsAndAbortsAtThePort :
    (serving.power = true
      ∧ (rxRun (serving.portOf (.lane 2)).rx [.byte 0x7E, .byte 1]).1 = .assemble [1] false
      ∧ (∀ e ∈ (rxRun (serving.portOf (.lane 2)).rx [.byte 0x7E, .byte 1]).2, e = .quiet)
      ∧ rxStep (.assemble [1] false) .error = (.hunt, .fault))
    ∧ (rxRun (serving.portOf .station).rx (.byte 0x7E :: List.replicate 64 (.byte 1))).1 = .assemble (List.replicate 64 1) false
      ∧ (∀ e ∈ (rxRun (serving.portOf .station).rx (.byte 0x7E :: List.replicate 64 (.byte 1))).2, e = .quiet)
      ∧ rxStep (.assemble (List.replicate 64 1) false) (.byte 1) = (.hunt, .fault) := by decide +kernel

theorem serving_lane_ready : serving.LaneReady 0 ∧ serving.LaneReady 3 := by
  unfold State.LaneReady
  decide +kernel

theorem serving_station_ready : serving.StationReady := by
  unfold State.StationReady
  decide +kernel

theorem witness_MalformedFrameAnswered :
    serving.LaneReady 0 ∧ ((2 : Byte).toNat ≠ ([] : List Byte).length ∨ (0x05 : Byte) ∉ ([0x01, 0x02, 0x03, 0x04, 0x05] : List Byte))
      ∧ ((0 : Byte).toNat ≠ ([] : List Byte).length ∨ (0x06 : Byte) ∉ ([0x01, 0x02, 0x03, 0x04, 0x05] : List Byte))
      ∧ serving.power = true ∧ serving.station.placesHeld < 6
      ∧ ((0 : Byte).toNat ≠ ([] : List Byte).length
        ∨ (0x16 : Byte) ∉ ([0x10, 0x11, 0x12, 0x13, 0x14, 0x15, 0x20, 0x21, 0x22, 0x28, 0x29, 0x30, 0x38, 0x39, 0x3A] : List Byte)) :=
  ⟨serving_lane_ready.1, by decide +kernel⟩

/-- All six places held at a lane port, of them one by a waiting entry, and at the station port. -/
def crowded : State :=
  let s := withEntry (withLane serving 1 fun ln => { ln with port := { ln.port with answers := answersHeld.take 5 } }) 1 0 .openReq
  { s with station := { s.station with port := { s.station.port with answers := answersHeld } } }

theorem witness_FullAnswerQueueDiscards :
    (Instr.pollReq 1 9 []).request = some (.lane 1, 0x05, 9, []) ∧ crowded.power = true ∧ 6 ≤ crowded.lanes[(1 : LaneNo)].placesHeld
      ∧ (Instr.statusReq 9 [0, 0, 0]).request = some (.station, 0x10, 9, [0, 0, 0]) ∧ 6 ≤ crowded.station.placesHeld
      ∧ (Instr.malformedFrame (.lane 1) 0x05 9 1 []).wellFormed = true ∧ (Instr.malformedFrame .station 0x77 9 0 []).wellFormed = true := by
  decide +kernel

theorem witness_FrameArrival :
    serving.config.lanes[(0 : LaneNo)].linkTimeout ≠ 0
      ∧ ({ serving.config.lanes[(0 : LaneNo)] with linkTimeout := 0 } : LaneSettings).linkTimeout = 0 := by decide +kernel

theorem witness_AnswersQueueInOrder :
    (serving.portOf (.lane 0)).answers = [] ∧ (crowded.portOf .station).answers ≠ []
      ∧ (∃ a rest, crowded.lanes[(1 : LaneNo)].port.answers = a :: rest)
      ∧ ∃ a rest, crowded.station.port.answers = a :: rest ∧ ¬ (a.kind = 0x15 ∧ a.reply = .code .ok) := by
  refine ⟨by decide +kernel, by decide +kernel, ⟨_, _, rfl⟩, _, _, rfl, by decide⟩

theorem witness_AnswerBodiesLaidOut :
    ((Code.valueRange, 0x2A) ∈ [(Code.routeRange, 0x29), (.valueRange, 0x2A)]
      ∧ (SlotState.erasing, 6) ∈ [(SlotState.withdrawn, 5), (.erasing, 6)])
      ∧ serving.lanes[(0 : LaneNo)].notices.count < 256 ∧ tableSize < 65536 ∧ (3600 : Nat) < 65536 := by decide +kernel

/-! The refusals, one state for each. -/

/-- A lane with its queue full of other requests' entries that have been answered. -/
def fullQueue (s : State) (l : LaneNo) : State :=
  withLane s l fun ln =>
    { ln with queue := List.replicate 4 { serial := 0, req := .openReq, tag := 0, ctx := 2, phase := .answered, discard := false } }

theorem witness_LaneRequestsRefusedInOrder_open :
    State.reset.openRefusal 0 none = some .notReady
      ∧ ({ serving with service := .seedWait } : State).openRefusal 0 none = some .seedRequired
      ∧ (serving.setSettings 0 { enabled := false, dwell := 10, linkTimeout := 0 }).openRefusal 0 none = some .laneOff
      ∧ serving.openRefusal 0 (readOpen []) = some .malformed
      ∧ (fullQueue serving 0).openRefusal 0 (readOpen openBody) = some .busy
      ∧ (withCtx (withCtx (withCtx serving 0 0 (.opening occupied 3)) 0 1 (.opening occupied 3)) 0 2
          (.opening occupied 3)).openRefusal 0 (readOpen openBody) = some .noContext
      ∧ ({ serving with routes := serving.routes.set 1 { serving.routes[(0 : RouteNo)] with deny := true } } : State).openRefusal 0
          (readOpen openBody) = some .denied
      ∧ ({ serving with routes := State.reset.routes } : State).openRefusal 0 (readOpen openBody) = some .unrouted
      ∧ ({ serving with slots := State.reset.slots } : State).openRefusal 0 (readOpen openBody) = some .unknownGeneration
      ∧ (fullQueue serving 0).LaneReady 0 ∧ serving.LaneReady 0 ∧ State.reset.LaneReady 0 := by
  unfold State.LaneReady
  decide +kernel

theorem witness_LaneRequestsRefusedInOrder_step :
    let opened (b : CtxBody) : Bool := match b with | .opened _ _ _ => true | _ => false
    let proved (b : CtxBody) : Bool := match b with | .proved _ _ _ => true | _ => false
    State.reset.stepRefusal 0 none opened = some .notReady
      ∧ serving.stepRefusal 0 ((readProve []).map fun a => (a.ctx, a.ticket)) opened = some .malformed
      ∧ serving.stepRefusal 0 ((readProve (2 :: 0 :: List.replicate 8 0)).map fun a => (a.ctx, a.ticket)) opened = some .stale
      ∧ (withCtx serving 0 0 (.opened occupied 3 proof)).stepRefusal 0 ((readSeal [0x0F, 1, 0, 0]).map fun a => (a.ctx, a.ticket))
          proved = some .wrongState
      ∧ (withEntry (withCtx serving 0 0 (.opening occupied 3)) 0 0 .openReq).stepRefusal 0
          ((readProve (0 :: 1 :: List.replicate 8 0)).map fun a => (a.ctx, a.ticket)) opened = some .inProgress
      ∧ (fullQueue (withCtx serving 0 0 (.opened occupied 3 proof)) 0).stepRefusal 0
          ((readProve (0 :: 1 :: List.replicate 8 0)).map fun a => (a.ctx, a.ticket)) opened = some .busy
      ∧ (fullQueue (withCtx serving 0 0 (.opened occupied 3 proof)) 0).LaneReady 0 := by
  unfold State.LaneReady
  decide +kernel

theorem witness_LaneBodiesRead :
    (2 : Byte).toNat < 3 ∧ 2 < (3 : Byte).toNat ∧ (0x8F : Byte).toNat / 64 < 3 ∧ (0x8F : Byte).toNat % 64 ≤ 15
      ∧ (0xC0 : Byte).toNat / 64 = 3 ∧ 15 < (0x10 : Byte).toNat % 64 ∧ ([] : List Byte).length ≠ 14 := by decide

/-- An OPEN that context 0 takes, and one that context 1 takes while context 0 is held. -/
theorem witness_OpenTaken :
    let second := withCtx serving 0 0 (.opening occupied 3)
    masterSelection serving.slots 5 1 2 = .ok 3 ∧ serving.LaneReady 0 ∧ second.LaneReady 0
      ∧ (serving.service = .serving ∧ serving.config.lanes[(0 : LaneNo)].enabled = true
        ∧ readOpen openBody = some { tagId := 0xABC, generation := 2, counter := 10, nonce := 3 }
        ∧ serving.lanes[(0 : LaneNo)].queue.length < 4 ∧ second.lanes[(0 : LaneNo)].queue.length < 4)
      ∧ ((second.ctx 0 1).body = .free ∧ ∀ d : CtxNo, d < 1 → (second.ctx 0 d).body ≠ .free)
      ∧ ((serving.ctx 0 0).body = .free ∧ ∀ d : CtxNo, d < 0 → (serving.ctx 0 d).body ≠ .free)
      ∧ (routeLookup serving.routes 0xABC).deny = false ∧ (routeLookup serving.routes 0xABC).issuer = some (5, 1) := by
  refine ⟨rfl, ?_⟩
  unfold State.LaneReady
  decide +kernel

/-- A PROVE and a SEAL that can be taken, at context 2 and at context 0 of lane 0. -/
theorem witness_ProveAndSealTaken :
    let s := withCtx (withCtx serving 0 2 (.opened occupied 3 proof)) 0 0 (.proved occupied proof .suspect)
    s.LaneReady 0 ∧ s.service ≠ .starting ∧ s.config.lanes[(0 : LaneNo)].enabled = true
      ∧ readProve [2, 1, 0, 0, 0, 0, 0, 0, 0, 9] = some { ctx := 2, ticket := 1, response := 9 }
      ∧ readSeal [0x0F, 1, 0, 8] = some { ctx := 0, ticket := 1, vehicleClass := 15, readerRef := 8 }
      ∧ (s.ctx 0 2).ticket = 1 ∧ (s.ctx 0 2).body = .opened occupied 3 proof
      ∧ (s.ctx 0 0).ticket = 1 ∧ (s.ctx 0 0).body = .proved occupied proof .suspect
      ∧ (∀ e ∈ s.lanes[(0 : LaneNo)].queue, e.ctx = 2 → e.phase = .answered) ∧ s.lanes[(0 : LaneNo)].queue.length < 4 := by
  unfold State.LaneReady
  decide +kernel

theorem witness_OutsideEnding :
    (serving.ctx 0 0).body = .free
      ∧ ((withCtx serving 0 0 (.opened occupied 3 proof)).ctx 0 0).body = .opened occupied 3 proof
      ∧ ((withCtx serving 0 0 (.opened occupied 3 proof)).ctx 0 0).inFlight = false
      ∧ (opening.ctx 0 0).body = .opening occupied 3 ∧ (opening.ctx 0 0).inFlight = true
      ∧ ((withCtx serving 0 0 (.proving occupied 3 proof)).ctx 0 0).body = .proving occupied 3 proof
      ∧ ((withCtx serving 0 0 (.proving occupied 3 proof)).ctx 0 0).inFlight = false := by decide +kernel

theorem witness_DropServed :
    State.reset.LaneReady 0 ∧ State.reset.service = .starting ∧ readDrop [3, 0] = none
      ∧ serving.LaneReady 0 ∧ serving.service ≠ .starting ∧ readDrop [2, 0] = some { ctx := 2, ticket := 0 }
      ∧ (serving.ctx 0 2).body = .free ∧ ((withCtx serving 0 2 (.opened occupied 3 proof)).ctx 0 2).ticket = 1
      ∧ ((withCtx serving 0 2 (.opened occupied 3 proof)).ctx 0 2).body ≠ .free
      ∧ (withCtx serving 0 2 (.opened occupied 3 proof)).LaneReady 0 := by
  unfold State.LaneReady
  decide +kernel

/-- The notices of lane 0: CONTEXT_LOST of context 2 alone, SERVICE_CHANGED, SIGNING_CHANGED, none; a module in STARTING, and a
body that is not empty. -/
theorem witness_PollServed :
    let lost := serving.addLost 0 2 { ticket := 4, cause := .expired }
    let service := serving.addServiceChanged 0
    let signing := withLane serving 0 fun ln => { ln with notices := { Notices.empty with signingChanged := true } }
    let notices (s : State) := (s.laneFrameArrives 0).lanes[(0 : LaneNo)].notices
    lost.LaneReady 0 ∧ lost.service ≠ .starting ∧ (notices lost).lost[(2 : CtxNo)] = some { ticket := 4, cause := .expired }
      ∧ (∀ d : CtxNo, d < 2 → (notices lost).lost[d] = none)
      ∧ service.LaneReady 0 ∧ (∀ c : CtxNo, (notices service).lost[c] = none) ∧ (notices service).serviceChanged = true
      ∧ signing.LaneReady 0 ∧ (∀ c : CtxNo, (notices signing).lost[c] = none) ∧ (notices signing).serviceChanged = false
      ∧ (notices signing).signingChanged = true ∧ (notices serving).signingChanged = false
      ∧ State.reset.LaneReady 0 ∧ State.reset.service = .starting ∧ serving.LaneReady 0 ∧ ([0] : List Byte) ≠ [] := by
  unfold State.LaneReady
  decide +kernel

theorem witness_ContextExpires :
    let s := withCtx serving 0 0 (.opened { occupied with deadline := 2000 } 3 proof)
    (s.ctx 0 0).body.occupancy = some { occupied with deadline := 2000 } ∧ 2000 ≤ s.clock.mono
      ∧ ((withCtx serving 0 0 (.opened { occupied with deadline := 2001 } 3 proof)).ctx 0 0).body.occupancy
          = some { occupied with deadline := 2001 } ∧ s.clock.mono < 2001 := by decide +kernel

theorem witness_LinkExpires :
    let s (d : Option Nat) := withLane serving 0 fun ln => { ln with linkDeadline := d }
    (s (some 2000)).lanes[(0 : LaneNo)].linkUp = true ∧ (s (some 2000)).lanes[(0 : LaneNo)].linkDeadline = some 2000
      ∧ 2000 ≤ (s (some 2000)).clock.mono ∧ (s (some 2001)).clock.mono < 2001
      ∧ (withLane serving 0 Lane.cleared).lanes[(0 : LaneNo)].linkUp = false := by decide +kernel

/-- The differences at the bounds of each clause: an absent entry, a CLAIMED one, and 0, 1, 32767, 32768, 65534, 65535. -/
theorem witness_ClassifyFollowsTable :
    let e (counter : Counter) : Passage := { tagId := 0xABC, lane := 2, counter := counter, body := .sealed 990 9000 1 }
    let d (e : Passage) : Nat := ((100 : Counter).toNat + 65536 - e.counter.toNat) % 65536
    serving.table.find 0xABC = none
      ∧ claimed.table.find 0xABC = some { tagId := 0xABC, lane := 0, counter := 10, body := .claimed 0 none }
      ∧ (∀ k : Fin 6, ∀ c : Counter, c = ([100, 99, 32869, 32868, 102, 101] : List Counter).getD k 0 →
          (sealedAt serving c).table.find 0xABC = some (e c))
      ∧ d (e 100) = 0 ∧ d (e 99) = 1 ∧ d (e 32869) = 32767 ∧ d (e 32868) = 32768 ∧ d (e 102) = 65534 ∧ d (e 101) = 65535 := by
  refine ⟨by decide +kernel, by decide +kernel, fun k c h => ?_, by decide +kernel⟩
  subst h
  revert k
  decide +kernel

/-- A full table: 256 entries, of them one SEALED (the last). -/
def fullTable : State :=
  { serving with
    table :=
      { entries :=
          (List.range 255).map (fun n =>
            { tagId := BitVec.ofNat 48 n, lane := 0, counter := 0, body := .claimed 0 none })
            ++ [{ tagId := 0xABC, lane := 2, counter := 9, body := .sealed 990 9000 1 }]
        sealCount := 1 } }

theorem witness_EvictionAndTableOperations_full :
    serving.table.entries.length < 256 ∧ 256 ≤ fullTable.table.entries.length
      ∧ ({ tagId := 0xABC, lane := 2, counter := 9, body := .sealed 990 9000 1 } : Passage) ∈ fullTable.table.entries := by
  refine ⟨by decide +kernel, by decide +kernel, ?_⟩
  exact List.mem_append_right _ (List.mem_singleton.mpr rfl)

theorem witness_EvictionAndTableOperations_put :
    (sealedAt serving 9).table.Ordered ∧ ((sealedAt serving 9).table.find 0xABC).isSome = true
      ∧ (sealedAt serving 9).table.find 0xABD = none ∧ (0xABD : TagId) ≠ 0xABC := by
  unfold Table.Ordered
  decide +kernel

theorem witness_ClaimsReleasedAndEntriesExpire :
    let laid (expiry : Nat) : Passage :=
      { tagId := 0xABC, lane := 0, counter := 10
        body := .claimed 0 (some { counter := 9, sealTime := 990, expiry := expiry, lane := 2, number := 1 }) }
    let s (expiry : Nat) : State := { claimed with table := { entries := [laid expiry], sealCount := 1 } }
    claimed.table.claimOf 0 0 = some { tagId := 0xABC, lane := 0, counter := 10, body := .claimed 0 none }
      ∧ (s 2001).table.claimOf 0 0 = some (laid 2001) ∧ (s 2001).clock.mono < 2001
      ∧ (s 2000).table.claimOf 0 0 = some (laid 2000) ∧ 2000 ≤ (s 2000).clock.mono
      ∧ (sealedAt serving 9).table.find 0xABC = some { tagId := 0xABC, lane := 2, counter := 9, body := .sealed 990 9000 1 }
      ∧ (sealedAt serving 9).clock.mono < 9000
      ∧ 9000 ≤ ({ sealedAt serving 9 with clock := { serving.clock with mono := 9000 } } : State).clock.mono
      ∧ serving.table.find 0xABC = none := by decide +kernel

/-- Section 5.8's candidates: the lanes 1 and 3 have STEP candidates and lane 0 an ADMIT candidate, in rotation from 2. -/
theorem witness_ArbiterChoosesByClassAndLane :
    let step (s : State) (l : LaneNo) : Option Entry :=
      s.lanes[l].queue.find? fun e => e.phase == .waiting && e.req.kind != .openReq
    let openEntry (s : State) (l : LaneNo) : Option Entry :=
      if s.kfu.admitHold then none else s.lanes[l].queue.find? fun e => e.phase == .waiting && e.req.kind == .openReq
    let rank (p l : LaneNo) : Nat := (l.val + 4 - p.val) % 4
    let noSteps := withLane (withLane candidates 1 fun ln => { ln with queue := [] }) 3 fun ln => { ln with queue := [] }
    let fresh := { noSteps with station := { noSteps.station with load := some (load 0, 1745) } }
    let due := { noSteps with station := { noSteps.station with load := some (load 0, 1744) } }
    candidates.config.items.mode = .rotating ∧ (step candidates 3).isSome = true
      ∧ (∀ k, (step candidates k).isSome = true → rank candidates.kfu.stepPointer 3 ≤ rank candidates.kfu.stepPointer k)
      ∧ (∀ l, step noSteps l = none) ∧ due.station.load = some (load 0, 1744) ∧ 256 ≤ due.clock.mono - 1744
      ∧ fresh.station.load = some (load 0, 1745) ∧ ¬ 256 ≤ fresh.clock.mono - 1745
      ∧ (openEntry fresh 0).isSome = true
      ∧ (∀ k, (openEntry fresh k).isSome = true → rank fresh.kfu.admitPointer 0 ≤ rank fresh.kfu.admitPointer k)
      ∧ (∀ l, openEntry ({ fresh with kfu := { fresh.kfu with admitHold := true } } : State) l = none)
      ∧ (∀ l, step serving l = none ∧ openEntry serving l = none) ∧ serving.station.load = none := by decide +kernel

theorem witness_ArbiterChoosesUntilBusyOrIdle :
    opening.kfu.job.isSome = true ∧ serving.kfu.job = none ∧ serving.choose = none
      ∧ candidates.kfu.job = none ∧ ∃ ch, candidates.choose = some ch :=
  ⟨by decide +kernel, rfl, by decide +kernel, rfl, Option.isSome_iff_exists.mp (by decide +kernel)⟩

/-- `serving` with the master slot in another state. -/
def masterIn (st : HeldState) : State :=
  { serving with slots := serving.slots.set 3 (slotOf st (keyOf .tagMaster 5 2 0 none) 1) }

theorem witness_JobsStart :
    let entry (r : LaneReq) : Entry := { serial := 0, req := r, tag := 7, ctx := 0, phase := .waiting, discard := false }
    let opens (s : State) := withEntry (withCtx s 0 0 (.opening occupied 3)) 0 0 .openReq
    let proves := withEntry (withCtx serving 0 0 (.proving occupied 3 proof)) 0 0 (.proveReq 4)
    let seals (s : State) := withEntry (withCtx s 0 0 (.sealing occupied proof .new)) 0 0 (.sealReq 3 8)
    entry .openReq ∈ (opens (masterIn .active)).lanes[(0 : LaneNo)].queue
      ∧ ((opens (masterIn .active)).ctx 0 0).body = .opening occupied 3
      ∧ (masterIn .active).slots[(3 : SlotNo)].body = .held .active (keyOf .tagMaster 5 2 0 none)
      ∧ (masterIn .withdrawn).slots[(3 : SlotNo)].body = .held .withdrawn (keyOf .tagMaster 5 2 0 none)
      ∧ (masterIn .expired).slots[(3 : SlotNo)].body = .held .expired (keyOf .tagMaster 5 2 0 none)
      ∧ entry (.proveReq 4) ∈ proves.lanes[(0 : LaneNo)].queue ∧ (proves.ctx 0 0).body = .proving occupied 3 proof
      ∧ entry (.sealReq 3 8) ∈ (seals serving).lanes[(0 : LaneNo)].queue
      ∧ ((seals serving).ctx 0 0).body = .sealing occupied proof .new
      ∧ (seals serving).signingSelection = some { slot := 4, key := 1, generation := 7, holdover := false }
      ∧ (seals { serving with slots := State.reset.slots }).signingSelection = none := by decide +kernel

theorem witness_OpenCompletes :
    opening.kfu.job = some (.openJob 0 0 1 0xABC 2 5) ∧ (opening.ctx 0 0).body = .opening occupied 3
      ∧ opening.kfu.boot = some 41 ∧ (opening.ctx 0 0).pendingEnd = none ∧ opening.kfu.sequence ≠ 0xFFFFFFFF
      ∧ ((opening.recordPending 0 0 .revoked).ctx 0 0).pendingEnd = some .revoked
      ∧ lastOpening.kfu.job = some (.openJob 0 0 1 0xABC 2 5) ∧ (lastOpening.ctx 0 0).body = .opening occupied 3
      ∧ lastOpening.kfu.boot = some 0xFFFFFFFF ∧ lastOpening.kfu.sequence = 0xFFFFFFFF
      ∧ (lastOpening.ctx 0 0).pendingEnd = none
      ∧ ((lastOpening.recordPending 0 0 .dropped).ctx 0 0).pendingEnd = some .dropped := by decide +kernel

theorem differs {n : Nat} (x : BitVec (n + 1)) : x ≠ ~~~x := by
  intro h
  have := congrArg BitVec.msb h
  simp at this

/-- The response that matches and one that differs, a table that gives NEW and one that gives REREAD, with and without a
pending end. -/
theorem witness_ProveCompletes :
    let good : Mac := response 1 2 3 10 0xABC
    let base (s : State) : State :=
      (State.onCtx { s with kfu := { s.kfu with job := none } } 0 0 fun _ => { s.ctx 0 0 with inFlight := false }).release 3
    (proving good).kfu.job = some (.proveJob 0 0 1 2 3 10 0xABC good)
      ∧ (proving good).ctx 0 0 = { ticket := 1, body := .proving occupied 3 proof, inFlight := true, pendingEnd := none, endCause := .laneReset }
      ∧ response 1 2 3 10 0xABC ≠ ~~~good
      ∧ ((base (proving good)).classify 0 0 occupied.tagId occupied.counter occupied.strict).2.verdict = .new
      ∧ ((base (sealedAt (proving good) 10)).classify 0 0 occupied.tagId occupied.counter occupied.strict).2.verdict = .reread
      ∧ ((base (sealedAt (proving good) 11)).classify 0 0 occupied.tagId occupied.counter false).2.verdict = .rereadUnwritten
      ∧ ((base (sealedAt (proving good) 12)).classify 0 0 occupied.tagId occupied.counter false).2.verdict = .suspect
      ∧ (((proving good).recordPending 0 0 .expired).ctx 0 0).pendingEnd = some .expired :=
  ⟨rfl, rfl, differs _, by decide +kernel, by decide +kernel, by decide +kernel, by decide +kernel, by decide +kernel⟩

theorem witness_SealCompletes :
    sealing.kfu.job = some (.sealJob 0 0 4 1 7 false 3 0x1234) ∧ (sealing.ctx 0 0).body = .sealing occupied proof .new
      ∧ sealing.table.claimOf 0 0 = some { tagId := 0xABC, lane := 0, counter := 10, body := .claimed 0 none } := by
  decide +kernel

theorem witness_LoadCompletes :
    let good := checkValue ((Config.blockFunction 2).symm 6)
    let s (check : BitVec 32) := State.setJob serving (.loadJob (load check) 2)
    (s good).kfu.job = some (.loadJob (load good) 2)
      ∧ checkValue ((Config.blockFunction 2).symm (load good).wrapped) = (load good).check
      ∧ (s (~~~good)).kfu.job = some (.loadJob (load (~~~good)) 2)
      ∧ checkValue ((Config.blockFunction 2).symm (load (~~~good)).wrapped) ≠ (load (~~~good)).check :=
  ⟨rfl, rfl, rfl, differs _⟩

/-- `serving` at the second the record key expires, with its second event raised. -/
def expiring : State := { serving with clock := { serving.clock with seconds := 5000, secondEvents := 1 } }

theorem serving_home_keys (n : SlotNo) (st : HeldState) (d : KeyData) (h : serving.slots[n].body = .held st d)
    (home : serving.config.items.home ≠ 0 ∧ d.role = .record ∧ d.issuer = serving.config.items.home) :
    n = 4 ∧ st = .active ∧ d = keyOf .record 30 7 0 (some 5000) := by
  have key : ∀ n : SlotNo, serving.slots[n].body = .empty
      ∨ n = 3 ∧ serving.slots[n].body = .held .active (keyOf .tagMaster 5 2 0 none)
      ∨ n = 4 ∧ serving.slots[n].body = .held .active (keyOf .record 30 7 0 (some 5000)) := by decide +kernel
  obtain e | ⟨_, e⟩ | ⟨rfl, e⟩ := key n
  · rw [e] at h; cases h
  · rw [e] at h
    obtain ⟨_, rfl⟩ : HeldState.active = st ∧ keyOf .tagMaster 5 2 0 none = d := by cases h; exact ⟨rfl, rfl⟩
    exact absurd home.2.1 (by decide)
  · rw [e] at h
    cases h
    exact ⟨rfl, rfl, rfl⟩

theorem expiring_slots (n : SlotNo) :
    expiring.evaluate.slots[n].body = .empty
      ∨ n = 3 ∧ expiring.evaluate.slots[n].body = .held .active (keyOf .tagMaster 5 2 0 none)
      ∨ n = 4 ∧ expiring.evaluate.slots[n].body = .held .expired (keyOf .record 30 7 0 (some 5000)) := by
  revert n
  decide +kernel

/-- The gap: the home issuer's one record key becomes EXPIRED and none is ACTIVE. -/
theorem witness_EvaluationAtSecondEvent_gap :
    expiring.clock.timeValid = true ∧ expiring.clock.secondEvents = 0 + 1 ∧ expiring.loaded = true
      ∧ (∃ (n : SlotNo) (d : KeyData), expiring.evaluate.slots[n].body = .held .expired d
          ∧ expiring.slots[n].body ≠ .held .expired d
          ∧ expiring.config.items.home ≠ 0 ∧ d.role = .record ∧ d.issuer = expiring.config.items.home)
      ∧ ∀ (n : SlotNo) (d : KeyData), expiring.evaluate.slots[n].body = .held .active d →
          ¬ (expiring.config.items.home ≠ 0 ∧ d.role = .record ∧ d.issuer = expiring.config.items.home) := by
  refine ⟨rfl, rfl, rfl, ⟨4, keyOf .record 30 7 0 (some 5000), by decide +kernel, by decide +kernel, by decide +kernel⟩, ?_⟩
  intro n d h home
  obtain e | ⟨_, e⟩ | ⟨_, e⟩ := expiring_slots n
  · rw [e] at h; cases h
  · rw [e] at h; cases h; exact absurd home.2.1 (by decide)
  · rw [e] at h; cases h

/-- No gap: nothing expires, or a record key stays ACTIVE; TIME_VALID clear; no second event raised. -/
theorem witness_EvaluationAtSecondEvent_no_gap :
    State.reset.clock.timeValid = false ∧ State.reset.loaded = false ∧ serving.clock.secondEvents = 0
      ∧ (∀ (n : SlotNo) (d : KeyData), serving.evaluate.slots[n].body = .held .expired d →
          serving.config.items.home ≠ 0 ∧ d.role = .record ∧ d.issuer = serving.config.items.home →
          serving.slots[n].body = .held .expired d)
      ∧ ∃ (n : SlotNo) (d : KeyData), serving.evaluate.slots[n].body = .held .active d
          ∧ serving.config.items.home ≠ 0 ∧ d.role = .record ∧ d.issuer = serving.config.items.home := by
  refine ⟨rfl, rfl, rfl, fun n d h home => ?_, 4, keyOf .record 30 7 0 (some 5000), by decide +kernel⟩
  have same : ∀ n : SlotNo, serving.evaluate.slots[n].body = serving.slots[n].body := by decide +kernel
  rw [← same]
  exact h

/-- `serving` with its tag master key in a state, for the outcomes of master selection. -/
theorem witness_SelectionsFollowRules_master :
    let found (s : State) (n : SlotNo) (st : HeldState) : Prop :=
      ∃ d, s.slots[n].body = .held st d ∧ d.issuer = 5 ∧ d.role = .tagMaster ∧ d.generation = 2
    let there (s : State) (n : SlotNo) : Prop := found s n .staged ∨ found s n .active ∨ found s n .expired
    (1 : Gen).toNat < (2 : Gen).toNat ∧ (∀ n, ¬ there State.reset n) ∧ (∀ k : SlotNo, k < 3 → ¬ there serving k)
      ∧ found (masterIn .staged) 3 .staged ∧ found (masterIn .expired) 3 .expired ∧ found serving 3 .active := by
  refine ⟨by decide, fun n h => ?_, fun k hk h => ?_, ⟨_, rfl, by decide⟩, ⟨_, rfl, by decide⟩, ⟨_, rfl, by decide⟩⟩
  · have e : ∀ n : SlotNo, State.reset.slots[n].body = .empty := by decide +kernel
    obtain ⟨d, h, _⟩ | ⟨d, h, _⟩ | ⟨d, h, _⟩ := h <;> · rw [e] at h; cases h
  · have e : ∀ k : SlotNo, k < 3 → serving.slots[k].body = .empty := by decide +kernel
    obtain ⟨d, h, _⟩ | ⟨d, h, _⟩ | ⟨d, h, _⟩ := h <;> · rw [e k hk] at h; cases h

/-- Signing: `serving` has one ACTIVE record key of its home issuer; reset has none and no TIME_VALID. -/
theorem witness_SelectionsFollowRules_active :
    (serving.slots[(4 : SlotNo)].body = .held .active (keyOf .record 30 7 0 (some 5000))
      ∧ serving.config.items.home ≠ 0 ∧ (keyOf .record 30 7 0 (some 5000)).role = .record
      ∧ (keyOf .record 30 7 0 (some 5000)).issuer = serving.config.items.home)
    ∧ (∀ (k : SlotNo) (d : KeyData), serving.slots[k].body = .held .active d ∧
        (serving.config.items.home ≠ 0 ∧ d.role = .record ∧ d.issuer = serving.config.items.home) →
        d.generation < 7 ∨ d.generation = 7 ∧ (4 : SlotNo) ≤ k)
    ∧ (∀ (n : SlotNo) (d : KeyData), State.reset.slots[n].body ≠ .held .active d) ∧ State.reset.clock.timeValid = false
    ∧ serving.formSigning = serving.signing
    ∧ ({ serving with signing := none } : State).formSigning ≠ ({ serving with signing := none } : State).signing := by
  refine ⟨by decide +kernel, fun k d h => ?_, fun n d h => ?_, rfl, by decide +kernel, by decide +kernel⟩
  · obtain ⟨rfl, _, rfl⟩ := serving_home_keys k .active d h.1 h.2
    exact .inr ⟨rfl, le_refl _⟩
  · have e : ∀ n : SlotNo, State.reset.slots[n].body = .empty := by decide +kernel
    rw [e] at h
    cases h

/-- `serving` after its record key has expired, 1799 s into a holdover of 30 minutes. -/
def overrun : State :=
  { serving with
    slots := serving.slots.set 4 (slotOf .expired (keyOf .record 30 7 0 (some 5000)) 0)
    clock := { serving.clock with seconds := 6799 } }

theorem overrun_slots (n : SlotNo) :
    overrun.slots[n].body = .empty ∨ n = 3 ∧ overrun.slots[n].body = .held .active (keyOf .tagMaster 5 2 0 none)
      ∨ n = 4 ∧ overrun.slots[n].body = .held .expired (keyOf .record 30 7 0 (some 5000)) := by
  revert n
  decide +kernel

/-- The holdover: the last second of it, and the first one past it. -/
theorem witness_SelectionsFollowRules_holdover :
    (∀ (k : SlotNo) (d : KeyData), ¬ (overrun.slots[k].body = .held .active d
        ∧ (overrun.config.items.home ≠ 0 ∧ d.role = .record ∧ d.issuer = overrun.config.items.home)))
    ∧ overrun.clock.timeValid = true
    ∧ overrun.slots[(4 : SlotNo)].body = .held .expired (keyOf .record 30 7 0 (some 5000))
    ∧ overrun.clock.seconds.toNat < (5000 : Seconds).toNat + 60 * overrun.config.items.holdover.toNat
    ∧ ¬ (6800 : Seconds).toNat < (5000 : Seconds).toNat + 60 * overrun.config.items.holdover.toNat
    ∧ ∀ (k : SlotNo) (d : KeyData) (e : Seconds), overrun.slots[k].body = .held .expired d ∧ d.expiry = some e →
        e = 5000 ∧ d.generation = 7 ∧ (4 : SlotNo) ≤ k := by
  refine ⟨fun k d h => ?_, rfl, by decide +kernel, by decide +kernel, by decide +kernel, fun k d e h => ?_⟩
  · obtain x | ⟨_, x⟩ | ⟨_, x⟩ := overrun_slots k
    · rw [x] at h; cases h.1
    · rw [x] at h; cases h.1; exact absurd h.2.2.1 (by decide)
    · rw [x] at h; cases h.1
  · obtain x | ⟨_, x⟩ | ⟨rfl, x⟩ := overrun_slots k
    · rw [x] at h; cases h.1
    · rw [x] at h; cases h.1
    · rw [x] at h
      obtain ⟨h, he⟩ := h
      cases h
      cases he
      exact ⟨rfl, rfl, le_refl _⟩

/-- Route 7 is the issuer route of section 4.7's first tag; route 9 alone matches the third, and names no issuer. -/
theorem witness_RouteLookupFollowsRules :
    tieRoutes[(7 : RouteNo)].matchesTag 0x284091C75A3E = true ∧ tieRoutes[(7 : RouteNo)].issuer ≠ 0
      ∧ (∀ k : RouteNo, tieRoutes[k].matchesTag 0x284091C75A3E = true → tieRoutes[k].issuer ≠ 0 →
        tieRoutes[k].specificity < tieRoutes[(7 : RouteNo)].specificity
          ∨ tieRoutes[k].specificity = tieRoutes[(7 : RouteNo)].specificity ∧ 7 ≤ k)
      ∧ ∀ i : RouteNo, tieRoutes[i].matchesTag 0x7700000000AA = true → tieRoutes[i].issuer = 0 := by decide +kernel

theorem witness_StationRequestAdmitted :
    (Instr.setLane 1 []).request = some (.station, 0x11, 1, []) ∧ (0x11 : Byte) ≠ 0x10 ∧ serving.power = true
      ∧ serving.station.placesHeld < 6 ∧ State.reset.service = .starting ∧ State.reset.station.placesHeld < 6
      ∧ serving.service ≠ .starting ∧ serving.station.queue = [] ∧ ([] : List Byte).length ≠ 6
      ∧ (executing serving .saveConfig []).station.queue.length = 1
      ∧ 2 ≤ (after (exec (.readTime 2 []) (executing serving .saveConfig []))).station.queue.length
      ∧ (after (exec (.readTime 2 []) (executing serving .saveConfig []))).station.placesHeld < 6 := by decide +kernel

theorem witness_StatusServed : serving.power = true ∧ serving.station.placesHeld < 6 ∧ ([1] : List Byte).length ≠ 3 := by
  decide +kernel

/-- SET_LANE: a lane of each enabled state before, settings at and past the clamps, a deadline reached and one to come. -/
theorem witness_SetLaneServed :
    serving.StationReady ∧ ([0, 0, 0, 0] : List Byte).length = 4 ∧ 3 < (4 : Byte).toNat ∧ 1 < (2 : Byte).toNat
      ∧ serving.lanes[(0 : LaneNo)].linkUp = true
      ∧ (withLane serving 0 Lane.cleared).lanes[(0 : LaneNo)].linkUp = false
      ∧ serving.clock.mono < (some 2000).getD serving.loadTick + ticksOf 50
      ∧ serving.lanes[(0 : LaneNo)].lastFrame.getD serving.loadTick + ticksOf 500 ≤ serving.clock.mono
      ∧ (50 : BitVec 16) ≠ 0 :=
  ⟨serving_station_ready, by decide +kernel⟩

theorem witness_SetConfigServed :
    serving.StationReady ∧ (255 : Byte) = 255 ∧ 2 < (3 : Byte).toNat ∧ 3 < (4 : Byte).toNat ∧ (0 : Byte) ≠ 255
      ∧ ArbMode.fixedDown.byte = 2 ∧ Rate.r921600.byte = 3 :=
  ⟨serving_station_ready, by decide⟩

theorem witness_SaveReseedAndReset :
    serving.StationReady ∧ serving.service = .serving
      ∧ ({ serving with service := .seedWait, station := { serving.station with knownBoot := some 41 } } : State).StationReady
      ∧ ¬ (42 : BitVec 32) ≤ 41 ∧ (41 : BitVec 32) ≤ 41
      ∧ ∃ a rest, resetting.station.port.answers = a :: rest ∧ a.kind = 0x15 ∧ a.reply = .code .ok := by
  refine ⟨serving_station_ready, rfl, ?_, by decide, by decide, _, _, rfl, by decide +kernel⟩
  unfold State.StationReady
  decide +kernel

/-- The slots of `serving`, by issuer and role. -/
theorem serving_slots (n : SlotNo) :
    serving.slots[n].body = .empty ∨ n = 3 ∧ serving.slots[n].body = .held .active (keyOf .tagMaster 5 2 0 none)
      ∨ n = 4 ∧ serving.slots[n].body = .held .active (keyOf .record 30 7 0 (some 5000)) := by
  revert n
  decide +kernel

/-- A LOAD_KEY for slot 9 whose job is in flight. -/
def loadingKey : State :=
  { State.setJob (executing serving .loadKey (loadBody 9 5 1 3)) (.loadJob (load 9) 1) with pending := [.loadCompletion] }

theorem loading_key_loads_fresh : loadingKey.LoadsFresh := by
  intro q hq
  obtain rfl : q = load 9 := List.mem_singleton.mp hq
  refine ⟨by decide +kernel, fun n d hd hx => ?_⟩
  have hs : loadingKey.slots = serving.slots := rfl
  unfold Slot.data at hd
  obtain e | ⟨_, e⟩ | ⟨_, e⟩ := serving_slots n <;> rw [hs, e] at hd <;> cases hd
  · exact absurd hx.2.2 (by decide)
  · exact absurd hx.1 (by decide)

theorem loading_key_records_follow : loadingKey.RecordsFollow := by
  have hr : ∀ n : SlotNo, loadingKey.store.slots[n] = .blank := by decide +kernel
  refine ⟨fun n r h => ?_, fun n r h => nomatch h⟩
  rw [hr n] at h
  cases h

theorem witness_GenerationsKept :
    loadingKey.GenerationsSound ∧ ¬ loadingKey.FailedLoadLeft ∧ ∃ t, step loadingKey = .next t := by
  have start : loadingKey.StartSound := ⟨by decide +kernel, by decide +kernel⟩
  have loads : loadingKey.LoadSound := by
    unfold State.LoadSound
    decide +kernel
  have apart : loadingKey.KeysApart := by
    unfold State.KeysApart KeyData.sameGeneration
    decide +kernel
  have shut : ¬ loadingKey.FailedLoadLeft := by
    rintro ⟨_, h, _⟩
    cases h
  exact ⟨⟨start, loads, apart, fun _ => ⟨loading_key_loads_fresh, loading_key_records_follow⟩⟩, shut, _, rfl⟩

/-- LOAD_KEY: fields that are formed and fields that are not, a slot taken, a generation held twice, a record key of another
issuer, an expiry reached, and a load that passes every check. -/
theorem witness_LoadKeyServed :
    let formed (issuer role : Byte) (g : Gen) (a e : Seconds) : Prop :=
      issuer ≠ 0 ∧ issuer ≠ 255 ∧ (role = 1 ∨ role = 2) ∧ 1 ≤ g.toNat ∧ g.toNat ≤ 4095 ∧ (e = 0xFFFFFFFF ∨ a < e)
    let double (issuer : Byte) (r : Role) (g : Gen) : Prop := ∃ (k : SlotNo) (st : HeldState) (d : KeyData),
      serving.slots[k].body = .held st d ∧ d.issuer = issuer ∧ d.role = r ∧ d.generation = g
    serving.StationReady
      ∧ (¬ formed 5 1 0 0 1 ∧ ¬ formed 5 1 4096 0 1 ∧ ¬ formed 5 3 1 0 1 ∧ ¬ formed 5 1 1 1 1
        ∧ formed 5 1 4095 900 0xFFFFFFFF ∧ formed 5 1 3 900 1000 ∧ 24 ≤ (24 : Byte).toNat ∧ (9 : Byte).toNat = (9 : SlotNo).val
        ∧ Role.tagMaster.byte = 1 ∧ serving.slots[(3 : SlotNo)].body ≠ .empty ∧ ¬ serving.slots[(9 : SlotNo)].body ≠ .empty)
      ∧ double 5 .tagMaster 2 ∧ ¬ double 5 .tagMaster 3 ∧ ¬ double 31 .record 3 ∧ (31 : Byte) ≠ serving.config.items.home
      ∧ (serving.clock.timeValid = true ∧ (1000 : Seconds) ≠ 0xFFFFFFFF ∧ (1000 : Seconds) ≤ serving.clock.seconds)
      ∧ ¬ ((0xFFFFFFFF : Seconds) ≠ 0xFFFFFFFF) := by
  have none_of (issuer : Byte) (r : Role) (g : Gen)
      (h3 : ¬ ((5 : Byte) = issuer ∧ Role.tagMaster = r ∧ (2 : Gen) = g))
      (h4 : ¬ ((30 : Byte) = issuer ∧ Role.record = r ∧ (7 : Gen) = g)) :
      ¬ ∃ (k : SlotNo) (st : HeldState) (d : KeyData),
        serving.slots[k].body = .held st d ∧ d.issuer = issuer ∧ d.role = r ∧ d.generation = g := by
    rintro ⟨k, st, d, h, x⟩
    obtain e | ⟨_, e⟩ | ⟨_, e⟩ := serving_slots k
    · rw [e] at h; cases h
    · rw [e] at h; cases h; exact h3 x
    · rw [e] at h; cases h; exact h4 x
  have held : ∃ (k : SlotNo) (st : HeldState) (d : KeyData),
      serving.slots[k].body = .held st d ∧ d.issuer = 5 ∧ d.role = .tagMaster ∧ d.generation = 2 :=
    ⟨3, .active, keyOf .tagMaster 5 2 0 none, by decide +kernel, rfl, rfl, rfl⟩
  intro formed double
  refine ⟨serving_station_ready, ?_, held, none_of 5 .tagMaster 3 (by decide) (by decide),
    none_of 31 .record 3 (by decide) (by decide), ?_⟩
  · simp only [formed]
    decide +kernel
  · decide +kernel

theorem witness_WithdrawalAndLastRelease :
    serving.StationReady ∧ 24 ≤ (24 : Byte).toNat ∧ (3 : Byte).toNat = (3 : SlotNo).val
      ∧ serving.slots[(0 : SlotNo)].body = .empty
      ∧ (masterIn .withdrawn).StationReady ∧ (masterIn .withdrawn).slots[(3 : SlotNo)].body = .held .withdrawn (keyOf .tagMaster 5 2 0 none)
      ∧ (masterIn .withdrawn).slots[(3 : SlotNo)].refs ≤ 1
      ∧ serving.slots[(3 : SlotNo)].body = .held .active (keyOf .tagMaster 5 2 0 none)
      ∧ (∀ d, serving.slots[(3 : SlotNo)].body ≠ .held .withdrawn d)
      ∧ 1 < ((masterIn .withdrawn).reference 3).slots[(3 : SlotNo)].refs := by
  refine ⟨serving_station_ready, by decide, by decide, by decide +kernel, ?_, by decide +kernel, by decide +kernel,
    by decide +kernel, fun d h => ?_, by decide +kernel⟩
  · unfold State.StationReady
    decide +kernel
  · have e : serving.slots[(3 : SlotNo)].body = .held .active (keyOf .tagMaster 5 2 0 none) := by decide +kernel
    rw [e] at h
    cases h

theorem witness_ReadRequestsServed :
    serving.StationReady ∧ 24 ≤ (24 : Byte).toNat ∧ (23 : Byte).toNat = (23 : SlotNo).val
      ∧ serving.slots[(23 : SlotNo)].body = .empty
      ∧ serving.slots[(4 : SlotNo)].body = .held .active (keyOf .record 30 7 0 (some 5000))
      ∧ serving.table.find 0xABC = none ∧ claimed.StationReady ∧ (sealedAt serving 9).StationReady
      ∧ claimed.table.find 0xABC = some { tagId := 0xABC, lane := 0, counter := 10, body := .claimed 0 none }
      ∧ (sealedAt serving 9).table.find 0xABC
          = some { tagId := 0xABC, lane := 2, counter := 9, body := .sealed 990 9000 1 } := by
  unfold State.StationReady
  decide +kernel

theorem witness_WriteRequestsServed :
    serving.StationReady ∧ (255 : Byte) = 255 ∧ (0 : Byte) ≠ 255 ∧ 32 ≤ (32 : Byte).toNat
      ∧ (31 : Byte).toNat = (31 : RouteNo).val :=
  ⟨serving_station_ready, by decide⟩

/-- A trim of +1 and of −1, whose correction falls at 1,048,576; a clock that runs, one that does not, a period start
raised and none. -/
theorem witness_TimeBaseTicks :
    (∃ k : Nat, (k : Int) < |(1 : BitVec 8).toInt| ∧ (2 * k + 1) * 1048576 / (1 : BitVec 8).toInt.natAbs = 1048576)
      ∧ 0 < (1 : BitVec 8).toInt
      ∧ (∃ k : Nat, (k : Int) < |(255 : BitVec 8).toInt| ∧ (2 * k + 1) * 1048576 / (255 : BitVec 8).toInt.natAbs = 1048576)
      ∧ (255 : BitVec 8).toInt < 0
      ∧ ¬ (∃ k : Nat, (k : Int) < |(0 : BitVec 8).toInt| ∧ (2 * k + 1) * 1048576 / (0 : BitVec 8).toInt.natAbs = 7)
      ∧ serving.clock.running = true ∧ serving.clock.mono + 1 < 2 ^ 48
      ∧ (after (exec .oscillatorStop serving)).clock.running = false ∧ serving.clock.periodStarted = false
      ∧ ({ serving.clock with periodStarted := true } : Clock).periodStarted = true := by
  refine ⟨⟨0, by decide, by decide⟩, by decide, ⟨0, by decide, by decide⟩, by decide, ?_, rfl, by decide +kernel, rfl, rfl, rfl⟩
  rintro ⟨k, h, _⟩
  have : |(0 : BitVec 8).toInt| = 0 := by decide
  omega

theorem witness_OscillatorAndBackupEvents :
    serving.power = true ∧ serving.clock.running = true ∧ off.power = false ∧ off.clock.running = true
      ∧ (after (exec .oscillatorStop serving)).clock.running = false
      ∧ (after (exec (.oscillatorStopWhileOff true) off)).power = false
      ∧ (after (exec (.oscillatorStopWhileOff true) off)).clock.running = false := by decide +kernel

theorem witness_StoreRequestsQueued :
    (∃ q ∈ storeBusy.store.pending, q.sameRecord (.eraseSlot 4) = true)
      ∧ (¬ ∃ q ∈ serving.store.pending, q.sameRecord (.eraseSlot 4) = true) ∧ serving.store.action = none
      ∧ serving.store.pending = [] ∧ (¬ ∃ q ∈ storeBusy.store.pending, q.sameRecord (.eraseSlot 5) = true)
      ∧ storeBusy.store.action ≠ none
      ∧ serving.slots[(4 : SlotNo)].body = .held .active (keyOf .record 30 7 0 (some 5000)) := by decide +kernel

/-- The ends of a store action: each kind of record, in the service state and with the request it belongs to, at its first
and at its second attempt. -/
theorem witness_StoreActionsEnd :
    let data := keyOf .tagMaster 5 3 0 none
    let loading := { serving with slots := serving.slots.set 9 (slotOf (.loading .staged) data 0) }
    let erasing := { serving with slots := serving.slots.set 9 (slotOf .erasing data 0) }
    let seedWait := { serving with service := .seedWait }
    let outside (s : State) : Prop := ¬ (s.service = .starting ∧ s.loaded = false)
    (serving.store.action = none ∧ (storing serving (.eraseSlot 9) true).store.second = true)
      ∧ (storing serving (.eraseSlot 9) false).store.action ≠ none
      ∧ (executing serving .saveConfig []).station.queue
          = [{ kind := .saveConfig, tag := 7, body := [], executing := true, answered := false }]
      ∧ (storing State.reset (.eraseSlot 9) true).service = .starting
      ∧ (storing State.reset (.eraseSlot 9) true).loaded = false
      ∧ outside loading ∧ loading.slots[(9 : SlotNo)].body = .held (.loading .staged) data
      ∧ outside erasing ∧ erasing.slots[(9 : SlotNo)].body = .held .erasing data
      ∧ (storing (executing serving .saveConfig []) (.writeImage serving.image) true).station.isExecuting .saveConfig = true
      ∧ outside starting ∧ starting.service = .starting ∧ serving.service = .serving ∧ outside seedWait
      ∧ (executing seedWait .reseed [0, 0, 0, 42]).station.isExecuting .reseed = true
      ∧ outside (executing seedWait .reseed [0, 0, 0, 42]) := by decide +kernel

theorem witness_MainPowerMoves :
    serving.power = true ∧ off.power = false ∧ serving.store.action = none
      ∧ (storing serving (.eraseSlot 9) false).store.action = some (.eraseSlot 9)
      ∧ (storing serving (.eraseSlot 9) false).power = true := by decide +kernel

theorem witness_StartUpLoads :
    State.reset.power = true ∧ State.reset.service = .starting ∧ State.reset.loaded = false
      ∧ State.reset.store.action = none ∧ State.reset.store.pending = []
      ∧ (∀ j, State.reset.store.image ≠ .intact j) ∧ (∀ b, State.reset.store.boot ≠ .intact b)
      ∧ ({ State.reset.store with boot := .intact 41 } : Store).boot = .intact 41 ∧ (41 : BitVec 32) ≠ 0xFFFFFFFF
      ∧ ({ State.reset.store with boot := .intact 0xFFFFFFFF } : Store).boot = .intact 0xFFFFFFFF
      ∧ serving.service ≠ .starting :=
  ⟨rfl, rfl, rfl, rfl, rfl, fun j (h : (Rec.blank : Rec Image) = .intact j) => (by cases h),
    fun b (h : (Rec.blank : Rec (BitVec 32)) = .intact b) => (by cases h), rfl, by decide, rfl, by decide +kernel⟩

end Sys2Proof.Tests
end

section
/-! Proofs for the lane transactions: the alert outputs. Each output follows its condition once driven, and a command either drives
the outputs or leaves everything they and their conditions are read from. -/

namespace Sys2Proof.Machine

/-! ### The alert outputs (R28, R161, R195) -/

/-- A notice set counts above zero exactly while it holds an item. -/
theorem Notices.count_ne_zero_iff (n : Notices) :
    n.count ≠ 0 ↔ (∃ c : CtxNo, n.lost[c] ≠ none) ∨ n.serviceChanged = true ∨ n.signingChanged = true := by
  have hlost : (List.finRange 3).countP (fun c => n.lost[c].isSome) = 0 ↔ ¬ ∃ c : CtxNo, n.lost[c] ≠ none := by
    simp [List.countP_eq_zero]
  unfold Notices.count
  rw [← not_iff_not, not_not, Nat.add_eq_zero_iff, Nat.add_eq_zero_iff, hlost]
  cases n.serviceChanged <;> cases n.signingChanged <;> simp

theorem Lane.alertDue_iff (ln : Lane) :
    ln.alertDue = true ↔
      (∃ c : CtxNo, ln.notices.lost[c] ≠ none) ∨ ln.notices.serviceChanged = true ∨ ln.notices.signingChanged = true := by
  rw [← Notices.count_ne_zero_iff]
  simp [Lane.alertDue]

/-- Two masks meet exactly in a common bit. -/
theorem and_ne_zero_iff {w : Nat} (x y : BitVec w) :
    x &&& y ≠ 0 ↔ ∃ i, i < w ∧ x.getLsbD i = true ∧ y.getLsbD i = true := by
  constructor
  · intro h
    by_contra hn
    refine h (BitVec.eq_of_getLsbD_eq fun i hi => ?_)
    have := fun hx hy => hn ⟨i, hi, hx, hy⟩
    cases hx : x.getLsbD i <;> cases hy : y.getLsbD i <;> simp_all
  · rintro ⟨i, -, hx, hy⟩ h
    have := congrArg (BitVec.getLsbD · i) h
    simp [hx, hy] at this

theorem State.stationAlertDue_iff (s : State) :
    s.stationAlertDue = true ↔ ∃ i, i < 21 ∧ s.flags.getLsbD i = true ∧ s.config.items.mask.getLsbD i = true := by
  rw [← and_ne_zero_iff]
  simp [State.stationAlertDue]

@[simp] theorem State.driveAlerts_lane (s : State) (l : LaneNo) :
    s.driveAlerts.lanes[l] = { s.lanes[l] with alert := s.lanes[l].alertDue } := by
  simp [State.driveAlerts]

/-- Outputs that have been driven follow their conditions. -/
theorem State.driveAlerts_follow (s : State) : s.driveAlerts.AlertsFollow := by
  refine ⟨fun l => ?_, rfl⟩
  rw [State.driveAlerts_lane]
  rfl

/-- `t` has the outputs of `s` and everything their conditions read. -/
def State.SameOutputs (s t : State) : Prop :=
  t.lanes = s.lanes ∧ t.station = s.station ∧ t.flags = s.flags ∧ t.config = s.config

theorem State.AlertsFollow_congr {s t : State} (h : s.AlertsFollow) (hs : s.SameOutputs t) : t.AlertsFollow := by
  obtain ⟨hl, hst, hf, hc⟩ := hs
  simpa only [State.AlertsFollow, State.stationAlertDue, hl, hst, hf, hc] using h

/-- What a command heard only with main power present can do. -/
theorem State.powered_cases {s t : State} {f : State → State} (h : s.powered f = .next t) :
    s.power = true ∧ t = (f s).driveAlerts ∨ s.power = false ∧ t = s := by
  unfold State.powered at h
  split at h
  · next hp => exact .inl ⟨hp, by cases h; rfl⟩
  · next hp => exact .inr ⟨by simpa using hp, by cases h; rfl⟩

/-- A command drives the alert outputs at its end, or leaves all they depend on (R195). -/
theorem exec_driven {i : Instr} {s t : State} (h : exec i s = .next t) :
    (∃ u : State, t = u.driveAlerts) ∨ s.SameOutputs t := by
  have same : s.SameOutputs s := ⟨rfl, rfl, rfl, rfl⟩
  have heard {f : State → State} (h : s.powered f = .next t) : (∃ u : State, t = u.driveAlerts) ∨ s.SameOutputs t := by
    obtain ⟨-, rfl⟩ | ⟨-, rfl⟩ := State.powered_cases h
    · exact .inl ⟨_, rfl⟩
    · exact .inr same
  have guarded {c : Prop} [Decidable c] {u : State}
      (h : (if c then .next u.driveAlerts else .next s : Host.Outcome State Fault Refusal) = .next t) :
      (∃ u : State, t = u.driveAlerts) ∨ s.SameOutputs t := by
    split at h <;> cases h
    · exact .inl ⟨_, rfl⟩
    · exact .inr same
  cases i
  case openCompletion | proveCompletion | sealCompletion | loadCompletion | storeActionFailed =>
    simp only [exec, execOpenCompletion, execProveCompletion, execSealCompletion, execLoadCompletion,
      execStoreActionFailed] at h
    split at h <;> cases h
    · exact .inl ⟨_, rfl⟩
    · exact .inr same
  case fractionTick | oscillatorRestart | backupLowChange | storeVerifyRetry | oscillatorStopWhileOff =>
    simp only [exec, execFractionTick, execOscillatorRestart, execBackupLowChange, execStoreVerifyRetry,
      execOscillatorStopWhileOff] at h
    split at h <;> cases h <;> exact .inr ⟨rfl, rfl, rfl, rfl⟩
  case periodStart => cases h; exact .inr ⟨rfl, rfl, rfl, rfl⟩
  case secondEvent =>
    simp only [exec, execSecondEvent] at h
    split at h
    · cases h; exact .inr same
    · split at h <;> cases h
      · exact .inl ⟨_, rfl⟩
      · exact .inr ⟨rfl, rfl, rfl, rfl⟩
  case entryExpiry =>
    simp only [exec, execEntryExpiry] at h
    split at h
    · split at h
      · split at h <;> cases h <;> exact .inr ⟨rfl, rfl, rfl, rfl⟩
      · cases h; exact .inr same
    · cases h; exact .inr same
  case powerOn | storeActionComplete | answerTransmitted =>
    simp only [exec, execPowerOn, execStoreActionComplete, execAnswerTransmitted] at h
    split at h <;> cases h
    · exact .inr same
    · exact .inl ⟨_, rfl⟩
  case contextExpiry | linkExpiry | oscillatorStop | mainPowerFail | startUp => exact guarded h
  all_goals
    simp only [exec, execOpen, execProve, execSeal, execDrop, execPoll, execStatus, execSetLane, execSetConfig,
      execSaveConfig, execReseed, execReset, execLoadKey, execWithdrawKey, execListSlot, execSetRoute, execClearRoute,
      execQueryPassage, execSetTime, execSetTrim, execReadTime, execMalformedFrame, execFrameDiscarded,
      execAbortSequence] at h
    exact heard h

/-- Settles O4: driving makes the outputs follow, and every command drives them or leaves what they read. -/
theorem alertsFollowKept : Obligations.AlertsFollowKept := by
  refine ⟨fun s => ?_, fun s => ⟨rfl, fun l => ?_, s.driveAlerts_follow⟩, fun s t hs h => ?_⟩
  · refine and_congr (forall_congr' fun l => ?_) ?_
    · rw [Bool.eq_iff_iff, Lane.alertDue_iff]
    · rw [Bool.eq_iff_iff, State.stationAlertDue_iff]
  · simp only [State.driveAlerts_lane]
  · unfold step at h
    split at h
    · cases h; exact hs
    · obtain ⟨u, rfl⟩ | hsame := exec_driven h
      · exact u.driveAlerts_follow
      · exact State.AlertsFollow_congr (State.AlertsFollow_congr hs ⟨rfl, rfl, rfl, rfl⟩) hsame

end Sys2Proof.Machine
end

section
/-! Proofs for the lane transactions: a valid frame on a port, and the lane requests. -/

namespace Sys2Proof.Machine

/-! ### A valid frame on a port (R9, R186) -/

@[simp] theorem State.placesHeld_laneFrameArrives (s : State) (l : LaneNo) :
    (s.laneFrameArrives l).lanes[l].placesHeld = s.lanes[l].placesHeld := by
  simp [State.laneFrameArrives, State.onLane, Lane.placesHeld]

@[simp] theorem State.placesHeld_stationFrameArrives (s : State) :
    s.stationFrameArrives.station.placesHeld = s.station.placesHeld := rfl

theorem State.laneFrame_full {s : State} {l : LaneNo} (h : 6 ≤ s.lanes[l].placesHeld) (deal : State → State) :
    s.laneFrame l deal = (s.laneFrameArrives l).latch (.flood l) :=
  if_pos (by rw [State.placesHeld_laneFrameArrives]; exact h)

theorem State.laneFrame_free {s : State} {l : LaneNo} (h : s.lanes[l].placesHeld < 6) (deal : State → State) :
    s.laneFrame l deal = deal (s.laneFrameArrives l) :=
  if_neg (by rw [State.placesHeld_laneFrameArrives]; exact Nat.not_le.mpr h)

theorem State.stationFrame_full {s : State} (h : 6 ≤ s.station.placesHeld) (deal : State → State) :
    s.stationFrame deal = s.stationFrameArrives :=
  if_pos h

theorem State.powered_eq {s : State} (h : s.power = true) (f : State → State) : s.powered f = .next (f s).driveAlerts :=
  if_pos h

/-- A frame on a ready lane port is dealt with after the link. -/
theorem State.powered_laneFrame {s : State} {l : LaneNo} (h : s.LaneReady l) (deal : State → State) :
    (s.powered fun s => s.laneFrame l deal) = .next (deal (s.laneFrameArrives l)).driveAlerts := by
  rw [State.powered_eq h.1, State.laneFrame_free h.2]

/-- Settles O16: the answer places are looked at before anything is read of the frame. -/
theorem fullAnswerQueueDiscards : Obligations.FullAnswerQueueDiscards := by
  have lane {s : State} {l : LaneNo} (hp : s.power = true) (hf : 6 ≤ s.lanes[l].placesHeld) (deal : State → State) :
      (s.powered fun s => s.laneFrame l deal) = .next (State.driveAlerts
        { s.laneFrameArrives l with flags := s.flags ||| (1#21 <<< (17 + l.val)) }) := by
    rw [State.powered_eq hp, State.laneFrame_full hf]
    rfl
  have station {s : State} (hp : s.power = true) (hf : 6 ≤ s.station.placesHeld) (deal : State → State) :
      (s.powered fun s => s.stationFrame deal) = .next s.stationFrameArrives.driveAlerts := by
    rw [State.powered_eq hp, State.stationFrame_full hf]
  refine ⟨fun i s l kind tag body hi hp hf => ?_, fun i s kind tag body hi hp hf => ?_,
    fun s kind tag length body hp => ⟨fun l hf => lane hp hf _, fun hf => station hp hf _⟩⟩
  · cases i <;> cases hi <;> exact lane hp hf _
  · cases i <;> cases hi <;> exact station hp hf _

/-! ### Refusals (R11, R12, R13, R94) -/

theorem State.freeContextOf_eq_none (s : State) (l : LaneNo) :
    s.freeContextOf l = none ↔ ∀ c : CtxNo, (s.ctx l c).body ≠ .free := by
  simp [State.freeContextOf]

/-- The lowest-numbered FREE context is the one found (R14). -/
theorem State.freeContextOf_eq_some {s : State} {l : LaneNo} {c : CtxNo} (h : (s.ctx l c).body = .free)
    (hd : ∀ d : CtxNo, d < c → (s.ctx l d).body ≠ .free) : s.freeContextOf l = some c := by
  rw [State.freeContextOf, show List.finRange 3 = [0, 1, 2] by decide, List.find?_eq_some_iff_append]
  refine ⟨by simpa using h, ([0, 1, 2] : List CtxNo).take c.val, ([0, 1, 2] : List CtxNo).drop (c.val + 1), ?_, ?_⟩
  · fin_cases c <;> rfl
  · intro a ha
    have : a < c := by fin_cases c <;> fin_cases a <;> simp_all
    simpa using hd a this

/-- OPEN is answered with its refusal, which is all it leaves. -/
theorem State.openRequest_refused {s : State} {l : LaneNo} {tag : Byte} {body : List Byte} {code : Code}
    (h : s.openRefusal l (readOpen body) = some code) :
    s.openRequest l tag body = s.laneReply l 0x01 tag (.code code) := by
  have hnone := s.freeContextOf_eq_none l
  unfold State.openRefusal at h
  unfold State.openRequest State.openServiceCheck State.laneBusy State.openSelection laneQueueSize
  rw [show (s.settings l).enabled = s.config.lanes[l].enabled from rfl, show LaneKind.openReq.code = 0x01 from rfl]
  generalize s.config.lanes[l].enabled = on at *
  generalize s.lanes[l].queue.length = len at *
  dsimp only
  split at h
  · next h1 => cases h; simp [h1]
  split at h
  · next h2 => cases h; simp [h2]
  split at h
  · next h1 h2 h3 => cases h; simp [h1, h2, h3]
  next h1 h2 h3 =>
  simp only [h1, h2, h3, if_false, if_true]
  cases hb : readOpen body with
  | none => simp only [hb] at h; cases h; rfl
  | some a =>
    simp only [hb] at h ⊢
    by_cases h4 : 4 ≤ len
    · simp only [h4, if_true] at h ⊢; cases h; rfl
    cases h5 : s.freeContextOf l with
    | none =>
      simp only [h4, hnone.mp h5, ne_eq, not_false_eq_true, implies_true, if_true, if_false] at h ⊢
      cases h; rfl
    | some c =>
      have h6 : ¬ ∀ c : CtxNo, (s.ctx l c).body ≠ .free := fun hall => by simp [hnone.mpr hall] at h5
      simp only [h4, h6, if_false] at h ⊢
      cases h7 : (routeLookup s.routes a.tagId).deny with
      | true => simp only [h7, if_true] at h ⊢; cases h; rfl
      | false =>
        simp only [h7, Bool.false_eq_true, if_false] at h ⊢
        cases h8 : (routeLookup s.routes a.tagId).issuer with
        | none => simp only [h8] at h ⊢; cases h; rfl
        | some im =>
          simp only [h8] at h ⊢
          cases h9 : masterSelection s.slots im.1 im.2 a.generation with
          | error e => simp only [h9] at h ⊢; cases h; rfl
          | ok n => simp [h9] at h

/-- The checks that PROVE and SEAL share, in the order of R11: service and lane, then the context, then the queue. -/
theorem State.stepRefusal_some (s : State) (l : LaneNo) (c : CtxNo) (ticket : BitVec 8) (required : CtxBody → Bool) :
    s.stepRefusal l (some (c, ticket)) required =
      (s.laneServiceCheck l).or ((s.resolve l c ticket required).or (if s.laneBusy l then some .busy else none)) := by
  unfold State.stepRefusal State.laneServiceCheck State.resolve State.laneBusy laneQueueSize
  rw [show (s.settings l).enabled = s.config.lanes[l].enabled from rfl,
    show s.lanes[l].inProgress c = s.lanes[l].queue.any fun e => e.phase != .answered && e.ctx == c from rfl]
  dsimp only
  generalize s.config.lanes[l].enabled = on
  generalize s.lanes[l].queue.any _ = going
  generalize s.lanes[l].queue.length = len
  generalize s.ctx l c = x
  by_cases h1 : s.service = .starting
  · simp [h1]
  cases on
  · simp [h1]
  by_cases h2 : x.ticket = ticket
  · by_cases h3 : x.body = .free
    · cases x.endCause <;> simp [h1, h2, h3]
    · cases going
      · cases required x.body <;> simp [h1, h2, h3]
      · simp [h1, h2, h3]
  · simp [h1, h2]

theorem State.stepRefusal_none (s : State) (l : LaneNo) (required : CtxBody → Bool) :
    s.stepRefusal l none required = (s.laneServiceCheck l).or (some .malformed) := by
  unfold State.stepRefusal State.laneServiceCheck
  rw [show (s.settings l).enabled = s.config.lanes[l].enabled from rfl]
  generalize s.config.lanes[l].enabled = on
  by_cases h1 : s.service = .starting
  · simp [h1]
  · cases on <;> simp [h1]

/-- PROVE is answered with its refusal, which is all it leaves. -/
theorem State.proveRequest_refused {s : State} {l : LaneNo} {tag : Byte} {body : List Byte} {code : Code}
    (h : s.stepRefusal l ((readProve body).map fun a => (a.ctx, a.ticket)) CtxBody.isOpened = some code) :
    s.proveRequest l tag body = s.laneReply l 0x02 tag (.code code) := by
  unfold State.proveRequest
  rw [show LaneKind.proveReq.code = 0x02 from rfl]
  cases hb : readProve body with
  | none =>
    rw [hb, Option.map_none, State.stepRefusal_none] at h
    cases h1 : s.laneServiceCheck l <;> simp_all
  | some a =>
    rw [hb, Option.map_some, State.stepRefusal_some] at h
    cases h1 : s.laneServiceCheck l with
    | some c => simp_all
    | none =>
      cases h2 : s.resolve l a.ctx a.ticket CtxBody.isOpened with
      | some c => simp_all
      | none => cases h3 : s.laneBusy l <;> simp_all

/-- SEAL is answered with its refusal, which is all it leaves. -/
theorem State.sealRequest_refused {s : State} {l : LaneNo} {tag : Byte} {body : List Byte} {code : Code}
    (h : s.stepRefusal l ((readSeal body).map fun a => (a.ctx, a.ticket)) CtxBody.isProved = some code) :
    s.sealRequest l tag body = s.laneReply l 0x03 tag (.code code) := by
  unfold State.sealRequest
  rw [show LaneKind.sealReq.code = 0x03 from rfl]
  cases hb : readSeal body with
  | none =>
    rw [hb, Option.map_none, State.stepRefusal_none] at h
    cases h1 : s.laneServiceCheck l <;> simp_all
  | some a =>
    rw [hb, Option.map_some, State.stepRefusal_some] at h
    cases h1 : s.laneServiceCheck l with
    | some c => simp_all
    | none =>
      cases h2 : s.resolve l a.ctx a.ticket CtxBody.isProved with
      | some c => simp_all
      | none => cases h3 : s.laneBusy l <;> simp_all

/-! What the checks read stands through the arrival of the frame -/

@[simp] theorem State.ctx_laneFrameArrives (s : State) (l k : LaneNo) (c : CtxNo) :
    (s.laneFrameArrives l).ctx k c = s.ctx k c := by
  by_cases h : k = l
  · subst h; simp [State.ctx, State.laneFrameArrives]
  · have : l.val ≠ k.val := fun e => h (Fin.ext e.symm)
    simp [State.ctx, State.laneFrameArrives, this]

@[simp] theorem State.queue_laneFrameArrives (s : State) (l : LaneNo) :
    (s.laneFrameArrives l).lanes[l].queue = s.lanes[l].queue := by
  simp [State.laneFrameArrives]

theorem State.openRefusal_laneFrameArrives (s : State) (l : LaneNo) (a : Option OpenArgs) :
    (s.laneFrameArrives l).openRefusal l a = s.openRefusal l a := by
  simp only [State.openRefusal, State.laneFrameArrives_service, State.laneFrameArrives_config,
    State.queue_laneFrameArrives, State.ctx_laneFrameArrives, State.laneFrameArrives_routes,
    State.laneFrameArrives_slots]
  rfl

theorem State.stepRefusal_laneFrameArrives (s : State) (l : LaneNo) (named : Option (CtxNo × BitVec 8))
    (required : CtxBody → Bool) :
    (s.laneFrameArrives l).stepRefusal l named required = s.stepRefusal l named required := by
  simp only [State.stepRefusal, State.laneFrameArrives_service, State.laneFrameArrives_config,
    State.queue_laneFrameArrives, State.ctx_laneFrameArrives]

/-- Settles O20: with a free place, each of the three requests comes down to its refusal. -/
theorem laneRequestsRefusedInOrder : Obligations.LaneRequestsRefusedInOrder := by
  intro s l tag body code hr
  refine ⟨fun h => ?_, fun h => ?_, fun h => ?_⟩
  · rw [← State.openRefusal_laneFrameArrives] at h
    exact (State.powered_laneFrame hr _).trans (by rw [State.openRequest_refused h]; rfl)
  · rw [← State.stepRefusal_laneFrameArrives] at h
    exact (State.powered_laneFrame hr _).trans (by rw [State.proveRequest_refused h]; rfl)
  · rw [← State.stepRefusal_laneFrameArrives] at h
    exact (State.powered_laneFrame hr _).trans (by rw [State.sealRequest_refused h]; rfl)

end Sys2Proof.Machine
end

section
/-! Proofs for the lane transactions: the takes of OPEN, PROVE and SEAL. -/

namespace Sys2Proof.Machine

/-! ### The takes (R14, R16, R19) -/

theorem State.laneFrameArrives_other (s : State) {l k : LaneNo} (h : k ≠ l) :
    (s.laneFrameArrives l).lanes[k] = s.lanes[k] := State.onLane_other s l k _ h

theorem State.onCtx_other (s : State) {l k : LaneNo} (c : CtxNo) (f : Context → Context) (h : k ≠ l) :
    (s.onCtx l c f).lanes[k] = s.lanes[k] := State.onLane_other s l k _ h

theorem State.appendEntry_other (s : State) {l k : LaneNo} (r : LaneReq) (tag : Byte) (c : CtxNo) (h : k ≠ l) :
    (s.appendEntry l r tag c).lanes[k] = s.lanes[k] := State.onLane_other s l k _ h

/-- A lane function that keeps the contexts keeps every context. -/
theorem State.ctx_onLane {s : State} {l : LaneNo} {f : Lane → Lane} (h : (f s.lanes[l]).contexts = s.lanes[l].contexts)
    (k : LaneNo) (c : CtxNo) : (s.onLane l f).ctx k c = s.ctx k c := by
  by_cases hk : k = l
  · subst hk
    simp only [State.ctx, State.onLane_same, h]
  · simp only [State.ctx, State.onLane_other s l k f hk]

@[simp] theorem State.ctx_appendEntry (s : State) (l k : LaneNo) (r : LaneReq) (tag : Byte) (c d : CtxNo) :
    (s.appendEntry l r tag c).ctx k d = s.ctx k d :=
  State.ctx_onLane (s := s) (l := l) (by rfl) k d

@[simp] theorem State.ctx_reference (s : State) (n : SlotNo) (l : LaneNo) (c : CtxNo) :
    (s.reference n).ctx l c = s.ctx l c := rfl

theorem State.openSelection_ok {s : State} {a : OpenArgs} {i : Byte} {m : Gen} {n : SlotNo}
    (hd : (routeLookup s.routes a.tagId).deny = false) (hi : (routeLookup s.routes a.tagId).issuer = some (i, m))
    (hm : masterSelection s.slots i m a.generation = .ok n) :
    s.openSelection a = .ok (i, (routeLookup s.routes a.tagId).watch, (routeLookup s.routes a.tagId).strict, n) := by
  simp [State.openSelection, hd, hi, hm]

/-- OPEN with every check passed is taken. -/
theorem State.openRequest_taken {s : State} {l : LaneNo} {tag : Byte} {body : List Byte} {a : OpenArgs} {c : CtxNo}
    {i : Byte} {watch strict : Bool} {n : SlotNo} (hs : s.service = .serving) (he : s.config.lanes[l].enabled = true)
    (hb : readOpen body = some a) (hq : s.lanes[l].queue.length < 4) (hc : s.freeContextOf l = some c)
    (hsel : s.openSelection a = .ok (i, watch, strict, n)) :
    s.openRequest l tag body = s.takeOpen l tag c a i watch strict n := by
  have hcheck : s.openServiceCheck l = none := by
    simp only [State.openServiceCheck, show (s.settings l).enabled = true from he, hs]
    rfl
  have hbusy : s.laneBusy l = false := decide_eq_false (Nat.not_le.mpr hq)
  simp [State.openRequest, hcheck, hb, hbusy, hc, hsel]

/-- PROVE with every check passed is taken. -/
theorem State.proveRequest_taken {s : State} {l : LaneNo} {tag : Byte} {body : List Byte} {a : ProveArgs} {o : Occupancy}
    {m : SlotNo} {p : TagProof}
    (hr : s.stepRefusal l (some (a.ctx, a.ticket)) CtxBody.isOpened = none) (hb : readProve body = some a)
    (hc : (s.ctx l a.ctx).body = .opened o m p) :
    s.proveRequest l tag body =
      ((s.onCtx l a.ctx fun x => { x with body := .proving o m p }).appendEntry l (.proveReq a.response) tag
        a.ctx).arbitrate := by
  rw [State.stepRefusal_some, Option.or_eq_none_iff, Option.or_eq_none_iff] at hr
  obtain ⟨hcheck, hres, hbusy⟩ := hr
  simp [State.proveRequest, hcheck, hb, hres, show s.laneBusy l = false by simpa using hbusy, hc]

/-- SEAL with every check passed is taken. -/
theorem State.sealRequest_taken {s : State} {l : LaneNo} {tag : Byte} {body : List Byte} {a : SealArgs} {o : Occupancy}
    {p : TagProof} {v : ClaimVerdict}
    (hr : s.stepRefusal l (some (a.ctx, a.ticket)) CtxBody.isProved = none) (hb : readSeal body = some a)
    (hc : (s.ctx l a.ctx).body = .proved o p v) :
    s.sealRequest l tag body =
      ((s.onCtx l a.ctx fun x => { x with body := .sealing o p v }).appendEntry l (.sealReq a.vehicleClass a.readerRef) tag
        a.ctx).arbitrate := by
  rw [State.stepRefusal_some, Option.or_eq_none_iff, Option.or_eq_none_iff] at hr
  obtain ⟨hcheck, hres, hbusy⟩ := hr
  simp [State.sealRequest, hcheck, hb, hres, show s.laneBusy l = false by simpa using hbusy, hc]

/-- The checks of PROVE and SEAL pass on a context of the state required, with no request in progress and room in the queue. -/
theorem State.stepRefusal_passes {s : State} {l : LaneNo} {c : CtxNo} {ticket : BitVec 8} {required : CtxBody → Bool}
    (hs : s.service ≠ .starting) (he : s.config.lanes[l].enabled = true) (ht : (s.ctx l c).ticket = ticket)
    (hf : (s.ctx l c).body ≠ .free) (hr : required (s.ctx l c).body = true)
    (hq : ∀ e ∈ s.lanes[l].queue, e.ctx = c → e.phase = .answered) (hlen : s.lanes[l].queue.length < 4) :
    s.stepRefusal l (some (c, ticket)) required = none := by
  have hcheck : s.laneServiceCheck l = none := by
    simp [State.laneServiceCheck, show (s.settings l).enabled = true from he, hs]
  have hgoing : s.lanes[l].inProgress c = false := by
    simp only [Lane.inProgress, List.any_eq_false]
    intro e hmem
    by_cases hx : e.ctx = c
    · simp [Entry.live, hq e hmem hx]
    · simp [hx]
  have hbusy : s.laneBusy l = false := decide_eq_false (Nat.not_le.mpr hlen)
  have hres : s.resolve l c ticket required = none := by
    simp only [State.resolve, ht, hf, hgoing, hr]
    simp
  rw [State.stepRefusal_some, hcheck, hres, hbusy]
  rfl

/-- Settles O22. -/
theorem openTaken : Obligations.OpenTaken := by
  intro s l tag body a c i m n hr hs he hb hq hc hd hdeny hi hm
  have hexec := State.powered_laneFrame hr fun t => t.openRequest l tag body
  have hfree : (s.laneFrameArrives l).freeContextOf l = some c :=
    State.freeContextOf_eq_some (by simpa using hc) (by simpa using hd)
  rw [State.openRequest_taken (s := s.laneFrameArrives l) hs he hb (by rw [State.queue_laneFrameArrives]; exact hq) hfree
    (State.openSelection_ok hdeny hi hm)] at hexec
  refine ⟨_, hexec, rfl, ?_, ?_, ?_, ?_, ?_, ticksOf (s.config.lanes[l]).dwell, (ticksOf_bounds _).1, (ticksOf_bounds _).2, ?_⟩
  · exact fun k hk => by
      rw [State.appendEntry_other _ _ _ _ hk, State.reference_lanes, State.onCtx_other _ _ _ hk,
        State.laneFrameArrives_other s hk]
  · exact fun k hk => by rw [State.appendEntry_slots]; exact State.onSlot_other _ n k _ hk
  · rw [State.appendEntry_slots]
    exact State.onSlot_same _ n _
  · simp [State.appendEntry, State.onCtx, Lane.onCtx, State.laneFrameArrives]
  · intro d hdc
    rw [State.ctx_appendEntry, State.ctx_reference, State.ctx_onCtx_other _ _ _ _ _ hdc, State.ctx_laneFrameArrives]
  · rw [State.ctx_appendEntry, State.ctx_reference, State.ctx_onCtx_same, State.ctx_laneFrameArrives]
    rfl

/-- What the take of PROVE or SEAL changes: the context's body, and the entry at the end of the queue. -/
theorem State.stepTake_effect (s : State) (l : LaneNo) (c : CtxNo) (b : CtxBody) (req : LaneReq) (tag : Byte) :
    let u := ((s.laneFrameArrives l).onCtx l c fun x => { x with body := b }).appendEntry l req tag c
    u = { s with lanes := u.lanes } ∧ s.OtherLanesSame u l
      ∧ u.lanes[l] =
          { (s.laneFrameArrives l).lanes[l] with
            contexts := s.lanes[l].contexts.set c { s.ctx l c with body := b }
            queue := s.lanes[l].queue ++
              [{ serial := s.lanes[l].nextSerial, req := req, tag := tag, ctx := c, phase := .waiting, discard := false }]
            nextSerial := s.lanes[l].nextSerial + 1 } := by
  refine ⟨rfl, fun k hk => ?_, ?_⟩
  · rw [State.appendEntry_other _ _ _ _ hk, State.onCtx_other _ _ _ hk, State.laneFrameArrives_other s hk]
  · simp [State.appendEntry, State.onCtx, Lane.onCtx, State.laneFrameArrives, State.ctx]

/-- Settles O23. -/
theorem proveAndSealTaken : Obligations.ProveAndSealTaken := by
  refine ⟨fun s l tag body a o m p hr hs he hb ht hc hq hlen => ?_,
    fun s l tag body a o p v hr hs he hb ht hc hq hlen => ?_⟩
  · have hpass : (s.laneFrameArrives l).stepRefusal l (some (a.ctx, a.ticket)) CtxBody.isOpened = none := by
      rw [State.stepRefusal_laneFrameArrives]
      exact State.stepRefusal_passes hs he ht (by simp [hc]) (by rw [hc]; rfl) hq hlen
    have htake := State.proveRequest_taken (tag := tag) hpass hb (by rw [State.ctx_laneFrameArrives, hc])
    exact ⟨_, (State.powered_laneFrame hr _).trans (by rw [htake]), State.stepTake_effect s l a.ctx _ _ tag⟩
  · have hpass : (s.laneFrameArrives l).stepRefusal l (some (a.ctx, a.ticket)) CtxBody.isProved = none := by
      rw [State.stepRefusal_laneFrameArrives]
      exact State.stepRefusal_passes hs he ht (by simp [hc]) (by rw [hc]; rfl) hq hlen
    have htake := State.sealRequest_taken (tag := tag) hpass hb (by rw [State.ctx_laneFrameArrives, hc])
    exact ⟨_, (State.powered_laneFrame hr _).trans (by rw [htake]), State.stepTake_effect s l a.ctx _ _ tag⟩

end Sys2Proof.Machine
end

section
/-! Proofs for the lane transactions: queue entries answered, contexts ended. The operations that treat one lane are written as a
function of that lane, so that what they do is read off the lane alone. -/

namespace Sys2Proof.Machine

/-! ### Operations of one lane as functions of that lane -/

theorem State.onLane_onLane (s : State) (l : LaneNo) (f g : Lane → Lane) :
    (s.onLane l f).onLane l g = s.onLane l fun ln => g (f ln) := by
  simp [State.onLane]

theorem State.onLane_congr {s : State} {l : LaneNo} {f g : Lane → Lane} (h : f s.lanes[l] = g s.lanes[l]) :
    s.onLane l f = s.onLane l g := by
  simp only [State.onLane, h]

theorem State.onLane_id (s : State) (l : LaneNo) : (s.onLane l fun ln => ln) = s := by
  simp [State.onLane]

/-- The answers of a list enter an answer queue in their order. -/
def PortState.enqueueAll (ps : PortState) (rate : Rate) (as : List Answer) : PortState :=
  as.foldl (fun ps a => ps.enqueue rate a) ps

@[simp] theorem PortState.enqueueAll_rx (ps : PortState) (rate : Rate) (as : List Answer) :
    (ps.enqueueAll rate as).rx = ps.rx := by
  induction as generalizing ps with
  | nil => rfl
  | cons a as ih => exact ih _

@[simp] theorem PortState.enqueueAll_answers (ps : PortState) (rate : Rate) (as : List Answer) :
    (ps.enqueueAll rate as).answers = ps.answers ++ as := by
  induction as generalizing ps with
  | nil => simp [PortState.enqueueAll]
  | cons a as ih => exact (ih _).trans (by simp)

theorem PortState.enqueueAll_tx_busy {ps : PortState} (h : ps.answers ≠ []) (rate : Rate) (as : List Answer) :
    (ps.enqueueAll rate as).tx = ps.tx := by
  induction as generalizing ps with
  | nil => rfl
  | cons a as ih => exact (ih (by simp)).trans (if_neg h)

theorem PortState.enqueueAll_tx_first {ps : PortState} (h : ps.answers = []) (rate : Rate) (a : Answer)
    (as : List Answer) : (ps.enqueueAll rate (a :: as)).tx = .sending a.line rate :=
  (PortState.enqueueAll_tx_busy (ps := ps.enqueue rate a) (by simp) rate as).trans (if_pos h)

theorem State.produceAll_eq (s : State) (l : LaneNo) (as : List Answer) :
    s.produceAll (.lane l) as = s.onLane l fun ln => { ln with port := ln.port.enqueueAll s.laneRate as } := by
  induction as generalizing s with
  | nil => exact (s.onLane_id l).symm
  | cons a as ih =>
    rw [show s.produceAll (.lane l) (a :: as) = (s.produce (.lane l) a).produceAll (.lane l) as from rfl, ih,
      show s.produce (.lane l) a = s.onLane l fun ln => { ln with port := ln.port.enqueue s.laneRate a } from rfl,
      State.onLane_onLane]
    rfl

/-- The WAITING entries that `pick` names, answered: the lane (R8). -/
def Lane.answerWaiting (ln : Lane) (rate : Rate) (pick : Entry → Bool) (r : Reply) : Lane :=
  { ln with
    queue := ln.queue.map fun e => if e.phase == .waiting && pick e then { e with phase := .answered } else e
    port := ln.port.enqueueAll rate
      ((ln.queue.filter fun e => e.phase == .waiting && pick e).map fun e => e.answer r) }

theorem State.answerWaiting_eq (s : State) (l : LaneNo) (pick : Entry → Bool) (r : Reply) :
    s.answerWaiting l pick r = s.onLane l fun ln => ln.answerWaiting s.laneRate pick r := by
  unfold State.answerWaiting
  rw [State.produceAll_eq, State.onLane_onLane]
  exact State.onLane_congr rfl

/-- The RUNNING entry of a context, answered or discarded: the lane (R8, R32). -/
def Lane.answerRunning (ln : Lane) (rate : Rate) (c : CtxNo) (r : Reply) : Lane :=
  { ln with
    queue := (ln.queue.filter fun e => !((e.phase == .running && e.ctx == c) && e.discard)).map fun e =>
      if e.phase == .running && e.ctx == c then { e with phase := .answered } else e
    port := ln.port.enqueueAll rate
      ((ln.queue.filter fun e => (e.phase == .running && e.ctx == c) && !e.discard).map fun e => e.answer r) }

theorem State.answerRunning_eq (s : State) (l : LaneNo) (c : CtxNo) (r : Reply) :
    s.answerRunning l c r = s.onLane l fun ln => ln.answerRunning s.laneRate c r := by
  unfold State.answerRunning
  rw [State.produceAll_eq, State.onLane_onLane]
  exact State.onLane_congr rfl

/-- Answering waiting entries moves places from reservations to answers (R9). -/
theorem Lane.placesHeld_answerWaiting (ln : Lane) (rate : Rate) (pick : Entry → Bool) (r : Reply) :
    (ln.answerWaiting rate pick r).placesHeld = ln.placesHeld := by
  have key (q : List Entry) :
      (q.filter fun e => e.phase == .waiting && pick e).length
        + (q.map fun e => if e.phase == .waiting && pick e then { e with phase := .answered } else e).countP Entry.live
          = q.countP Entry.live := by
    induction q with
    | nil => rfl
    | cons e q ih =>
      rw [List.filter_cons, List.map_cons, List.countP_cons, List.countP_cons]
      cases hx : (e.phase == .waiting && pick e)
      · simp only [Bool.false_eq_true, if_false]
        omega
      · have hlive : e.live = true := by
          simp only [Bool.and_eq_true, beq_iff_eq] at hx
          simp [Entry.live, hx.1]
        simp only [if_true, List.length_cons, hlive]
        simp only [Entry.live, bne_self_eq_false, Bool.false_eq_true, if_false]
        omega
  simp only [Lane.placesHeld, Lane.answerWaiting, PortState.enqueueAll_answers, List.length_append, List.length_map]
  rw [Nat.add_assoc, key]

/-- The transmitter after answers have entered: the first one begins where none stood before (R187). -/
theorem PortState.enqueueAll_tx (ps : PortState) (rate : Rate) (as : List Answer) :
    (ps.enqueueAll rate as).tx = match ps.answers, as with
      | [], a :: _ => .sending a.line rate
      | _, _ => ps.tx := by
  cases h : ps.answers with
  | nil =>
    cases as with
    | nil => rfl
    | cons a as => exact PortState.enqueueAll_tx_first h rate a as
  | cons b bs => exact PortState.enqueueAll_tx_busy (by simp [h]) rate as

/-- Settles O26. -/
theorem queueEntriesAnswered : Obligations.QueueEntriesAnswered := by
  refine fun s l r => ⟨fun pick => ?_, fun c => ?_⟩
  · rw [State.answerWaiting_eq]
    refine ⟨rfl, fun k hk => State.onLane_other s l k _ hk, ?_⟩
    dsimp only
    rw [State.onLane_same]
    exact ⟨rfl, PortState.enqueueAll_rx _ _ _, PortState.enqueueAll_answers _ _ _, PortState.enqueueAll_tx _ _ _,
      Lane.placesHeld_answerWaiting _ _ _ _⟩
  · rw [State.answerRunning_eq]
    refine ⟨rfl, fun k hk => State.onLane_other s l k _ hk, ?_⟩
    dsimp only
    rw [State.onLane_same]
    exact ⟨rfl, rfl, PortState.enqueueAll_rx _ _ _, PortState.enqueueAll_answers _ _ _, PortState.enqueueAll_tx _ _ _⟩

/-! ### The ending of a context (R5, R6) -/

/-- A notice set with the CONTEXT_LOST item that an end cause gives. -/
def Notices.afterEnd (n : Notices) (c : CtxNo) (ticket : BitVec 8) (cause : EndCause) : Notices :=
  match cause with
  | .expired => { n with lost := n.lost.set c (some { ticket := ticket, cause := .expired }) }
  | .revoked => { n with lost := n.lost.set c (some { ticket := ticket, cause := .revoked }) }
  | _ => n

/-- A context freed: the lane (R5 steps 3 to 5). -/
def Lane.freed (ln : Lane) (c : CtxNo) (cause : EndCause) : Lane :=
  { ln.onCtx c fun x => { x with body := .free, pendingEnd := none, endCause := cause } with
    notices := ln.notices.afterEnd c ln.contexts[c].ticket cause }

theorem State.freeContext_eq (s : State) (l : LaneNo) (c : CtxNo) (cause : EndCause) :
    s.freeContext l c cause = s.onLane l fun ln => ln.freed c cause := by
  cases cause
  case expired | revoked =>
    unfold State.freeContext State.addLost State.onCtx
    dsimp only
    rw [State.onLane_onLane]
    exact State.onLane_congr rfl
  all_goals rfl

/-- An ending without a CONTEXT_LOST item changes the context alone. -/
theorem State.freeContext_quiet (s : State) (l : LaneNo) (c : CtxNo) (cause : EndCause) (he : cause ≠ .expired)
    (hr : cause ≠ .revoked) :
    s.freeContext l c cause = s.onCtx l c fun x => { x with body := .free, pendingEnd := none, endCause := cause } := by
  cases cause
  case expired => exact absurd rfl he
  case revoked => exact absurd rfl hr
  all_goals rfl

/-- The passage table after the release of a context's claim (R47). -/
def Table.release (t : Table) (now : Nat) (l : LaneNo) (c : CtxNo) : Table :=
  match t.claimOf l c with
  | none => t
  | some e =>
    match e.body with
    | .claimed _ (some p) => if p.expiry ≤ now then t.remove e.tagId else t.put (p.restore e.tagId)
    | _ => t.remove e.tagId

theorem State.releaseClaim_table (s : State) (l : LaneNo) (c : CtxNo) :
    (s.releaseClaim l c).table = s.table.release s.now l c := by
  unfold State.releaseClaim Table.release
  cases s.table.claimOf l c with
  | none => rfl
  | some e =>
    obtain ⟨id, lane, counter, body⟩ := e
    cases body with
    | sealed _ _ _ => rfl
    | claimed _ previous =>
      cases previous with
      | none => rfl
      | some p => exact apply_ite State.table _ _ _

/-- The lanes after an ending are those of the freeing alone. -/
theorem State.endContext_lanes (s : State) (l : LaneNo) (c : CtxNo) (cause : EndCause) :
    (s.endContext l c cause).lanes = (s.freeContext l c cause).lanes := by
  simp only [State.endContext, State.freeContext_eq, State.onLane_lanes]
  cases (s.ctx l c).body.master <;> cases (s.ctx l c).body.hasClaim <;> simp

theorem State.endContext_table (s : State) (l : LaneNo) (c : CtxNo) (cause : EndCause) :
    (s.endContext l c cause).table = if (s.ctx l c).body.hasClaim then (s.releaseClaim l c).table else s.table := by
  simp only [State.endContext, State.freeContext_table]
  cases (s.ctx l c).body.master <;> cases (s.ctx l c).body.hasClaim <;> simp [State.releaseClaim_table, State.now]

/-- What an ending does to the slots and the store is the release of the master reference. -/
theorem State.endContext_slots_store (s : State) (l : LaneNo) (c : CtxNo) (cause : EndCause) :
    match (s.ctx l c).body.master with
    | some n => (s.endContext l c cause).slots = (s.release n).slots ∧ (s.endContext l c cause).store = (s.release n).store
    | none => (s.endContext l c cause).slots = s.slots ∧ (s.endContext l c cause).store = s.store := by
  unfold State.endContext
  dsimp only
  cases (s.ctx l c).body.master <;> cases (s.ctx l c).body.hasClaim <;> simp

theorem Lane.freed_notices (ln : Lane) (c : CtxNo) (cause : EndCause) :
    (ln.freed c cause).notices = ln.notices.afterEnd c ln.contexts[c].ticket cause := rfl

/-- Settles O24. -/
theorem contextEndSteps : Obligations.ContextEndSteps := by
  intro s l c cause
  have hlanes := s.endContext_lanes l c cause
  rw [State.freeContext_eq] at hlanes
  have hlane : (s.endContext l c cause).lanes[l] = s.lanes[l].freed c cause := by rw [hlanes, State.onLane_same]
  refine ⟨s.endContext_frame l c cause, fun k hk => ?_, ?_, ?_, s.endContext_slots_store l c cause,
    s.endContext_table l c cause⟩
  · rw [hlanes, State.onLane_other s l k _ hk]
  · rw [hlane]
    rfl
  · rw [hlane, Lane.freed_notices]
    cases cause <;> rfl

end Sys2Proof.Machine
end

section
/-! Proofs for the lane transactions: endings from outside a job, DROP, POLL and the expiry of a context. -/

namespace Sys2Proof.Machine

/-! ### Endings from outside a job (R6, R29, R34) -/

theorem finRange_three : List.finRange 3 = [0, 1, 2] := by decide

theorem finRange_four : List.finRange 4 = [0, 1, 2, 3] := by decide

theorem State.reachEnd_free {s : State} {l : LaneNo} {c : CtxNo} (h : (s.ctx l c).body = .free) (p : PendingEnd) :
    s.reachEnd l c p = s := if_pos h

theorem State.reachEnd_inFlight {s : State} {l : LaneNo} {c : CtxNo} (h : (s.ctx l c).body ≠ .free)
    (hf : (s.ctx l c).inFlight = true) (p : PendingEnd) : s.reachEnd l c p = s.recordPending l c p :=
  (if_neg h).trans (if_pos hf)

theorem State.reachEnd_open {s : State} {l : LaneNo} {c : CtxNo} (h : (s.ctx l c).body ≠ .free)
    (hf : (s.ctx l c).inFlight = false) (p : PendingEnd) : s.reachEnd l c p = s.endContext l c p.cause :=
  (if_neg h).trans (if_neg (by simp [hf]))

/-- A cause recorded: LANE_RESET always, another where none is present (R6). -/
theorem State.recordPending_eq (s : State) (l : LaneNo) (c : CtxNo) (p : PendingEnd) :
    s.recordPending l c p = s.onCtx l c fun x =>
      { x with pendingEnd := if p = .laneReset then some .laneReset else some (x.pendingEnd.getD p) } := by
  unfold State.recordPending
  congr 1
  funext x
  cases p <;> cases x.pendingEnd <;> rfl

theorem State.leaveServiceLane_eq (s : State) (l : LaneNo) :
    s.leaveServiceLane l =
      ((((s.answerWaiting l (fun _ => true) (.code .seedRequired)).reachEnd l 0 .laneReset).reachEnd l 1
        .laneReset).reachEnd l 2 .laneReset).addServiceChanged l := by
  rw [State.leaveServiceLane, State.resetContexts_eq]

theorem State.leaveService_eq (s : State) :
    s.leaveService =
      (((State.leaveServiceLane { s with service := .seedWait } 0).leaveServiceLane 1).leaveServiceLane 2).leaveServiceLane
        3 := by
  simp only [State.leaveService, finRange_four, List.foldl_cons, List.foldl_nil]

theorem CtxBody.provingOn_iff (b : CtxBody) (n : SlotNo) : b.provingOn n = true ↔ ∃ o p, b = .proving o n p := by
  cases b with
  | proving o m p => simp [CtxBody.provingOn]
  | _ => simp [CtxBody.provingOn]

/-- Settles O25. -/
theorem outsideEnding : Obligations.OutsideEnding := by
  refine ⟨fun s l c p => ⟨fun h => State.reachEnd_free h p, fun h hf => State.reachEnd_open h hf p, fun h hf => ?_⟩,
    fun s => ?_, fun s n => ?_, fun s n l => ⟨_, fun e => CtxBody.provingOn_iff _ n, ?_⟩, fun s n l c => ?_⟩
  · rw [State.reachEnd_inFlight h hf, State.recordPending_eq]
    rfl
  · intro leave
    have hleave : leave = State.leaveServiceLane := by
      funext u l
      rw [State.leaveServiceLane_eq]
      dsimp only [leave]
      generalize State.reachEnd _ l 2 _ = w
      rfl
    rw [hleave, State.leaveService_eq]
  · simp only [State.withdrawMaster, finRange_four, List.foldl_cons, List.foldl_nil]
  · simp only [State.withdrawLane, finRange_three, List.foldl_cons, List.foldl_nil]
  · refine ⟨fun o p h => ?_, fun o p h hf => ?_, fun o h hf => ?_, fun h1 h2 h3 => ?_⟩
    · simp [State.withdrawContext, h]
    · simp [State.withdrawContext, h, hf]
    · have hrec : s.withdrawContext n l c = s.recordPending l c .revoked := by simp [State.withdrawContext, h, hf]
      rw [hrec, State.recordPending_eq]
      rfl
    · unfold State.withdrawContext
      split
      · next o m p h => exact if_neg fun hm => h1 o p (by rw [h, hm])
      · next o m h => exact if_neg fun hm => by simp [h3 o (by rw [h, hm.1])] at hm
      · next o m p h => exact if_neg fun hm => hm.2 (h2 o p (by rw [h, hm.1]))
      · rfl

/-! ### DROP (R22) -/

/-- Settles O27. -/
theorem dropServed : Obligations.DropServed := by
  intro s l tag body hr
  have hexec := State.powered_laneFrame hr fun t => t.dropRequest l tag body
  refine ⟨fun h => hexec.trans ?_, fun h hb => hexec.trans ?_, fun a h hb => ⟨fun hs => hexec.trans ?_, fun ht hf =>
    hexec.trans ?_⟩⟩
  · simp only [State.dropRequest, State.laneFrameArrives_service, h, if_true]
    rfl
  · simp only [State.dropRequest, State.laneFrameArrives_service, h, if_false, hb]
    rfl
  · simp only [State.dropRequest, State.laneFrameArrives_service, h, if_false, hb, State.ctx_laneFrameArrives]
    rw [if_pos hs]
    rfl
  · simp only [State.dropRequest, State.laneFrameArrives_service, h, if_false, hb, State.ctx_laneFrameArrives]
    rw [if_neg (by simp [ht, hf])]
    rfl

/-! ### POLL (R27) -/

theorem State.pollRequest_refused {s : State} {l : LaneNo} {tag : Byte} {body : List Byte} {code : Code}
    (h : s.service = .starting ∧ code = .notReady ∨ s.service ≠ .starting ∧ body ≠ [] ∧ code = .malformed) :
    s.pollRequest l tag body = s.laneReply l 0x05 tag (.code code) := by
  obtain ⟨hs, rfl⟩ | ⟨hs, hb, rfl⟩ := h
  · exact if_pos hs
  · have : readEmpty body = none := by simp [readEmpty, hb]
    simp only [State.pollRequest, hs, if_false, this]
    rfl

theorem Notices.firstLost_eq_none {n : Notices} (h : ∀ c : CtxNo, n.lost[c] = none) : n.firstLost = none := by
  simp [Notices.firstLost, h]

/-- The CONTEXT_LOST item found is that of the lowest-numbered context that has one (R27). -/
theorem Notices.firstLost_eq_some {n : Notices} {c : CtxNo} {x : Lost} (h : n.lost[c] = some x)
    (hd : ∀ d : CtxNo, d < c → n.lost[d] = none) : n.firstLost = some (c, x) := by
  rw [Notices.firstLost, finRange_three]
  fin_cases c
  · simp_all
  · have := hd 0 (by decide)
    simp_all
  · have := hd 0 (by decide)
    have := hd 1 (by decide)
    simp_all

/-- Without a CONTEXT_LOST item the two other items follow in their order (R27). -/
theorem Notices.take_of_no_lost {n : Notices} (h : ∀ c : CtxNo, n.lost[c] = none) :
    n.take =
      if n.serviceChanged then (.serviceChanged, { n with serviceChanged := false })
      else if n.signingChanged then (.signingChanged, { n with signingChanged := false })
      else (.none, n) := by
  rw [Notices.take, Notices.firstLost_eq_none h]

/-- POLL once its checks have passed returns and removes the item taken. -/
theorem State.pollRequest_served {s : State} {l : LaneNo} {tag : Byte} {item : Notice} {left : Notices}
    (hs : s.service ≠ .starting) (h : s.lanes[l].notices.take = (item, left)) :
    s.pollRequest l tag [] =
      State.laneReply { s with lanes := s.lanes.set l { s.lanes[l] with notices := left } } l 0x05 tag
        (.poll
          { notice := item, left := left.count, service := s.service
            lane := if s.config.lanes[l].enabled then .up else .off
            timeValid := s.clock.timeValid, signing := s.signing }) := by
  have hb : readEmpty [] = some () := rfl
  have hleft : (s.onLane l fun ln => { ln with notices := ln.notices.take.2 }) =
      { s with lanes := s.lanes.set l { s.lanes[l] with notices := left } } := by
    simp only [State.onLane, h]
  simp only [State.pollRequest, hs, if_false, hb, State.pollReport, h, hleft]
  rfl

/-- Settles O28. -/
theorem pollServed : Obligations.PollServed := by
  refine ⟨fun s l tag body hr => ⟨fun hs => ?_, fun hs hb => ?_⟩, fun s l tag hr hs => ?_⟩
  · exact (State.powered_laneFrame hr _).trans (by
      rw [State.pollRequest_refused (s := s.laneFrameArrives l) (.inl ⟨hs, rfl⟩)]; rfl)
  · exact (State.powered_laneFrame hr _).trans (by
      rw [State.pollRequest_refused (s := s.laneFrameArrives l) (.inr ⟨hs, hb, rfl⟩)]; rfl)
  · have served {item : Notice} {left : Notices}
        (h : (s.laneFrameArrives l).lanes[l].notices.take = (item, left)) :=
      (State.powered_laneFrame hr fun t => t.pollRequest l tag []).trans
        (by rw [State.pollRequest_served (s := s.laneFrameArrives l) hs h])
    refine ⟨fun c x h hd => served ?_, fun h hsv => served ?_, fun h hsv hsg => served ?_, fun h hsv hsg => served ?_⟩
    · rw [Notices.take, Notices.firstLost_eq_some h hd]
    · rw [Notices.take_of_no_lost h, hsv]
      rfl
    · rw [Notices.take_of_no_lost h, hsv, hsg]
      rfl
    · rw [Notices.take_of_no_lost h, hsv, hsg]
      rfl

/-! ### The expiry of a context (R24) -/

/-- Settles O29. -/
theorem contextExpires : Obligations.ContextExpires := by
  refine fun s l c => ⟨fun o ho hd => if_pos ?_, fun h => if_neg ?_⟩
  · rw [State.deadlineReached, ho]
    exact decide_eq_true hd
  · rw [Bool.not_eq_true, State.deadlineReached]
    cases ho : (s.ctx l c).body.occupancy with
    | none => rfl
    | some o => exact decide_eq_false (Nat.not_le.mpr (h o ho))

end Sys2Proof.Machine
end

section
/-! Proofs for the lane transactions: the start of the jobs and their completions. -/

namespace Sys2Proof.Machine

/-! ### One context replaced, and what keeps the contexts -/

theorem State.onCtx_onCtx (s : State) (l : LaneNo) (c : CtxNo) (f g : Context → Context) :
    (s.onCtx l c f).onCtx l c g = s.onCtx l c fun x => g (f x) := by
  simp [State.onCtx, State.onLane, Lane.onCtx]

theorem State.onCtx_congr {s : State} {l : LaneNo} {c : CtxNo} {f g : Context → Context}
    (h : f (s.ctx l c) = g (s.ctx l c)) : s.onCtx l c f = s.onCtx l c g := by
  have : f s.lanes[l].contexts[c] = g s.lanes[l].contexts[c] := h
  simp only [State.onCtx, State.onLane, Lane.onCtx, this]

theorem State.ctx_of_lanes {s t : State} (h : t.lanes = s.lanes) (l : LaneNo) (c : CtxNo) : t.ctx l c = s.ctx l c := by
  rw [State.ctx, h]
  rfl

@[simp] theorem State.ctx_answerWaiting (s : State) (l k : LaneNo) (pick : Entry → Bool) (r : Reply) (c : CtxNo) :
    (s.answerWaiting l pick r).ctx k c = s.ctx k c := by
  rw [State.answerWaiting_eq]
  exact State.ctx_onLane (s := s) (l := l) (by rfl) k c

@[simp] theorem State.ctx_answerRunning (s : State) (l k : LaneNo) (d c : CtxNo) (r : Reply) :
    (s.answerRunning l d r).ctx k c = s.ctx k c := by
  rw [State.answerRunning_eq]
  exact State.ctx_onLane (s := s) (l := l) (by rfl) k c

/-! ### The start of the jobs (R15, R20, R119) -/

theorem State.startEntry_open {s : State} {l : LaneNo} {e : Entry} (h : e.req = .openReq) :
    s.startEntry l e = s.startOpen l e := by simp only [State.startEntry, h]

theorem State.startEntry_prove {s : State} {l : LaneNo} {e : Entry} {r : Mac} (h : e.req = .proveReq r) :
    s.startEntry l e = s.startProve l e r := by simp only [State.startEntry, h]

theorem State.startEntry_seal {s : State} {l : LaneNo} {e : Entry} {cls : BitVec 4} {ref : BitVec 16}
    (h : e.req = .sealReq cls ref) : s.startEntry l e = s.startSeal l e cls ref := by simp only [State.startEntry, h]

theorem State.startOpen_active {s : State} {l : LaneNo} {e : Entry} {o : Occupancy} {m : SlotNo} {d : KeyData}
    (hc : (s.ctx l e.ctx).body = .opening o m) (hd : s.slots[m].body = .held .active d) :
    s.startOpen l e = (s.setRunning l e).setJob (.openJob l e.ctx d.key o.tagId o.generation o.issuer) := by
  simp only [State.startOpen, hc, hd]

theorem State.startOpen_expired {s : State} {l : LaneNo} {e : Entry} {o : Occupancy} {m : SlotNo} {d : KeyData}
    (hc : (s.ctx l e.ctx).body = .opening o m) (hd : s.slots[m].body = .held .expired d) :
    s.startOpen l e = (s.answerAtStart l e .generationExpired).endContext l e.ctx .failed := by
  simp only [State.startOpen, hc, hd]

/-- A master slot that is neither ACTIVE nor EXPIRED is taken as WITHDRAWN (R15). -/
theorem State.startOpen_withdrawn {s : State} {l : LaneNo} {e : Entry} {o : Occupancy} {m : SlotNo}
    (hc : (s.ctx l e.ctx).body = .opening o m) (ha : ∀ d, s.slots[m].body ≠ .held .active d)
    (hx : ∀ d, s.slots[m].body ≠ .held .expired d) :
    s.startOpen l e = (s.answerAtStart l e .keyWithdrawn).endContext l e.ctx .revoked := by
  unfold State.startOpen
  rw [hc]
  dsimp only
  split
  · next d h => exact absurd h (ha d)
  · next d h => exact absurd h (hx d)
  · rfl

theorem State.startProve_proving {s : State} {l : LaneNo} {e : Entry} {o : Occupancy} {m : SlotNo} {p : TagProof}
    (hc : (s.ctx l e.ctx).body = .proving o m p) (r : Mac) :
    s.startProve l e r =
      (s.setRunning l e).setJob (.proveJob l e.ctx p.tagKey p.challenge o.nonce o.counter o.tagId r) := by
  simp only [State.startProve, hc]

theorem State.startSeal_unsigned {s : State} {l : LaneNo} {e : Entry} {o : Occupancy} {p : TagProof} {v : ClaimVerdict}
    (hc : (s.ctx l e.ctx).body = .sealing o p v) (hs : s.signingSelection = none) (cls : BitVec 4) (ref : BitVec 16) :
    s.startSeal l e cls ref =
      (s.answerAtStart l e .noSigningKey).onCtx l e.ctx fun x => { x with body := .proved o p v } := by
  simp only [State.startSeal, hc, hs]

theorem State.startSeal_signed {s : State} {l : LaneNo} {e : Entry} {o : Occupancy} {p : TagProof} {v : ClaimVerdict}
    {g : Signer} (hc : (s.ctx l e.ctx).body = .sealing o p v) (hs : s.signingSelection = some g) (cls : BitVec 4)
    (ref : BitVec 16) :
    s.startSeal l e cls ref =
      let t := ((s.reference g.slot).setRunning l e).setJob
        (.sealJob l e.ctx g.slot g.key g.generation g.holdover cls ref)
      if g.holdover then t.latch .keyOverrun else t := by
  simp only [State.startSeal, hc, hs]

/-- Settles O38. -/
theorem jobsStart : Obligations.JobsStart := by
  intro s l e mark moved steps admits answered
  refine ⟨fun o m hreq hc => ?_, fun o m p r hreq hc => ?_, fun o p v cls ref hreq hc => ?_, fun req => rfl⟩
  · have hstart : s.startChoice (.admitting l e) = admits.startOpen l e := State.startEntry_open hreq
    rw [hstart]
    refine ⟨fun d hd => State.startOpen_active (s := admits) hc hd, fun d hd => ?_,
      fun d hd => State.startOpen_expired (s := admits) hc hd⟩
    exact State.startOpen_withdrawn (s := admits) hc (fun d' h => by cases hd.symm.trans h)
      (fun d' h => by cases hd.symm.trans h)
  · have hstart : s.startChoice (.step l e) = steps.startProve l e r := State.startEntry_prove hreq
    rw [hstart]
    exact State.startProve_proving (s := steps) hc r
  · have hstart : s.startChoice (.step l e) = steps.startSeal l e cls ref := State.startEntry_seal hreq
    rw [hstart]
    refine ⟨fun hsig => State.startSeal_unsigned (s := steps) hc hsig cls ref, fun g hsig => ?_⟩
    rw [State.startSeal_signed (s := steps) hc hsig]
    cases g.holdover <;> rfl

/-! ### The completions (R15, R17, R21) -/

/-- A pending end is applied to a context left open (R6). -/
theorem State.applyPending_some {s : State} {l : LaneNo} {c : CtxNo} {p : PendingEnd}
    (hp : (s.ctx l c).pendingEnd = some p) (hb : (s.ctx l c).body ≠ .free) :
    s.applyPending l c = s.endContext l c p.cause := by
  simp [State.applyPending, hp, hb]

theorem State.applyPending_none {s : State} {l : LaneNo} {c : CtxNo} (hp : (s.ctx l c).pendingEnd = none) :
    s.applyPending l c = s := by
  simp [State.applyPending, hp]

theorem Kfu.bootCount_some {k : Kfu} {b : BitVec 32} (h : k.boot = some b) : k.bootCount = b := by
  simp [Kfu.bootCount, h]

theorem Kfu.lastExhaustion_iff {k : Kfu} {b : BitVec 32} (h : k.boot = some b) :
    k.lastExhaustion = true ↔ k.sequence = 0xFFFFFFFF ∧ b = 0xFFFFFFFF := by
  simp [Kfu.lastExhaustion, Kfu.bootCount_some h, lastCount]

/-- The OPEN completion applied to an OPENING context, up to its pending end. -/
theorem State.applyOpen_opening {s : State} {l : LaneNo} {c : CtxNo} {o : Occupancy} {m : SlotNo}
    (h : (s.ctx l c).body = .opening o m) (key : Block) (ch : Mac) :
    s.applyOpen l c key ch =
      (State.answerRunning
        (s.onCtx l c fun _ =>
          { s.ctx l c with inFlight := false, body := .opened o m { tagKey := key, challenge := ch } }) l c
        (if (s.ctx l c).pendingEnd = some .revoked then .code .keyWithdrawn
          else .opened c (s.ctx l c).ticket ch)).applyPending l c := by
  simp only [State.applyOpen, h, State.clearMark, State.onCtx_onCtx]
  rw [State.onCtx_congr (g := fun _ =>
    { s.ctx l c with inFlight := false, body := .opened o m { tagKey := key, challenge := ch } }) rfl]

/-- Settles O39. -/
theorem openCompletes : Obligations.OpenCompletes := by
  intro s l c k id g i o m b hj hc hb x ch last free counted reply
  have hcount : s.freeUnit.advanceSequence = counted := by
    unfold State.advanceSequence
    rw [show s.freeUnit.kfu.bootCount = b from Kfu.bootCount_some hb]
    rfl
  have hctx : counted.ctx l c = x := State.ctx_of_lanes (by rw [← hcount]; simp) l c
  have hlast : s.kfu.lastExhaustion = true ↔ last := Kfu.lastExhaustion_iff hb
  have hexec : exec .openCompletion s =
      .next (State.driveAlerts (State.arbitrate
        (let t := counted.applyOpen l c (derive k id g i) ch
         if s.kfu.lastExhaustion then t.leaveService else t))) := by
    simp only [exec, execOpenCompletion, hj, hcount, Kfu.bootCount_some hb]
    rfl
  have happly := State.applyOpen_opening (s := counted) (l := l) (c := c) (by rw [hctx]; exact hc) (derive k id g i) ch
  rw [hctx] at happly
  refine ⟨_, rfl, ?_⟩
  generalize hu : (counted.onCtx l c fun _ =>
    { x with inFlight := false, body := .opened o m { tagKey := derive k id g i, challenge := ch } }) = u at happly ⊢
  have hux : u.ctx l c =
      { x with inFlight := false, body := .opened o m { tagKey := derive k id g i, challenge := ch } } := by
    rw [← hu, State.ctx_onCtx_same]
  have hnone (hp : x.pendingEnd = none) : counted.applyOpen l c (derive k id g i) ch = u.answerRunning l c reply := by
    rw [happly, State.applyPending_none (by rw [State.ctx_answerRunning, hux]; exact hp)]
  have hsome (p : PendingEnd) (hp : x.pendingEnd = some p) :
      counted.applyOpen l c (derive k id g i) ch = (u.answerRunning l c reply).endContext l c p.cause := by
    rw [happly, State.applyPending_some (by rw [State.ctx_answerRunning, hux]; exact hp)
      (by rw [State.ctx_answerRunning, hux]; simp)]
  refine ⟨fun hp hl => ?_, fun p hp hl => ?_, fun hp hl => ?_, fun p hp hl => ?_⟩
  · rw [hexec, hnone hp, if_neg (hlast.not.mpr hl)]
  · rw [hexec, hsome p hp, if_neg (hlast.not.mpr hl)]
  · rw [hexec, hnone hp, if_pos (hlast.mpr hl)]
  · rw [hexec, hsome p hp, if_pos (hlast.mpr hl)]

/-- A classification changes the passage table and the flags only (R38). -/
theorem State.classify_frame (s : State) (l : LaneNo) (c : CtxNo) (id : TagId) (k : Counter) (strict : Bool) :
    (s.classify l c id k strict).1 =
      { s with table := (s.classify l c id k strict).1.table, flags := (s.classify l c id k strict).1.flags } := by
  unfold State.classify
  split
  · dsimp only
    rw [State.makeRoom_frame]
  · split
    · rfl
    · dsimp only
      split
      · rfl
      · split
        · rfl
        · split
          · rfl
          · split <;> rfl

@[simp] theorem State.ctx_classify (s : State) (l k : LaneNo) (c d : CtxNo) (id : TagId) (n : Counter) (strict : Bool) :
    (s.classify l c id n strict).1.ctx k d = s.ctx k d :=
  State.ctx_of_lanes (by rw [State.classify_frame]) k d

@[simp] theorem State.ctx_release (s : State) (n : SlotNo) (l : LaneNo) (c : CtxNo) : (s.release n).ctx l c = s.ctx l c :=
  State.ctx_of_lanes (State.release_lanes s n) l c

theorem Verdict.suspectFlag_eq (v : Verdict) : v.suspectFlag = decide (v = .suspect ∨ v = .suspectHeld) := by
  cases v <;> rfl

theorem Verdict.claim_eq_none {v : Verdict} (hn : v ≠ .new) (hs : v ≠ .suspect) : v.claim = none := by
  cases v
  case new => exact absurd rfl hn
  case suspect => exact absurd rfl hs
  all_goals rfl

/-- Settles O40. -/
theorem proveCompletes : Obligations.ProveCompletes := by
  intro s l c k ch n ct id resp o m p hj hc x free base r answer ended proved
  have hexec : exec .proveCompletion s =
      .next (State.driveAlerts (State.arbitrate
        (if response k ch n ct id == resp then base.applyMatch l c o p
         else (base.answerRunning l c (.code .authFailed)).freeContext l c .failed))) := by
    have hbase : (s.freeUnit.clearMark l c).release m = base := by
      rw [State.clearMark, State.onCtx_congr (g := fun _ => { x with inFlight := false }) rfl]
      rfl
    simp only [exec, execProveCompletion, hj, State.applyProve, show (s.freeUnit.ctx l c).body = .proving o m p from hc,
      hbase]
  have hanswer : r.2.reply o.watch = answer := by
    simp only [Classified.reply, Verdict.suspectFlag_eq]
    rfl
  have hpending : (r.1.ctx l c).pendingEnd = x.pendingEnd := by
    rw [State.ctx_classify, State.ctx_release, State.ctx_onCtx_same]
  have hfree (u : State) (cause : EndCause) (he : cause ≠ .expired) (hr : cause ≠ .revoked) :
      u.freeContext l c cause = ended u cause := u.freeContext_quiet l c cause he hr
  refine ⟨fun h => ?_, fun h hn hs => ?_, fun v h hv => ?_⟩
  · rw [hexec, if_neg (by simpa using h), hfree _ _ (by decide) (by decide)]
  · have hmatch : base.applyMatch l c o p = ended (r.1.answerRunning l c answer) .verdict := by
      rw [State.applyMatch, ← hanswer, ← hfree _ _ (by decide) (by decide)]
      simp only [show (base.classify l c o.tagId o.counter o.strict).2.verdict.claim = none from
        Verdict.claim_eq_none hn hs]
      rfl
    rw [hexec, if_pos (by simpa using h), hmatch]
  · have hclaim : r.2.verdict.claim = some v := by
      obtain ⟨rfl, hv⟩ | ⟨rfl, hv⟩ := hv <;> rw [hv] <;> rfl
    have hmatch : base.applyMatch l c o p = (proved v).applyPending l c := by
      rw [State.applyMatch]
      simp only [show (base.classify l c o.tagId o.counter o.strict).2.verdict.claim = some v from hclaim]
      rw [show (base.classify l c o.tagId o.counter o.strict).2.reply o.watch = answer from hanswer]
    have hctx : (proved v).ctx l c = { r.1.ctx l c with body := .proved o p v } := by
      rw [State.ctx_onCtx_same, State.ctx_answerRunning]
    rw [hexec, if_pos (by simpa using h), hmatch]
    refine ⟨fun hp => ?_, fun q hp => ?_⟩
    · rw [State.applyPending_none (by rw [hctx]; exact hpending.trans hp)]
    · rw [State.applyPending_some (by rw [hctx]; exact hpending.trans hp) (by rw [hctx]; simp)]

/-- Settles O41. -/
theorem sealCompletes : Obligations.SealCompletes := by
  intro s l c n k g h cls ref o p v e hj hc he r sealedEntry done
  have hseal : s.freeUnit.sealClaim l c r.counter r.seconds = done := by
    simp only [State.sealClaim, State.freeUnit_table, he]
    rfl
  have hassemble : s.freeUnit.assemble l o v g h cls ref = r := rfl
  simp only [exec, execSealCompletion, hj, State.applySeal, show (s.freeUnit.ctx l c).body = .sealing o p v from hc,
    hassemble, hseal, State.clearMark]
  rw [State.freeContext_quiet _ _ _ _ (by decide) (by decide), State.onCtx_onCtx]

end Sys2Proof.Machine
end

section
/-! Proofs for the lane transactions: the passage table as an ordered list, and its tie to the contexts' claims (R3, R36). -/

namespace Sys2Proof.Machine

/-! ### An entry put and removed -/

/-- What the table holds after an entry has been put: it, and the entries of other tag IDs. -/
theorem mem_putEntry {xs : List Passage} (h : xs.Pairwise fun a b => a.tagId < b.tagId) (e x : Passage) :
    x ∈ putEntry e xs ↔ x = e ∨ x ∈ xs ∧ x.tagId ≠ e.tagId := by
  induction xs with
  | nil => simp [putEntry]
  | cons y ys ih =>
    rw [List.pairwise_cons] at h
    obtain ⟨hy, hys⟩ := h
    rw [putEntry]
    split
    · next hlt =>
      have : ∀ z ∈ y :: ys, z.tagId ≠ e.tagId := by
        rintro z (_ | ⟨_, hz⟩)
        · exact (BitVec.ne_of_lt hlt).symm
        · exact (BitVec.ne_of_lt (BitVec.lt_trans hlt (hy z hz))).symm
      constructor
      · rintro (_ | ⟨_, hx⟩)
        · exact .inl rfl
        · exact .inr ⟨hx, this x hx⟩
      · rintro (rfl | ⟨hx, -⟩)
        · exact List.mem_cons_self
        · exact List.mem_cons_of_mem _ hx
    · split
      · next heq =>
        have : ∀ z ∈ ys, z.tagId ≠ e.tagId := fun z hz => heq ▸ (BitVec.ne_of_lt (hy z hz)).symm
        simp only [List.mem_cons]
        constructor
        · rintro (rfl | hx)
          · exact .inl rfl
          · exact .inr ⟨.inr hx, this x hx⟩
        · rintro (rfl | ⟨rfl | hx, hne⟩)
          · exact .inl rfl
          · exact absurd heq.symm hne
          · exact .inr hx
      · next hne =>
        rw [List.mem_cons, ih hys, List.mem_cons]
        constructor
        · rintro (rfl | rfl | ⟨hx, hx'⟩)
          · exact .inr ⟨.inl rfl, fun h => hne h.symm⟩
          · exact .inl rfl
          · exact .inr ⟨.inr hx, hx'⟩
        · rintro (rfl | ⟨rfl | hx, hx'⟩)
          · exact .inr (.inl rfl)
          · exact .inl rfl
          · exact .inr (.inr ⟨hx, hx'⟩)

theorem putEntry_pairwise {xs : List Passage} (h : xs.Pairwise fun a b => a.tagId < b.tagId) (e : Passage) :
    (putEntry e xs).Pairwise fun a b => a.tagId < b.tagId := by
  induction xs with
  | nil => simp [putEntry]
  | cons y ys ih =>
    have hall := h
    rw [List.pairwise_cons] at h
    obtain ⟨hy, hys⟩ := h
    rw [putEntry]
    split
    · next hlt =>
      refine List.pairwise_cons.mpr ⟨?_, hall⟩
      rintro z (_ | ⟨_, hz⟩)
      · exact hlt
      · exact BitVec.lt_trans hlt (hy z hz)
    · split
      · next heq => exact List.pairwise_cons.mpr ⟨fun z hz => heq ▸ hy z hz, hys⟩
      · next hnlt hne =>
        refine List.pairwise_cons.mpr ⟨fun z hz => ?_, ih hys⟩
        rw [mem_putEntry hys] at hz
        obtain rfl | ⟨hz, -⟩ := hz
        · exact BitVec.lt_of_le_ne (BitVec.not_lt.mp hnlt) fun h => hne h.symm
        · exact hy z hz

theorem length_putEntry_le (xs : List Passage) (e : Passage) : (putEntry e xs).length ≤ xs.length + 1 := by
  induction xs with
  | nil => simp [putEntry]
  | cons y ys ih =>
    rw [putEntry]
    split
    · simp
    · split <;> simp
      omega

/-- An entry put in place of one of the same tag ID leaves the number of entries. -/
theorem length_putEntry_of_mem {xs : List Passage} (h : xs.Pairwise fun a b => a.tagId < b.tagId) {e x : Passage}
    (hx : x ∈ xs) (hid : x.tagId = e.tagId) : (putEntry e xs).length = xs.length := by
  induction xs with
  | nil => cases hx
  | cons y ys ih =>
    rw [List.pairwise_cons] at h
    obtain ⟨hy, hys⟩ := h
    rw [putEntry]
    split
    · next hlt =>
      rcases List.mem_cons.mp hx with rfl | hx
      · exact absurd (hid ▸ hlt) (BitVec.lt_irrefl _)
      · exact absurd (BitVec.lt_trans hlt (hid ▸ hy x hx)) (BitVec.lt_irrefl _)
    · split
      · rfl
      · next hne =>
        rcases List.mem_cons.mp hx with rfl | hx
        · exact absurd hid.symm hne
        · rw [List.length_cons, ih hys hx, List.length_cons]

/-- In an ordered table a tag ID names one entry. -/
theorem Table.Ordered.eq_of_tagId {t : Table} (h : t.Ordered) {a b : Passage} (ha : a ∈ t.entries) (hb : b ∈ t.entries)
    (hid : a.tagId = b.tagId) : a = b := by
  have hall : t.entries.Pairwise fun x y => x.tagId = y.tagId → x = y :=
    List.Pairwise.imp (fun hlt heq => absurd (heq ▸ hlt) (BitVec.lt_irrefl _)) h
  have : Std.Symm fun x y : Passage => x.tagId = y.tagId → x = y := ⟨fun _ _ hxy hid => (hxy hid.symm).symm⟩
  exact hall.forall_of_forall (fun _ _ _ => rfl) ha hb hid

theorem Table.find_eq_some {t : Table} {id : TagId} {e : Passage} (h : t.find id = some e) :
    e ∈ t.entries ∧ e.tagId = id :=
  ⟨List.mem_of_find?_eq_some h, by simpa using List.find?_some h⟩

theorem Table.find_eq_none {t : Table} {id : TagId} (h : t.find id = none) : ∀ e ∈ t.entries, e.tagId ≠ id := by
  simpa [Table.find, List.find?_eq_none] using h

/-! ### The tie to the claims -/

theorem Passage.claimedBy_iff (e : Passage) (l : LaneNo) (c : CtxNo) :
    e.claimedBy l c = true ↔ e.lane = l ∧ e.owner = some c := by
  unfold Passage.claimedBy Passage.owner
  cases e.body <;> simp

theorem CtxBody.hasClaim_eq (b : CtxBody) : b.hasClaim = b.claim.isSome := by
  cases b <;> rfl

/-- The claims that the contexts hold. -/
def State.claims (s : State) (l : LaneNo) (c : CtxNo) : Option (TagId × Counter) := (s.ctx l c).body.claim

/-- The claims with one context's replaced. -/
def setClaim (claims : LaneNo → CtxNo → Option (TagId × Counter)) (l : LaneNo) (c : CtxNo) (x : Option (TagId × Counter)) :
    LaneNo → CtxNo → Option (TagId × Counter) :=
  fun k d => if k = l ∧ d = c then x else claims k d

@[simp] theorem setClaim_same (claims : LaneNo → CtxNo → Option (TagId × Counter)) (l : LaneNo) (c : CtxNo)
    (x : Option (TagId × Counter)) : setClaim claims l c x l c = x := if_pos ⟨rfl, rfl⟩

theorem setClaim_other {claims : LaneNo → CtxNo → Option (TagId × Counter)} {l k : LaneNo} {c d : CtxNo}
    (x : Option (TagId × Counter)) (h : ¬ (k = l ∧ d = c)) : setClaim claims l c x k d = claims k d := if_neg h

/-- Replacing a claim by itself changes nothing. -/
theorem setClaim_id {claims : LaneNo → CtxNo → Option (TagId × Counter)} {l : LaneNo} {c : CtxNo}
    {x : Option (TagId × Counter)} (h : claims l c = x) : setClaim claims l c x = claims := by
  funext k d
  unfold setClaim
  split
  · next hkd => rw [hkd.1, hkd.2, h]
  · rfl

/-- Of two replacements of one context's claim the later stands. -/
theorem setClaim_setClaim (claims : LaneNo → CtxNo → Option (TagId × Counter)) (l : LaneNo) (c : CtxNo)
    (x y : Option (TagId × Counter)) : setClaim (setClaim claims l c x) l c y = setClaim claims l c y := by
  funext k d
  unfold setClaim
  split <;> rfl

/-- The table in order, within its size, and with exactly the given claims (R3, R36). -/
structure Table.Sound (t : Table) (claims : LaneNo → CtxNo → Option (TagId × Counter)) : Prop where
  ordered : t.Ordered
  size : t.entries.length ≤ tableSize
  claimed : ∀ e ∈ t.entries, ∀ c, e.owner = some c → claims e.lane c = some (e.tagId, e.counter)
  owned : ∀ l c, (claims l c).isSome = true → ∃ e ∈ t.entries, e.lane = l ∧ e.owner = some c

theorem Table.claimOf_isSome_iff (t : Table) (l : LaneNo) (c : CtxNo) :
    (t.claimOf l c).isSome = true ↔ ∃ e ∈ t.entries, e.lane = l ∧ e.owner = some c := by
  simp [Table.claimOf, Passage.claimedBy_iff]

theorem State.tableSound_iff (s : State) : s.TableSound ↔ s.table.Sound s.claims := by
  constructor
  · rintro ⟨ho, hl, hc, hown⟩
    refine ⟨ho, hl, hc, fun l c h => ?_⟩
    rw [← Table.claimOf_isSome_iff]
    exact hown l c ((CtxBody.hasClaim_eq _).trans h)
  · rintro ⟨ho, hl, hc, hown⟩
    refine ⟨ho, hl, hc, fun l c h => ?_⟩
    rw [Table.claimOf_isSome_iff]
    exact hown l c ((CtxBody.hasClaim_eq _).symm.trans h)

section
variable {t : Table} {claims : LaneNo → CtxNo → Option (TagId × Counter)}

/-- A context owns at most one entry. -/
theorem Table.Sound.eq_of_owner (h : t.Sound claims) {a b : Passage} (ha : a ∈ t.entries) (hb : b ∈ t.entries) {c : CtxNo}
    (hl : a.lane = b.lane) (hca : a.owner = some c) (hcb : b.owner = some c) : a = b := by
  have hx := h.claimed a ha c hca
  rw [hl, h.claimed b hb c hcb] at hx
  injection hx with hx
  exact h.ordered.eq_of_tagId ha hb (congrArg Prod.fst hx).symm

theorem Table.claimOf_eq_some {l : LaneNo} {c : CtxNo} {e : Passage} (h : t.claimOf l c = some e) :
    e ∈ t.entries ∧ e.lane = l ∧ e.owner = some c := by
  have hby : e.claimedBy l c = true := List.find?_some (p := fun x : Passage => x.claimedBy l c) h
  exact ⟨List.mem_of_find?_eq_some h, (e.claimedBy_iff l c).mp hby⟩

/-- An entry that no context owns can be removed. -/
theorem Table.Sound.remove_unowned (h : t.Sound claims) {e : Passage} (he : e ∈ t.entries) (ho : e.owner = none) :
    (t.remove e.tagId).Sound claims := by
  refine ⟨h.ordered.filter _, (List.length_filter_le _ _).trans h.size, fun x hx c hc => ?_, fun l c hc => ?_⟩
  · exact h.claimed x (List.mem_filter.mp hx).1 c hc
  · obtain ⟨x, hx, hl, hxc⟩ := h.owned l c hc
    refine ⟨x, List.mem_filter.mpr ⟨hx, ?_⟩, hl, hxc⟩
    have : x.tagId ≠ e.tagId := fun hid => by
      rw [h.ordered.eq_of_tagId hx he hid, ho] at hxc
      cases hxc
    simpa using this

/-- A claim removed with its entry. -/
theorem Table.Sound.remove_claim (h : t.Sound claims) {e : Passage} {c : CtxNo} (he : e ∈ t.entries)
    (ho : e.owner = some c) : (t.remove e.tagId).Sound (setClaim claims e.lane c none) := by
  refine ⟨h.ordered.filter _, (List.length_filter_le _ _).trans h.size, fun x hx d hd => ?_, fun l d hd => ?_⟩
  · obtain ⟨hx, hid⟩ := List.mem_filter.mp hx
    rw [setClaim_other none, h.claimed x hx d hd]
    rintro ⟨hl, rfl⟩
    exact absurd (congrArg Passage.tagId (h.eq_of_owner hx he hl hd ho)) (by simpa using hid)
  · by_cases hld : l = e.lane ∧ d = c
    · obtain ⟨rfl, rfl⟩ := hld
      simp at hd
    rw [setClaim_other none hld] at hd
    obtain ⟨x, hx, hl, hxd⟩ := h.owned l d hd
    refine ⟨x, List.mem_filter.mpr ⟨hx, ?_⟩, hl, hxd⟩
    have : x.tagId ≠ e.tagId := fun hid => by
      have hxe := h.ordered.eq_of_tagId hx he hid
      subst hxe
      rw [ho] at hxd
      injection hxd with hxd
      exact hld ⟨hl.symm, hxd.symm⟩
    simpa using this

/-- A claim given up while its tag ID keeps an entry that no context owns. -/
theorem Table.Sound.put_unclaimed (h : t.Sound claims) {e x : Passage} {c : CtxNo} (he : e ∈ t.entries)
    (ho : e.owner = some c) (hid : x.tagId = e.tagId) (hx : x.owner = none) :
    (t.put x).Sound (setClaim claims e.lane c none) := by
  have hr := h.remove_claim he ho
  have hmem (y : Passage) : y ∈ (t.put x).entries ↔ y = x ∨ y ∈ (t.remove e.tagId).entries := by
    simp only [Table.put, Table.remove, mem_putEntry h.ordered, List.mem_filter, hid, bne_iff_ne]
  refine ⟨putEntry_pairwise h.ordered x, ?_, fun y hy d hd => ?_, fun l d hd => ?_⟩
  · exact (length_putEntry_of_mem h.ordered he hid.symm).trans_le h.size
  · obtain rfl | hy := (hmem y).mp hy
    · rw [hx] at hd
      cases hd
    · exact hr.claimed y hy d hd
  · obtain ⟨y, hy, hyl⟩ := hr.owned l d hd
    exact ⟨y, (hmem y).mpr (.inr hy), hyl⟩

/-- A claim made by a context that has none, over no entry or over one that no context owns. -/
theorem Table.Sound.put_claim (h : t.Sound claims) {x : Passage} {c : CtxNo} (hx : x.owner = some c)
    (hc : claims x.lane c = none) (hold : ∀ e ∈ t.entries, e.tagId = x.tagId → e.owner = none)
    (hroom : (t.put x).entries.length ≤ tableSize) :
    (t.put x).Sound (setClaim claims x.lane c (some (x.tagId, x.counter))) := by
  have hmem (y : Passage) : y ∈ (t.put x).entries ↔ y = x ∨ y ∈ t.entries ∧ y.tagId ≠ x.tagId :=
    mem_putEntry h.ordered x y
  have hne {y : Passage} (hy : y ∈ t.entries) {d : CtxNo} (hd : y.owner = some d) : ¬ (y.lane = x.lane ∧ d = c) := by
    rintro ⟨hl, rfl⟩
    have := h.claimed y hy d hd
    rw [hl, hc] at this
    cases this
  refine ⟨putEntry_pairwise h.ordered x, hroom, fun y hy d hd => ?_, fun l d hd => ?_⟩
  · obtain rfl | ⟨hy, -⟩ := (hmem y).mp hy
    · rw [hx] at hd
      injection hd with hd
      rw [← hd, setClaim_same]
    · rw [setClaim_other _ (hne hy hd), h.claimed y hy d hd]
  · by_cases hld : l = x.lane ∧ d = c
    · exact ⟨x, (hmem x).mpr (.inl rfl), hld.1.symm, hld.2 ▸ hx⟩
    · rw [setClaim_other _ hld] at hd
      obtain ⟨y, hy, hyl, hyd⟩ := h.owned l d hd
      refine ⟨y, (hmem y).mpr (.inr ⟨hy, fun hid => ?_⟩), hyl, hyd⟩
      rw [hold y hy hid] at hyd
      cases hyd

/-- A claim released (R47). -/
theorem Table.Sound.release (h : t.Sound claims) (now : Nat) (l : LaneNo) (c : CtxNo) :
    (t.release now l c).Sound (setClaim claims l c none) := by
  unfold Table.release
  cases he : t.claimOf l c with
  | none =>
    have hnone : claims l c = none := by
      rw [← Option.not_isSome_iff_eq_none]
      intro hsome
      have := (t.claimOf_isSome_iff l c).mpr (h.owned l c hsome)
      simp [he] at this
    rw [setClaim_id hnone]
    exact h
  | some e =>
    obtain ⟨hmem, rfl, ho⟩ := Table.claimOf_eq_some he
    dsimp only
    split
    · split
      · exact h.remove_claim hmem ho
      · exact h.put_unclaimed hmem ho rfl rfl
    · exact h.remove_claim hmem ho

/-- A table in which every entry is a claim is not full: there are twelve contexts (R45). -/
theorem Table.Sound.not_full (h : t.Sound claims) (hall : ∀ e ∈ t.entries, e.owner ≠ none) :
    t.entries.length < tableSize := by
  have hnodup : (t.entries.map fun e => (e.lane, e.owner)).Nodup := by
    refine List.Pairwise.map _ (fun a b hab => hab) (List.Pairwise.imp_of_mem (fun {a b} ha hb hlt heq => ?_) h.ordered)
    obtain ⟨c, hc⟩ := Option.ne_none_iff_exists'.mp (hall a ha)
    have hab := h.eq_of_owner ha hb (congrArg Prod.fst heq) hc ((congrArg Prod.snd heq).symm.trans hc)
    exact absurd (hab ▸ hlt) (BitVec.lt_irrefl _)
  have hcard := hnodup.length_le_card
  rw [List.length_map] at hcard
  exact lt_of_le_of_lt hcard (by decide)

end

/-- The evicted entry is SEALED and stands in the table; a table without one holds claims only (R45). -/
theorem Table.evictee_eq_some {t : Table} {e : Passage} (h : t.evictee = some e) : e ∈ t.entries ∧ e.owner = none := by
  unfold Table.evictee at h
  rw [Option.map_eq_some_iff] at h
  obtain ⟨⟨e', k⟩, hbest, rfl⟩ := h
  have hmem := bestOf_mem _ _ _ hbest
  simp only [List.mem_filterMap, Option.map_eq_some_iff, Prod.mk.injEq] at hmem
  obtain ⟨x, hx, k', hk, rfl, -⟩ := hmem
  refine ⟨hx, ?_⟩
  unfold Passage.evictionKey at hk
  unfold Passage.owner
  cases hb : x.body <;> simp_all

theorem Table.evictee_eq_none {t : Table} (h : t.evictee = none) : ∀ e ∈ t.entries, e.owner ≠ none := by
  unfold Table.evictee at h
  rw [Option.map_eq_none_iff, bestOf_eq_none, List.filterMap_eq_nil_iff] at h
  intro e he
  have := h e he
  unfold Passage.evictionKey at this
  unfold Passage.owner
  cases hb : e.body <;> simp_all

end Sys2Proof.Machine
end

section
/-! Proofs for the lane transactions: every operation keeps the passage table sound (R3, R36). Most leave the table and the claims
of the contexts alone; an ending releases the claim it ends, a classification makes the claim its context then holds. -/

namespace Sys2Proof.Machine

/-! ### The table and the claims alone decide -/

theorem State.TableSound.congr {s t : State} (h : s.TableSound) (ht : t.table = s.table)
    (hc : ∀ l c, (t.ctx l c).body.claim = (s.ctx l c).body.claim) : t.TableSound := by
  have hclaims : t.claims = s.claims := by
    funext l c
    exact hc l c
  rw [State.tableSound_iff] at h ⊢
  rw [ht, hclaims]
  exact h

theorem State.TableSound.of_lanes {s t : State} (h : s.TableSound) (ht : t.table = s.table) (hl : t.lanes = s.lanes) :
    t.TableSound :=
  h.congr ht fun l c => by rw [State.ctx_of_lanes hl]

theorem State.TableSound.onLane {s : State} (h : s.TableSound) {l : LaneNo} {f : Lane → Lane}
    (hf : (f s.lanes[l]).contexts = s.lanes[l].contexts) : (s.onLane l f).TableSound :=
  h.congr rfl fun k c => by rw [State.ctx_onLane hf]

/-- The claims after one context has been replaced. -/
theorem State.claims_onCtx (s : State) (l : LaneNo) (c : CtxNo) (f : Context → Context) :
    (s.onCtx l c f).claims = setClaim s.claims l c (f (s.ctx l c)).body.claim := by
  funext k d
  by_cases hk : k = l
  · subst hk
    by_cases hd : d = c
    · subst hd
      rw [setClaim_same, State.claims, State.ctx_onCtx_same]
    · rw [setClaim_other _ (fun h => hd h.2), State.claims, State.ctx_onCtx_other _ _ _ _ _ hd]
      rfl
  · rw [setClaim_other _ (fun h => hk h.1), State.claims, State.ctx_onCtx_lane _ _ _ _ _ _ hk]
    rfl

theorem State.claims_of_lanes {s t : State} (h : t.lanes = s.lanes) : t.claims = s.claims := by
  funext l c
  rw [State.claims, State.ctx_of_lanes h]
  rfl

/-- A context replaced by one of the same claim. -/
theorem State.TableSound.onCtx {s : State} (h : s.TableSound) {l : LaneNo} {c : CtxNo} {f : Context → Context}
    (hf : (f (s.ctx l c)).body.claim = (s.ctx l c).body.claim) : (s.onCtx l c f).TableSound := by
  rw [State.tableSound_iff] at h ⊢
  rw [State.claims_onCtx, hf, setClaim_id (by rfl)]
  exact h

theorem State.TableSound.driveAlerts {s : State} (h : s.TableSound) : s.driveAlerts.TableSound :=
  h.congr rfl fun l c => by rw [State.ctx, State.driveAlerts_lane]; rfl

theorem State.TableSound.produce {s : State} (h : s.TableSound) (p : Port) (a : Answer) : (s.produce p a).TableSound := by
  cases p with
  | lane l => exact h.onLane rfl
  | station => exact h.of_lanes rfl rfl

theorem State.TableSound.latch {s : State} (h : s.TableSound) (f : Flag) : (s.latch f).TableSound := h.of_lanes rfl rfl

theorem State.TableSound.setJob {s : State} (h : s.TableSound) (j : Job) : (s.setJob j).TableSound := h.of_lanes rfl rfl

theorem State.TableSound.answerWaiting {s : State} (h : s.TableSound) (l : LaneNo) (pick : Entry → Bool) (r : Reply) :
    (s.answerWaiting l pick r).TableSound :=
  h.congr (by simp) fun k c => by rw [State.ctx_answerWaiting]

theorem State.TableSound.answerRunning {s : State} (h : s.TableSound) (l : LaneNo) (c : CtxNo) (r : Reply) :
    (s.answerRunning l c r).TableSound :=
  h.congr (by simp) fun k d => by rw [State.ctx_answerRunning]

/-! ### Endings (R5, R6, R29, R30, R32, R34) -/

/-- The contexts after a lane has been replaced are read from its contexts alone. -/
theorem State.ctx_onLane_congr {s : State} {l : LaneNo} {f g : Lane → Lane}
    (h : (f s.lanes[l]).contexts = (g s.lanes[l]).contexts) (k : LaneNo) (c : CtxNo) :
    (s.onLane l f).ctx k c = (s.onLane l g).ctx k c := by
  by_cases hk : k = l
  · subst hk
    simp only [State.ctx, State.onLane_same, h]
  · simp only [State.ctx, State.onLane_other s l k _ hk]

/-- A context freed: its body and pending end are absent, its ticket and its mark stand (R5, R4). -/
theorem State.ctx_freeContext (s : State) (l k : LaneNo) (c d : CtxNo) (cause : EndCause) :
    (s.freeContext l c cause).ctx k d =
      (s.onCtx l c fun x => { x with body := .free, pendingEnd := none, endCause := cause }).ctx k d := by
  rw [State.freeContext_eq]
  exact State.ctx_onLane_congr (f := fun ln => ln.freed c cause)
    (g := fun ln => ln.onCtx c fun x => { x with body := .free, pendingEnd := none, endCause := cause }) rfl k d

theorem State.ctx_endContext (s : State) (l k : LaneNo) (c d : CtxNo) (cause : EndCause) :
    (s.endContext l c cause).ctx k d = (s.freeContext l c cause).ctx k d :=
  State.ctx_of_lanes (s.endContext_lanes l c cause) k d

theorem State.claims_freeContext (s : State) (l : LaneNo) (c : CtxNo) (cause : EndCause) :
    (s.freeContext l c cause).claims = setClaim s.claims l c none := by
  have : (s.freeContext l c cause).claims =
      (s.onCtx l c fun x => { x with body := .free, pendingEnd := none, endCause := cause }).claims := by
    funext k d
    simp only [State.claims, State.ctx_freeContext]
  rw [this, State.claims_onCtx]
  rfl

/-- A context without a claim freed. -/
theorem State.TableSound.freeContext {s : State} (h : s.TableSound) {l : LaneNo} {c : CtxNo}
    (hc : s.claims l c = none) (cause : EndCause) : (s.freeContext l c cause).TableSound := by
  rw [State.tableSound_iff] at h ⊢
  rw [State.claims_freeContext, setClaim_id hc, State.freeContext_table]
  exact h

theorem State.TableSound.endContext {s : State} (h : s.TableSound) (l : LaneNo) (c : CtxNo) (cause : EndCause) :
    (s.endContext l c cause).TableSound := by
  rw [State.tableSound_iff] at h ⊢
  rw [State.claims_of_lanes (s.endContext_lanes l c cause), State.claims_freeContext, State.endContext_table,
    State.releaseClaim_table]
  split
  · exact h.release s.now l c
  · next hno =>
    rw [setClaim_id (by rw [State.claims, ← Option.not_isSome_iff_eq_none, ← CtxBody.hasClaim_eq]; exact hno)]
    exact h

theorem State.TableSound.recordPending {s : State} (h : s.TableSound) (l : LaneNo) (c : CtxNo) (p : PendingEnd) :
    (s.recordPending l c p).TableSound := h.onCtx rfl

theorem State.TableSound.reachEnd {s : State} (h : s.TableSound) (l : LaneNo) (c : CtxNo) (p : PendingEnd) :
    (s.reachEnd l c p).TableSound := by
  unfold State.reachEnd
  split
  · exact h
  · split
    · exact h.recordPending l c p
    · exact h.endContext l c p.cause

theorem State.TableSound.applyPending {s : State} (h : s.TableSound) (l : LaneNo) (c : CtxNo) :
    (s.applyPending l c).TableSound := by
  unfold State.applyPending
  split
  · exact h
  · split
    · exact h
    · exact h.endContext l c _

/-- A fold keeps what each of its steps keeps. -/
theorem foldl_keeps {α : Type} {P : State → Prop} {f : State → α → State} (step : ∀ s a, P s → P (f s a)) (as : List α)
    (s : State) (h : P s) : P (as.foldl f s) := by
  induction as generalizing s with
  | nil => exact h
  | cons a as ih => exact ih _ (step s a h)

theorem State.TableSound.resetContexts {s : State} (h : s.TableSound) (l : LaneNo) : (s.resetContexts l).TableSound :=
  foldl_keeps (P := State.TableSound) (fun _ c h => h.reachEnd l c .laneReset) _ s h

theorem State.TableSound.addServiceChanged {s : State} (h : s.TableSound) (l : LaneNo) :
    (s.addServiceChanged l).TableSound := h.onLane rfl

theorem State.TableSound.disableLane {s : State} (h : s.TableSound) (l : LaneNo) : (s.disableLane l).TableSound :=
  ((h.answerWaiting l _ _).resetContexts l).addServiceChanged l

theorem State.TableSound.leaveServiceLane {s : State} (h : s.TableSound) (l : LaneNo) :
    (s.leaveServiceLane l).TableSound :=
  ((h.answerWaiting l _ _).resetContexts l).addServiceChanged l

theorem State.TableSound.leaveService {s : State} (h : s.TableSound) : s.leaveService.TableSound :=
  foldl_keeps (P := State.TableSound) (fun _ l h => h.leaveServiceLane l) _ _
    (h.of_lanes (t := { s with service := .seedWait }) rfl rfl)

theorem State.TableSound.linkDown {s : State} (h : s.TableSound) (l : LaneNo) : (s.linkDown l).TableSound :=
  ((h.onLane (f := Lane.cleared) rfl).resetContexts l).latch _

theorem State.TableSound.withdrawContext {s : State} (h : s.TableSound) (n : SlotNo) (l : LaneNo) (c : CtxNo) :
    (s.withdrawContext n l c).TableSound := by
  unfold State.withdrawContext
  split
  · split
    · exact h.endContext l c .revoked
    · exact h
  · split
    · exact h.recordPending l c .revoked
    · exact h
  · split
    · exact h.endContext l c .revoked
    · exact h
  · exact h

theorem State.TableSound.withdrawLane {s : State} (h : s.TableSound) (n : SlotNo) (l : LaneNo) :
    (s.withdrawLane n l).TableSound :=
  foldl_keeps (P := State.TableSound) (fun _ c h => h.withdrawContext n l c) _ _ (h.answerWaiting l _ _)

theorem State.TableSound.withdrawMaster {s : State} (h : s.TableSound) (n : SlotNo) : (s.withdrawMaster n).TableSound :=
  foldl_keeps (P := State.TableSound) (fun _ l h => h.withdrawLane n l) _ s h

/-! ### Notices and signing (R26, R78, R157) -/

theorem State.TableSound.serviceChangedAll {s : State} (h : s.TableSound) : s.serviceChangedAll.TableSound :=
  foldl_keeps (P := State.TableSound) (fun _ l h => h.addServiceChanged l) _ s h

theorem State.TableSound.signingChangedAll {s : State} (h : s.TableSound) : s.signingChangedAll.TableSound := by
  refine foldl_keeps (P := State.TableSound) (fun s l h => ?_) _ s h
  split
  · exact h.onLane rfl
  · exact h

theorem State.TableSound.reformSigning {s : State} (h : s.TableSound) : s.reformSigning.TableSound := by
  unfold State.reformSigning
  split
  · exact h
  · exact (h.of_lanes (t := { s with signing := s.formSigning }) rfl rfl).signingChangedAll

/-! ### The start of the jobs (R15, R20, R115, R119) -/

theorem State.TableSound.discardEntry {s : State} (h : s.TableSound) (l : LaneNo) (e : Entry) :
    (s.discardEntry l e).TableSound := h.onLane rfl

theorem State.ctx_setRunning (s : State) (l k : LaneNo) (e : Entry) (c : CtxNo) :
    (s.setRunning l e).ctx k c = (s.onCtx l e.ctx fun x => { x with inFlight := true }).ctx k c :=
  State.ctx_onLane_congr (g := fun ln => ln.onCtx e.ctx fun x => { x with inFlight := true }) (by rfl) k c

theorem State.TableSound.setRunning {s : State} (h : s.TableSound) (l : LaneNo) (e : Entry) :
    (s.setRunning l e).TableSound :=
  (h.onCtx (l := l) (c := e.ctx) (f := fun x => { x with inFlight := true }) rfl).congr rfl fun k c => by
    rw [State.ctx_setRunning]

theorem State.TableSound.startEntry {s : State} (h : s.TableSound) (l : LaneNo) (e : Entry) :
    (s.startEntry l e).TableSound := by
  unfold State.startEntry
  split
  · unfold State.startOpen
    split
    · split
      · exact (h.setRunning l e).setJob _
      · exact (h.answerWaiting l _ _).endContext l e.ctx .failed
      · exact (h.answerWaiting l _ _).endContext l e.ctx .revoked
    · exact h.discardEntry l e
  · unfold State.startProve
    split
    · exact (h.setRunning l e).setJob _
    · exact h.discardEntry l e
  · unfold State.startSeal
    split
    · next o p v hc =>
      split
      · exact (h.answerWaiting l _ _).onCtx (by rw [State.ctx_answerWaiting, hc]; rfl)
      · next g _ =>
        have hr : (s.reference g.slot).TableSound := h.of_lanes rfl rfl
        dsimp only
        split
        · exact ((hr.setRunning l e).setJob _).latch _
        · exact (hr.setRunning l e).setJob _
    · exact h.discardEntry l e

theorem State.TableSound.startChoice {s : State} (h : s.TableSound) (ch : Choice) : (s.startChoice ch).TableSound := by
  cases ch with
  | step l e =>
    exact State.TableSound.startEntry
      (h.of_lanes (t := { s with
        kfu := { s.kfu with stepPointer := movedPointer s.config.items.mode s.kfu.stepPointer l } }) rfl rfl) l e
  | admitting l e =>
    exact State.TableSound.startEntry
      (h.of_lanes (t := { s with
        kfu := { s.kfu with admitPointer := movedPointer s.config.items.mode s.kfu.admitPointer l } }) rfl rfl) l e
  | load req => exact h.of_lanes rfl rfl

theorem State.TableSound.arbitrate {s : State} (h : s.TableSound) : s.arbitrate.TableSound := by
  unfold State.arbitrate
  generalize s.waitingCount + 1 = n
  induction n generalizing s with
  | zero => exact h
  | succ n ih =>
    unfold State.arbitrateFor
    split
    · exact h
    · split
      · exact h
      · exact ih (h.startChoice _)

/-! ### Classification and seal (R38 to R46, R50) -/

/-- Room made leaves a sound table of fewer than 256 entries, all of them entries of before (R45). -/
theorem State.makeRoom_sound {s : State} (h : s.TableSound) :
    s.makeRoom.table.Sound s.claims ∧ s.makeRoom.table.entries.length < tableSize
      ∧ ∀ e ∈ s.makeRoom.table.entries, e ∈ s.table.entries := by
  rw [State.tableSound_iff] at h
  unfold State.makeRoom
  split
  · next hfull =>
    cases he : s.table.evictee with
    | none => exact absurd (h.not_full (Table.evictee_eq_none he)) (Nat.not_lt.mpr hfull)
    | some e =>
      obtain ⟨hmem, ho⟩ := Table.evictee_eq_some he
      refine ⟨h.remove_unowned hmem ho, ?_, fun x hx => (List.mem_filter.mp hx).1⟩
      exact lt_of_lt_of_le (List.length_filter_lt_length_iff_exists.mpr ⟨e, hmem, by simp⟩) h.size
  · next hroom => exact ⟨h, Nat.not_le.mp hroom, fun _ hx => hx⟩

/-- The claim made over a SEALED entry is the context's (R43). -/
theorem Passage.overlay_sealed {e : Passage} {time : Seconds} {x n : Nat} (h : e.body = .sealed time x n) (l : LaneNo)
    (c : CtxNo) (k : Counter) :
    (e.overlay l c k).owner = some c ∧ (e.overlay l c k).lane = l ∧ (e.overlay l c k).tagId = e.tagId
      ∧ (e.overlay l c k).counter = k := by
  simp [Passage.overlay, h, Passage.owner]

/-- A classification for a context without a claim makes the claim its verdict gives, and no other (R38 to R45). -/
theorem State.classify_sound {s : State} (h : s.TableSound) {l : LaneNo} {c : CtxNo} (hc : s.claims l c = none)
    (id : TagId) (k : Counter) (strict : Bool) :
    (s.classify l c id k strict).1.table.Sound
      (setClaim s.claims l c ((s.classify l c id k strict).2.verdict.claim.map fun _ => (id, k))) := by
  have hs := s.tableSound_iff.mp h
  have same : s.table.Sound (setClaim s.claims l c none) := by rwa [setClaim_id hc]
  unfold State.classify
  cases hf : s.table.find id with
  | none =>
    obtain ⟨hroom, hlt, hsub⟩ := State.makeRoom_sound h
    exact hroom.put_claim (x := { tagId := id, lane := l, counter := k, body := .claimed c none }) rfl hc
      (fun e he hid => absurd hid (Table.find_eq_none hf e (hsub e he)))
      ((length_putEntry_le _ _).trans hlt)
  | some e =>
    obtain ⟨hmem, rfl⟩ := Table.find_eq_some hf
    cases hb : e.body with
    | claimed _ _ =>
      simp only [hb]
      exact same
    | sealed time x n =>
      obtain ⟨ho, hl, hid, hk⟩ := Passage.overlay_sealed hb l c k
      have claim : (s.table.put (e.overlay l c k)).Sound (setClaim s.claims l c (some (e.tagId, k))) := by
        have := hs.put_claim ho (by rw [hl]; exact hc)
          (fun y hy hyid => by
            rw [hs.ordered.eq_of_tagId hy hmem (hyid.trans hid), Passage.owner, hb])
          ((length_putEntry_of_mem hs.ordered hmem hid.symm).trans_le hs.size)
        rwa [hl, hid, hk] at this
      simp only [hb]
      split
      · exact same
      · split
        · exact same
        · split
          · exact claim
          · split
            · exact same
            · exact claim

theorem State.TableSound.applyMatch {s : State} (h : s.TableSound) {l : LaneNo} {c : CtxNo} (hc : s.claims l c = none)
    (o : Occupancy) (p : TagProof) : (s.applyMatch l c o p).TableSound := by
  have hclass := State.classify_sound h hc o.tagId o.counter o.strict
  have hlanes : (s.classify l c o.tagId o.counter o.strict).1.claims = s.claims :=
    State.claims_of_lanes (by rw [State.classify_frame])
  unfold State.applyMatch
  dsimp only
  generalize s.classify l c o.tagId o.counter o.strict = r at *
  have hans : (r.1.answerRunning l c (r.2.reply o.watch)).claims = s.claims := by
    rw [← hlanes]
    funext k d
    rw [State.claims, State.ctx_answerRunning]
    rfl
  cases hv : r.2.verdict.claim with
  | none =>
    rw [hv, Option.map_none, setClaim_id hc] at hclass
    refine State.TableSound.freeContext ?_ (by rw [hans]; exact hc) .verdict
    rw [State.tableSound_iff, hans, State.answerRunning_table]
    exact hclass
  | some v =>
    rw [hv, Option.map_some] at hclass
    refine State.TableSound.applyPending ?_ l c
    rw [State.tableSound_iff, State.claims_onCtx, hans, State.onCtx_table, State.answerRunning_table]
    exact hclass

theorem State.TableSound.applyProve {s : State} (h : s.TableSound) (l : LaneNo) (c : CtxNo) (same : Bool) :
    (s.applyProve l c same).TableSound := by
  unfold State.applyProve
  split
  · next o m p hb =>
    have hmark : (s.clearMark l c).TableSound := h.onCtx rfl
    have hrel : ((s.clearMark l c).release m).TableSound := hmark.of_lanes (by simp) (by simp)
    have hnone : ((s.clearMark l c).release m).claims l c = none := by
      rw [State.claims, State.ctx_release, State.clearMark, State.ctx_onCtx_same, hb]
      rfl
    dsimp only
    split
    · exact hrel.applyMatch hnone o p
    · refine (hrel.answerRunning l c _).freeContext ?_ .failed
      rw [State.claims, State.ctx_answerRunning]
      exact hnone
  · exact h

theorem State.TableSound.applyOpen {s : State} (h : s.TableSound) (l : LaneNo) (c : CtxNo) (key : Block) (ch : Mac) :
    (s.applyOpen l c key ch).TableSound := by
  cases hb : (s.ctx l c).body with
  | opening o m =>
    rw [State.applyOpen_opening hb]
    exact ((h.onCtx (by rw [hb]; rfl)).answerRunning l c _).applyPending l c
  | _ => simpa only [State.applyOpen, hb] using h

/-- A seal gives up the context's claim, which the freeing of the context then ends (R50, R21). -/
theorem State.sealClaim_sound {s : State} (h : s.TableSound) (l : LaneNo) (c : CtxNo) (k : Counter) (sec : Seconds) :
    (s.sealClaim l c k sec).table.Sound (setClaim s.claims l c none) := by
  rw [State.tableSound_iff] at h
  unfold State.sealClaim
  cases he : s.table.claimOf l c with
  | none =>
    have hrel := h.release s.now l c
    rw [Table.release, he] at hrel
    exact hrel
  | some e =>
    obtain ⟨hmem, rfl, ho⟩ := Table.claimOf_eq_some he
    obtain ⟨hord, hsize, hclaimed, howned⟩ := h.put_unclaimed
      (x := { e with counter := k, body := .sealed sec (s.now + s.config.items.window.toNat * 1024) (s.table.sealCount + 1) })
      hmem ho rfl rfl
    exact ⟨hord, hsize, hclaimed, howned⟩

theorem State.TableSound.applySeal {s : State} (h : s.TableSound) (l : LaneNo) (c : CtxNo) (n : SlotNo) (key : Block)
    (g : Gen) (holdover : Bool) (cls : BitVec 4) (ref : BitVec 16) :
    (s.applySeal l c n key g holdover cls ref).TableSound := by
  unfold State.applySeal
  split
  · refine State.TableSound.answerRunning ?_ l c _
    rw [State.tableSound_iff, State.claims_freeContext, State.clearMark, State.claims_onCtx, State.freeContext_table,
      State.onCtx_table, State.release_table, setClaim_setClaim, State.claims_of_lanes (s := s) (by simp)]
    exact State.sealClaim_sound h l c _ _
  · exact h

end Sys2Proof.Machine
end

section
/-! Proofs for the lane transactions: every command keeps the passage table sound (R3, R36). -/

namespace Sys2Proof.Machine

/-! ### The lane requests -/

/-- A valid frame on a lane port is discarded at a full queue, and dealt with otherwise (R9, R186). -/
theorem State.laneFrame_cases (s : State) (l : LaneNo) (deal : State → State) :
    s.laneFrame l deal = (s.laneFrameArrives l).latch (.flood l)
      ∨ s.lanes[l].placesHeld < 6 ∧ s.laneFrame l deal = deal (s.laneFrameArrives l) := by
  rcases Nat.lt_or_ge s.lanes[l].placesHeld 6 with h | h
  · exact .inr ⟨h, State.laneFrame_free h deal⟩
  · exact .inl (State.laneFrame_full h deal)

theorem State.stationFrame_cases (s : State) (deal : State → State) :
    s.stationFrame deal = s.stationFrameArrives
      ∨ s.station.placesHeld < 6 ∧ s.stationFrame deal = deal s.stationFrameArrives := by
  rcases Nat.lt_or_ge s.station.placesHeld 6 with h | h
  · exact .inr ⟨h, if_neg (Nat.not_le.mpr h)⟩
  · exact .inl (State.stationFrame_full h deal)

theorem State.body_of_freeContextOf {s : State} {l : LaneNo} {c : CtxNo} (h : s.freeContextOf l = some c) :
    (s.ctx l c).body = .free := by
  simpa using List.find?_some h

section
variable {s : State} (h : s.TableSound) (l : LaneNo) (tag : Byte) (body : List Byte)
include h

theorem State.TableSound.laneReply (kind : Byte) (r : Reply) : (s.laneReply l kind tag r).TableSound := h.produce _ _

theorem State.TableSound.appendEntry (req : LaneReq) (c : CtxNo) : (s.appendEntry l req tag c).TableSound := h.onLane rfl

omit body in
theorem State.TableSound.takeOpen {c : CtxNo} (a : OpenArgs) (hb : (s.ctx l c).body = .free) (issuer : Byte)
    (watch strict : Bool) (n : SlotNo) : (s.takeOpen l tag c a issuer watch strict n).TableSound := by
  have href {t : State} (ht : t.TableSound) : (t.reference n).TableSound := ht.of_lanes rfl rfl
  unfold State.takeOpen
  exact ((href (h.onCtx (by rw [hb]; rfl))).appendEntry l tag _ _).arbitrate

theorem State.TableSound.openRequest : (s.openRequest l tag body).TableSound := by
  unfold State.openRequest
  dsimp only
  split
  · exact h.laneReply l tag _ _
  split
  · exact h.laneReply l tag _ _
  split
  · exact h.laneReply l tag _ _
  split
  · exact h.laneReply l tag _ _
  next c hc =>
  split
  · exact h.laneReply l tag _ _
  exact h.takeOpen l tag _ (State.body_of_freeContextOf hc) _ _ _ _

theorem State.TableSound.proveRequest : (s.proveRequest l tag body).TableSound := by
  unfold State.proveRequest
  dsimp only
  split
  · exact h.laneReply l tag _ _
  split
  · exact h.laneReply l tag _ _
  split
  · exact h.laneReply l tag _ _
  split
  · exact h.laneReply l tag _ _
  split
  · next o m p hb => exact ((h.onCtx (by rw [hb]; rfl)).appendEntry l tag _ _).arbitrate
  · exact h

theorem State.TableSound.sealRequest : (s.sealRequest l tag body).TableSound := by
  unfold State.sealRequest
  dsimp only
  split
  · exact h.laneReply l tag _ _
  split
  · exact h.laneReply l tag _ _
  split
  · exact h.laneReply l tag _ _
  split
  · exact h.laneReply l tag _ _
  split
  · next o p v hb => exact ((h.onCtx (by rw [hb]; rfl)).appendEntry l tag _ _).arbitrate
  · exact h

theorem State.TableSound.removeAndEnd (c : CtxNo) (p : PendingEnd) (code : Code) :
    (s.removeAndEnd l c p code).TableSound :=
  (h.answerWaiting l _ _).reachEnd l c p

theorem State.TableSound.dropRequest : (s.dropRequest l tag body).TableSound := by
  unfold State.dropRequest
  dsimp only
  split
  · exact h.laneReply l tag _ _
  split
  · exact h.laneReply l tag _ _
  split
  · exact h.laneReply l tag _ _
  · exact (h.removeAndEnd l _ _ _).laneReply l tag _ _

theorem State.TableSound.pollRequest : (s.pollRequest l tag body).TableSound := by
  unfold State.pollRequest
  dsimp only
  split
  · exact h.laneReply l tag _ _
  split
  · exact h.laneReply l tag _ _
  · exact (h.onLane (f := fun ln => { ln with notices := ln.notices.take.2 }) rfl).laneReply l tag _ _

theorem State.TableSound.handLane (f : Frame) : (s.handLane l f).TableSound := by
  unfold State.handLane
  split
  · exact h.laneReply l _ _ _
  split
  · exact h.laneReply l _ _ _
  · exact h.openRequest l _ _
  · exact h.proveRequest l _ _
  · exact h.sealRequest l _ _
  · exact h.dropRequest l _ _
  · exact h.pollRequest l _ _

/-- A valid frame on a lane port keeps the table sound where its treatment does. -/
theorem State.TableSound.laneFrame {deal : State → State} (hd : ∀ t : State, t.TableSound → (deal t).TableSound) :
    (s.laneFrame l deal).TableSound := by
  have harr : (s.laneFrameArrives l).TableSound := h.onLane rfl
  obtain heq | ⟨-, heq⟩ := s.laneFrame_cases l deal <;> rw [heq]
  · exact harr.latch _
  · exact hd _ harr

end

/-! ### The station requests -/

section
variable {s : State} (h : s.TableSound)
include h

theorem State.TableSound.stationReply (kind tag : Byte) (r : Reply) : (s.stationReply kind tag r).TableSound :=
  h.produce _ _

theorem State.TableSound.withQueue (q : List StationEntry) : (s.withQueue q).TableSound := h.of_lanes rfl rfl

theorem State.TableSound.requestStore (r : StoreReq) : (s.requestStore r).TableSound := h.of_lanes (by simp) (by simp)

theorem State.TableSound.evaluate : s.evaluate.TableSound := h.of_lanes (by simp) (by simp)

theorem State.TableSound.withdraw (n : SlotNo) (d : KeyData) : (s.withdraw n d).TableSound := by
  have hslot : (s.onSlot n fun sl => { sl with body := .held .withdrawn d }).TableSound := h.of_lanes rfl rfl
  have herase {t : State} (ht : t.TableSound) : (t.eraseIfUnused n).TableSound := ht.of_lanes (by simp) (by simp)
  unfold State.withdraw
  refine State.TableSound.reformSigning (herase ?_)
  split
  · exact (hslot.requestStore _).withdrawMaster n
  · exact hslot.requestStore _

theorem State.TableSound.applyEnabled (l : LaneNo) (before after : Bool) :
    (s.applyEnabled l before after).TableSound := by
  unfold State.applyEnabled
  split
  · exact h
  · split
    · exact h.addServiceChanged l
    · exact h.disableLane l

theorem State.TableSound.applyTimeout (l : LaneNo) (timeout : BitVec 16) : (s.applyTimeout l timeout).TableSound := by
  unfold State.applyTimeout
  split
  · have htime : (s.onLane l fun ln => { ln with
        linkDeadline := if timeout = 0 then none else some (s.lastFrameTick l + ticksOf timeout) }).TableSound :=
      h.onLane rfl
    dsimp only
    generalize s.onLane l _ = t at htime ⊢
    split
    · exact htime.linkDown l
    · exact htime
  · exact h

theorem State.TableSound.runSetLane (body : List Byte) : (s.runSetLane body).1.TableSound := by
  unfold State.runSetLane
  split
  · exact h
  · next a _ =>
    have hset : (s.setSettings a.lane a.set).TableSound := h.of_lanes rfl rfl
    exact (hset.applyEnabled _ _ _).applyTimeout _ _

theorem State.TableSound.runSetConfig (body : List Byte) : (s.runSetConfig body).1.TableSound := by
  unfold State.runSetConfig
  split
  · exact h
  · next a _ =>
    have hcfg : State.TableSound { s with config := { s.config with items := a.items } } := h.of_lanes rfl rfl
    dsimp only
    split
    · exact hcfg
    · exact hcfg.reformSigning

theorem State.TableSound.runSaveConfig (body : List Byte) : (s.runSaveConfig body).1.TableSound := by
  unfold State.runSaveConfig
  split
  · exact h
  · exact h.requestStore _

theorem State.TableSound.runReseed (body : List Byte) : (s.runReseed body).1.TableSound := by
  unfold State.runReseed
  split
  · exact h
  · split
    · exact h
    · exact h.requestStore _

theorem State.TableSound.runReset (tag : Byte) (body : List Byte) : (s.runReset tag body).1.TableSound := by
  unfold State.runReset
  split
  · exact h
  · exact (h.withQueue (s.station.queue.map fun e => if e.executing then { e with answered := true } else e)).stationReply
      _ _ _

theorem State.TableSound.runLoadKey (body : List Byte) : (s.runLoadKey body).1.TableSound := by
  unfold State.runLoadKey
  split
  · exact h
  split
  · exact h
  split
  · exact h
  · exact State.TableSound.arbitrate (h.of_lanes rfl rfl)

theorem State.TableSound.runWithdrawKey (body : List Byte) : (s.runWithdrawKey body).1.TableSound := by
  unfold State.runWithdrawKey
  split
  · exact h
  split
  · exact h
  split
  case h_5 => exact h.withdraw _ _
  all_goals exact h

theorem State.TableSound.runListSlot (body : List Byte) : (s.runListSlot body).1.TableSound := by
  unfold State.runListSlot
  split
  · exact h
  · split <;> exact h

theorem State.TableSound.runSetRoute (body : List Byte) : (s.runSetRoute body).1.TableSound := by
  unfold State.runSetRoute
  split
  · exact h
  · split
    · exact h
    · exact h.of_lanes rfl rfl

theorem State.TableSound.runClearRoute (body : List Byte) : (s.runClearRoute body).1.TableSound := by
  unfold State.runClearRoute
  split
  · exact h
  · split
    · exact h
    · exact h.of_lanes rfl rfl

theorem State.TableSound.runQueryPassage (body : List Byte) : (s.runQueryPassage body).1.TableSound := by
  unfold State.runQueryPassage
  split <;> exact h

theorem State.TableSound.runSetTime (body : List Byte) : (s.runSetTime body).1.TableSound := by
  unfold State.runSetTime
  split
  · exact h
  · next sec _ =>
    have htime : State.TableSound { s with clock := { s.clock with seconds := sec, fraction := 0, timeValid := true } } :=
      h.of_lanes rfl rfl
    exact htime.evaluate.reformSigning

theorem State.TableSound.runSetTrim (body : List Byte) : (s.runSetTrim body).1.TableSound := by
  unfold State.runSetTrim
  split
  · exact h
  · exact h.of_lanes rfl rfl

theorem State.TableSound.runReadTime (body : List Byte) : (s.runReadTime body).1.TableSound := by
  unfold State.runReadTime
  split <;> exact h

/-- The execution of a station request keeps the table sound. -/
theorem State.TableSound.execute (e : StationEntry) : (s.execute e).1.TableSound := by
  unfold State.execute
  split
  case h_1 => exact h.runSetLane _
  case h_2 => exact h.runSetConfig _
  case h_3 => exact h.runSaveConfig _
  case h_4 => exact h.runReseed _
  case h_5 => exact h.runReset _ _
  case h_6 => exact h.runLoadKey _
  case h_7 => exact h.runWithdrawKey _
  case h_8 => exact h.runListSlot _
  case h_9 => exact h.runSetRoute _
  case h_10 => exact h.runClearRoute _
  case h_11 => exact h.runQueryPassage _
  case h_12 => exact h.runSetTime _
  case h_13 => exact h.runSetTrim _
  case h_14 => exact h.runReadTime _

theorem State.TableSound.answerExecuting (r : Reply) : (s.answerExecuting r).TableSound := by
  unfold State.answerExecuting
  split
  · exact h
  · exact (h.withQueue _).stationReply _ _ _

omit h in
theorem State.TableSound.runStationFor (n : Nat) : ∀ {s : State}, s.TableSound → (s.runStationFor n).TableSound := by
  induction n with
  | zero => exact fun h => h
  | succ n ih =>
    intro s h
    unfold State.runStationFor
    split
    · exact h
    · next e rest _ =>
      have hx := (h.withQueue ({ e with executing := true } :: rest)).execute e
      dsimp only
      split
      · exact ih (hx.answerExecuting _)
      · exact hx

theorem State.TableSound.runStation : s.runStation.TableSound := State.TableSound.runStationFor _ h

theorem State.TableSound.finishExecuting (r : Reply) : (s.finishExecuting r).TableSound := (h.answerExecuting r).runStation

theorem State.TableSound.stationRequest (k : StationKind) (tag : Byte) (body : List Byte) :
    (s.stationRequest k tag body).TableSound := by
  unfold State.stationRequest
  split
  · exact h.stationReply _ _ _
  split
  · exact h.stationReply _ _ _
  dsimp only
  split
  · exact (h.withQueue _).runStation
  · exact h.withQueue _

theorem State.TableSound.statusRequest (tag : Byte) (body : List Byte) : (s.statusRequest tag body).TableSound := by
  unfold State.statusRequest
  split
  · exact h.stationReply _ _ _
  · next mask _ =>
    have hclear : (s.clearFlags mask).TableSound := h.of_lanes rfl rfl
    exact hclear.stationReply _ _ _

theorem State.TableSound.handStation (f : Frame) : (s.handStation f).TableSound := by
  unfold State.handStation
  split
  · exact h.stationReply _ _ _
  split
  · exact h.statusRequest _ _
  split
  · exact h.stationReply _ _ _
  · exact h.stationRequest _ _ _

theorem State.TableSound.stationFrame {deal : State → State} (hd : ∀ t : State, t.TableSound → (deal t).TableSound) :
    (s.stationFrame deal).TableSound := by
  have harr : s.stationFrameArrives.TableSound := h.of_lanes rfl rfl
  obtain heq | ⟨-, heq⟩ := s.stationFrame_cases deal <;> rw [heq]
  · exact harr
  · exact hd _ harr

/-! ### Ports, store actions and starts -/

theorem State.TableSound.onPort (p : Port) (f : PortState → PortState) : (s.onPort p f).TableSound := by
  cases p with
  | lane l => exact h.onLane rfl
  | station => exact h.of_lanes rfl rfl

theorem State.TableSound.portFrame (p : Port) (f : Frame) : (s.portFrame p f).TableSound := by
  cases p with
  | lane l => exact h.laneFrame l fun t ht => ht.handLane l f
  | station => exact h.stationFrame fun t ht => ht.handStation f

theorem State.TableSound.receive (p : Port) (c : LineChar) : (s.receive p c).TableSound := by
  unfold State.receive
  dsimp only
  split
  · exact h.onPort p _
  · exact (h.onPort p _).latch _
  · exact (h.onPort p _).portFrame p _

theorem State.TableSound.receiveAll (p : Port) (cs : List LineChar) : (s.receiveAll p cs).TableSound :=
  foldl_keeps (P := State.TableSound) (fun _ c h => h.receive p c) _ s h

theorem State.TableSound.answerSent (p : Port) (a : Answer) : (s.answerSent p a).TableSound := by
  unfold State.answerSent
  cases p with
  | lane l =>
    refine (h.onPort (.lane l) _).onLane ?_
    cases a.serial <;> rfl
  | station => exact h.onPort .station _

omit h in
/-- With an empty table and every context FREE the table is sound. -/
theorem State.tableSound_of_free {t : State} (ht : t.table.entries = []) (hc : ∀ l c, (t.ctx l c).body = .free) :
    t.TableSound := by
  rw [State.tableSound_iff]
  refine ⟨by simp [Table.Ordered, ht], by simp [ht], by simp [ht], fun l c hcl => ?_⟩
  rw [State.claims, hc] at hcl
  cases hcl

theorem State.TableSound.slotWriteEnds (n : SlotNo) (ok : Bool) : (s.slotWriteEnds n ok).TableSound := by
  unfold State.slotWriteEnds
  split
  · next stored d _ =>
    split
    · unfold State.firstWriteDone
      refine State.TableSound.finishExecuting (State.TableSound.reformSigning (State.TableSound.evaluate ?_)) _
      exact h.of_lanes rfl rfl
    · unfold State.firstWriteFailed
      have hslot : (s.onSlot n fun sl => { sl with body := .empty }).TableSound := h.of_lanes rfl rfl
      exact (hslot.requestStore _).finishExecuting _
  · exact h

theorem State.TableSound.slotEraseEnds (n : SlotNo) (ok : Bool) : (s.slotEraseEnds n ok).TableSound := by
  unfold State.slotEraseEnds
  split
  · split
    · exact h.of_lanes rfl rfl
    · exact h
  · exact h

theorem State.TableSound.enterServing : s.enterServing.TableSound :=
  State.TableSound.serviceChangedAll (s := { s with service := .serving }) (h.of_lanes rfl rfl)

theorem State.TableSound.bootWriteEnds (b : BitVec 32) (ok : Bool) : (s.bootWriteEnds b ok).TableSound := by
  have hknown : State.TableSound (if ok then { s with station := { s.station with knownBoot := some b } } else s) := by
    split
    · exact h.of_lanes rfl rfl
    · exact h
  unfold State.bootWriteEnds
  dsimp only
  generalize (if ok then { s with station := { s.station with knownBoot := some b } } else s : State) = t at hknown
  split
  · unfold State.startBootEnds
    split
    · exact hknown.enterServing
    · exact hknown.of_lanes rfl rfl
  · have hclear : t.clearHold.TableSound := hknown.of_lanes rfl rfl
    unfold State.exhaustionBootEnds
    split
    · exact hclear.arbitrate
    · exact hclear.leaveService
  · unfold State.reseedBootEnds
    split
    · split
      · have hboot : State.TableSound { t with kfu := { t.kfu with boot := some b, sequence := 0 } } := hknown.of_lanes rfl rfl
        exact hboot.enterServing.finishExecuting _
      · exact hknown.finishExecuting _
    · exact hknown

theorem State.TableSound.actionEnds (a : StoreAct) (ok : Bool) : (s.actionEnds a ok).TableSound := by
  unfold State.actionEnds
  split
  · exact h
  · split
    · exact h.slotWriteEnds _ ok
    · exact h.slotEraseEnds _ ok
    · unfold State.imageWriteEnds
      split
      · exact h.finishExecuting _
      · exact h
    · exact h.bootWriteEnds _ ok

theorem State.TableSound.beginNext : s.beginNext.TableSound := h.of_lanes (by simp) (by simp)

end

end Sys2Proof.Machine
end

section
/-! Proofs for the lane transactions: the passage table through every step (R3, R36). -/

namespace Sys2Proof.Machine

section
variable {s : State} (h : s.TableSound)
include h

theorem State.TableSound.loadConfig : s.loadConfig.TableSound := by
  have hconf (i : Image) : State.TableSound { s with
      config := i.config
      routes := i.routes
      clock := s.clock.configured i.trim
      laneRate := i.config.items.rate
      loadTick := s.now
      lanes := Vector.ofFn fun l : LaneNo =>
        s.lanes[l].configured i.config.lanes[l] (i.config.items.rate != s.laneRate) s.now } :=
    h.congr rfl fun l c => by simp [State.ctx, Lane.configured]
  unfold State.loadConfig
  dsimp only
  split
  · exact hconf _
  · exact (hconf _).latch _

theorem State.TableSound.loadSlotRecord (n : SlotNo) : (s.loadSlotRecord n).TableSound := by
  have hlatch : State.TableSound (if s.store.slots[n] == .failing then s.latch .slotLost else s) := by
    split
    · exact h.latch _
    · exact h
  unfold State.loadSlotRecord
  dsimp only
  split
  · exact hlatch.requestStore _
  · exact hlatch

theorem State.TableSound.startSlots : s.startSlots.TableSound := by
  have hslots : s.loadSlots.TableSound := by
    unfold State.loadSlots
    refine foldl_keeps (P := State.TableSound) (fun _ n h => h.loadSlotRecord n) _ _ ?_
    exact h.of_lanes rfl rfl
  have heval := hslots.evaluate
  unfold State.startSlots
  dsimp only
  generalize s.loadSlots.evaluate = t at heval ⊢
  exact heval.of_lanes rfl rfl

theorem State.TableSound.loadBoot : s.loadBoot.TableSound := by
  unfold State.loadBoot
  split
  · dsimp only
    split
    · exact h.of_lanes rfl rfl
    · refine State.TableSound.requestStore ?_ _
      exact h.of_lanes rfl rfl
  · refine State.TableSound.latch ?_ _
    exact h.of_lanes rfl rfl

/-! ### The events -/

/-- A command heard only with main power present. -/
theorem State.TableSound.powered {f : State → State} {t : State} (hx : s.powered f = .next t) (hf : (f s).TableSound) :
    t.TableSound := by
  obtain ⟨-, rfl⟩ | ⟨-, rfl⟩ := State.powered_cases hx
  · exact hf.driveAlerts
  · exact h

theorem State.TableSound.execOpenCompletion {t : State} (hx : execOpenCompletion s = .next t) : t.TableSound := by
  unfold Machine.execOpenCompletion at hx
  split at hx <;> cases hx
  · have hfree : s.freeUnit.advanceSequence.TableSound := h.of_lanes (by simp) (by simp)
    refine State.TableSound.driveAlerts (State.TableSound.arbitrate ?_)
    split
    · exact (hfree.applyOpen _ _ _ _).leaveService
    · exact hfree.applyOpen _ _ _ _
  · exact h

theorem State.TableSound.execProveCompletion {t : State} (hx : execProveCompletion s = .next t) : t.TableSound := by
  unfold Machine.execProveCompletion at hx
  split at hx <;> cases hx
  · have hfree : s.freeUnit.TableSound := h.of_lanes rfl rfl
    exact (hfree.applyProve _ _ _).arbitrate.driveAlerts
  · exact h

theorem State.TableSound.execSealCompletion {t : State} (hx : execSealCompletion s = .next t) : t.TableSound := by
  unfold Machine.execSealCompletion at hx
  split at hx <;> cases hx
  · have hfree : s.freeUnit.TableSound := h.of_lanes rfl rfl
    exact (hfree.applySeal _ _ _ _ _ _ _ _).arbitrate.driveAlerts
  · exact h

theorem State.TableSound.execLoadCompletion {t : State} (hx : execLoadCompletion s = .next t) : t.TableSound := by
  unfold Machine.execLoadCompletion at hx
  split at hx <;> cases hx
  · have hfree : s.freeUnit.TableSound := h.of_lanes rfl rfl
    refine State.TableSound.driveAlerts (State.TableSound.arbitrate ?_)
    split
    · exact hfree.of_lanes (by simp [State.fillSlot]) (by simp [State.fillSlot])
    · exact hfree.finishExecuting _
  · exact h

theorem State.TableSound.execSecondEvent {t : State} (hx : execSecondEvent s = .next t) : t.TableSound := by
  unfold Machine.execSecondEvent at hx
  split at hx
  · cases hx; exact h
  · have ht : State.TableSound { s with clock := { s.clock with secondEvents := s.clock.secondEvents - 1 } } :=
      h.of_lanes rfl rfl
    dsimp only at hx
    split at hx <;> cases hx
    · exact ht.evaluate.reformSigning.driveAlerts
    · exact ht

theorem State.TableSound.execContextExpiry {l : LaneNo} {c : CtxNo} {t : State}
    (hx : execContextExpiry l c s = .next t) : t.TableSound := by
  unfold Machine.execContextExpiry at hx
  split at hx <;> cases hx
  · exact (h.removeAndEnd l c _ _).driveAlerts
  · exact h

/-- The entry that expires is SEALED, and no context owns it (R54). -/
theorem State.TableSound.execEntryExpiry {id : TagId} {t : State} (hx : execEntryExpiry id s = .next t) :
    t.TableSound := by
  unfold Machine.execEntryExpiry at hx
  split at hx
  · next e he =>
    split at hx
    · next hb =>
      split at hx <;> cases hx
      · obtain ⟨hmem, rfl⟩ := Table.find_eq_some he
        have hown : e.owner = none := by rw [Passage.owner, hb]
        exact (State.tableSound_iff _).mpr (((s.tableSound_iff).mp h).remove_unowned hmem hown)
      · exact h
    · cases hx; exact h
  · cases hx; exact h

theorem State.TableSound.execLinkExpiry {l : LaneNo} {t : State} (hx : execLinkExpiry l s = .next t) :
    t.TableSound := by
  unfold Machine.execLinkExpiry at hx
  split at hx <;> cases hx
  · exact (h.linkDown l).driveAlerts
  · exact h

theorem State.TableSound.execOscillatorStop {t : State} (hx : execOscillatorStop s = .next t) : t.TableSound := by
  unfold Machine.execOscillatorStop at hx
  split at hx <;> cases hx
  · refine State.TableSound.driveAlerts (State.TableSound.latch ?_ _)
    exact h.of_lanes rfl rfl
  · exact h

omit h in
theorem State.ctx_mainLost (s : State) (l : LaneNo) (c : CtxNo) : s.mainLost.ctx l c = Context.fresh := by
  simp [State.ctx, State.mainLost, State.reset, Lane.fresh]

omit h in
theorem State.ctx_warmReset (s : State) (l : LaneNo) (c : CtxNo) : s.warmReset.ctx l c = Context.fresh := by
  simp [State.ctx, State.warmReset, Lane.warmReset, Lane.fresh]

theorem State.TableSound.execMainPowerFail {p : ActionPoint} {t : State} (hx : execMainPowerFail p s = .next t) :
    t.TableSound := by
  unfold Machine.execMainPowerFail at hx
  split at hx <;> cases hx
  · exact State.TableSound.driveAlerts (State.tableSound_of_free rfl fun l c => by rw [State.ctx_mainLost]; rfl)
  · exact h

theorem State.TableSound.execPowerOn {low : Bool} {t : State} (hx : execPowerOn low s = .next t) : t.TableSound := by
  unfold Machine.execPowerOn at hx
  split at hx <;> cases hx
  · exact h
  · have hlost : s.mainLost.TableSound := State.tableSound_of_free rfl fun l c => by rw [State.ctx_mainLost]; rfl
    have hon : State.TableSound { s.mainLost with power := true, clock := s.mainLost.clock.powerOn low } :=
      hlost.of_lanes rfl rfl
    refine State.TableSound.driveAlerts ?_
    unfold State.powerOn
    dsimp only
    split
    · exact hon.latch _
    · exact hon

theorem State.TableSound.execStartUp {t : State} (hx : execStartUp s = .next t) : t.TableSound := by
  unfold Machine.execStartUp at hx
  split at hx <;> rw [Host.Outcome.next.injEq] at hx <;> subst hx
  · refine State.TableSound.driveAlerts (State.TableSound.loadBoot ?_)
    have hslots := h.loadConfig.startSlots
    generalize s.loadConfig.startSlots = t at hslots ⊢
    exact hslots.of_lanes rfl rfl
  · exact h

theorem State.TableSound.execStoreActionComplete {t : State} (hx : execStoreActionComplete s = .next t) :
    t.TableSound := by
  unfold Machine.execStoreActionComplete at hx
  split at hx <;> cases hx
  · exact h
  · refine State.TableSound.driveAlerts (State.TableSound.beginNext (State.TableSound.actionEnds ?_ _ _))
    exact h.of_lanes rfl rfl

theorem State.TableSound.execStoreActionFailed {left : AttemptLeft} {t : State}
    (hx : execStoreActionFailed left s = .next t) : t.TableSound := by
  unfold Machine.execStoreActionFailed at hx
  split at hx <;> cases hx
  · refine State.TableSound.driveAlerts
      (State.TableSound.beginNext (State.TableSound.actionEnds (State.TableSound.latch ?_ _) _ _))
    exact h.of_lanes rfl rfl
  · exact h

theorem State.TableSound.execAnswerTransmitted {p : Port} {t : State} (hx : execAnswerTransmitted p s = .next t) :
    t.TableSound := by
  unfold Machine.execAnswerTransmitted at hx
  split at hx <;> cases hx
  · exact h
  · refine State.TableSound.driveAlerts ?_
    split
    · exact State.tableSound_of_free rfl fun l c => by rw [State.ctx_warmReset]; rfl
    · exact h.answerSent p _

/-- Every command keeps the passage table sound. -/
theorem State.TableSound.exec {i : Instr} {t : State} (hx : exec i s = .next t) : t.TableSound := by
  have lane (l : LaneNo) (deal : State → State) (hx : (s.powered fun s => s.laneFrame l deal) = .next t)
      (hd : ∀ u : State, u.TableSound → (deal u).TableSound) : t.TableSound := h.powered hx (h.laneFrame l hd)
  have station (k : StationKind) (tag : Byte) (body : List Byte)
      (hx : (s.powered fun s => s.stationFrame fun t => t.stationRequest k tag body) = .next t) : t.TableSound :=
    h.powered hx (h.stationFrame fun _ ht => ht.stationRequest k tag body)
  cases i
  case openReq l tag body => exact lane l (fun t => t.openRequest l tag body) hx fun _ ht => ht.openRequest l tag body
  case proveReq l tag body => exact lane l (fun t => t.proveRequest l tag body) hx fun _ ht => ht.proveRequest l tag body
  case sealReq l tag body => exact lane l (fun t => t.sealRequest l tag body) hx fun _ ht => ht.sealRequest l tag body
  case dropReq l tag body => exact lane l (fun t => t.dropRequest l tag body) hx fun _ ht => ht.dropRequest l tag body
  case pollReq l tag body => exact lane l (fun t => t.pollRequest l tag body) hx fun _ ht => ht.pollRequest l tag body
  case statusReq tag body =>
    exact h.powered (f := fun s => s.stationFrame fun t => t.statusRequest tag body) hx
      (h.stationFrame fun _ ht => ht.statusRequest tag body)
  case setLane tag body => exact station .setLane tag body hx
  case setConfig tag body => exact station .setConfig tag body hx
  case saveConfig tag body => exact station .saveConfig tag body hx
  case reseed tag body => exact station .reseed tag body hx
  case resetReq tag body => exact station .reset tag body hx
  case loadKey tag body => exact station .loadKey tag body hx
  case withdrawKey tag body => exact station .withdrawKey tag body hx
  case listSlot tag body => exact station .listSlot tag body hx
  case setRoute tag body => exact station .setRoute tag body hx
  case clearRoute tag body => exact station .clearRoute tag body hx
  case queryPassage tag body => exact station .queryPassage tag body hx
  case setTime tag body => exact station .setTime tag body hx
  case setTrim tag body => exact station .setTrim tag body hx
  case readTime tag body => exact station .readTime tag body hx
  case malformedFrame p kind tag length body => exact h.powered (f := fun s => s.portFrame p _) hx (h.portFrame p _)
  case frameDiscarded p cs => exact h.powered (f := fun s => s.receiveAll p cs) hx (h.receiveAll p cs)
  case abortSequence p => exact h.powered (f := fun s => s.onPort p _) hx (h.onPort p _)
  case openCompletion => exact h.execOpenCompletion hx
  case proveCompletion => exact h.execProveCompletion hx
  case sealCompletion => exact h.execSealCompletion hx
  case loadCompletion => exact h.execLoadCompletion hx
  case fractionTick | oscillatorRestart | backupLowChange | storeVerifyRetry | oscillatorStopWhileOff =>
    simp only [Machine.exec, execFractionTick, execOscillatorRestart, execBackupLowChange, execStoreVerifyRetry,
      execOscillatorStopWhileOff] at hx
    split at hx <;> cases hx <;> exact h.of_lanes rfl rfl
  case periodStart => cases hx; exact h.of_lanes rfl rfl
  case secondEvent => exact h.execSecondEvent hx
  case contextExpiry l c => exact h.execContextExpiry hx
  case entryExpiry id => exact h.execEntryExpiry hx
  case linkExpiry l => exact h.execLinkExpiry hx
  case oscillatorStop => exact h.execOscillatorStop hx
  case mainPowerFail p => exact h.execMainPowerFail hx
  case powerOn low => exact h.execPowerOn hx
  case startUp => exact h.execStartUp hx
  case storeActionComplete => exact h.execStoreActionComplete hx
  case storeActionFailed left => exact h.execStoreActionFailed hx
  case answerTransmitted p => exact h.execAnswerTransmitted hx

end

/-- Settles O5: the invariant through every command, the queue of commands being no part of it. -/
theorem tableSoundKept : Obligations.TableSoundKept := by
  intro s t h hx
  unfold step at hx
  split at hx
  · cases hx; exact h
  · next rest _ => exact State.TableSound.exec (s := { s with pending := rest }) (h.of_lanes rfl rfl) hx

end Sys2Proof.Machine
end

section
/-! Proofs for the lane transactions: the request queue of one lane (R8, R9). A lane's queue and places are kept by every
operation that answers, discards or removes entries; the live entries of each context are looked at on their own. -/

namespace Sys2Proof.Machine

/-! ### The live entries of a context -/

/-- The entries of a context that are WAITING or RUNNING, in queue order. -/
def Lane.liveOf (ln : Lane) (c : CtxNo) : List Entry := ln.queue.filter fun e => e.live && e.ctx == c

/-- At most one live entry, fitting the context, and a RUNNING one exactly while the mark is set (R2, R8). -/
structure EntriesFit (es : List Entry) (x : Context) : Prop where
  single : es.length ≤ 1
  fits : ∀ e ∈ es, e.req.fits x.body = true
  marked : x.inFlight = true ↔ ∃ e ∈ es, e.phase = .running

theorem Entry.live_of_waiting {e : Entry} (h : e.phase = .waiting) : e.live = true := by
  simp [Entry.live, h]

theorem Entry.live_of_running {e : Entry} (h : e.phase = .running) : e.live = true := by
  simp [Entry.live, h]

theorem Lane.mem_liveOf {ln : Lane} {c : CtxNo} {e : Entry} :
    e ∈ ln.liveOf c ↔ e ∈ ln.queue ∧ e.live = true ∧ e.ctx = c := by
  simp [Lane.liveOf]

theorem Lane.entriesSound_iff (ln : Lane) :
    ln.EntriesSound ↔ ∀ c : CtxNo, EntriesFit (ln.liveOf c) ln.contexts[c] := by
  constructor
  · rintro ⟨hone, hfit, hrun⟩ c
    refine ⟨?_, fun e he => ?_, (hrun c).trans ⟨?_, ?_⟩⟩
    · rw [Lane.liveOf, ← List.countP_eq_length_filter]
      exact hone c
    · obtain ⟨hmem, hlive, rfl⟩ := Lane.mem_liveOf.mp he
      exact hfit e hmem hlive
    · rintro ⟨e, he, hp, hc⟩
      exact ⟨e, Lane.mem_liveOf.mpr ⟨he, Entry.live_of_running hp, hc⟩, hp⟩
    · rintro ⟨e, he, hp⟩
      obtain ⟨hmem, -, hc⟩ := Lane.mem_liveOf.mp he
      exact ⟨e, hmem, hp, hc⟩
  · intro h
    refine ⟨fun c => ?_, fun e he hlive => ?_, fun c => (h c).marked.trans ⟨?_, ?_⟩⟩
    · rw [List.countP_eq_length_filter]
      exact (h c).single
    · exact (h e.ctx).fits e (Lane.mem_liveOf.mpr ⟨he, hlive, rfl⟩)
    · rintro ⟨e, he, hp⟩
      obtain ⟨hmem, -, hc⟩ := Lane.mem_liveOf.mp he
      exact ⟨e, hmem, hp, hc⟩
    · rintro ⟨e, he, hp, hc⟩
      exact ⟨e, Lane.mem_liveOf.mpr ⟨he, Entry.live_of_running hp, hc⟩, hp⟩

/-- A context without a job and without live entries fits, whatever its state. -/
theorem EntriesFit.nil {x : Context} (h : x.inFlight = false) : EntriesFit [] x :=
  ⟨by simp, by simp, by simp [h]⟩

/-- The mark and the state of the context are all of it that matters. -/
theorem EntriesFit.congr {es : List Entry} {x y : Context} (h : EntriesFit es x) (hb : y.body = x.body)
    (hm : y.inFlight = x.inFlight) : EntriesFit es y :=
  ⟨h.single, by rw [hb]; exact h.fits, by rw [hm]; exact h.marked⟩

/-- A live entry is the only one of its context. -/
theorem EntriesFit.eq_singleton {es : List Entry} {x : Context} (h : EntriesFit es x) {e : Entry} (he : e ∈ es) :
    es = [e] := by
  obtain ⟨a, rfl⟩ := List.length_eq_one_iff.mp (Nat.le_antisymm h.single (List.length_pos_of_mem he))
  rw [List.mem_singleton.mp he]

theorem EntriesFit.not_inFlight {es : List Entry} {x : Context} (h : EntriesFit es x) {e : Entry} (he : e ∈ es)
    (hp : e.phase = .waiting) : x.inFlight = false := by
  rw [← Bool.not_eq_true, h.marked, h.eq_singleton he]
  simp [hp]

/-- A context that is FREE, OPENED or PROVED has no live entry and no job. -/
theorem EntriesFit.nil_of_unfit {es : List Entry} {x : Context} (h : EntriesFit es x)
    (hb : ∀ r : LaneReq, r.fits x.body = false) : es = [] ∧ x.inFlight = false := by
  have hnil : es = [] := by
    rw [List.eq_nil_iff_forall_not_mem]
    intro e he
    simpa [hb] using h.fits e he
  refine ⟨hnil, ?_⟩
  rw [← Bool.not_eq_true, h.marked, hnil]
  simp

/-! ### The queue and the places -/

/-- In a sound queue a serial names one entry. -/
theorem Lane.QueueSound.eq_of_serial {ln : Lane} (h : ln.QueueSound) {a b : Entry} (ha : a ∈ ln.queue) (hb : b ∈ ln.queue)
    (hs : a.serial = b.serial) : a = b := by
  obtain ⟨-, -, hord, -⟩ := h
  have hall : ln.queue.Pairwise fun x y => x.serial = y.serial → x = y :=
    hord.imp fun hlt heq => absurd heq (Nat.ne_of_lt hlt)
  have : Std.Symm fun x y : Entry => x.serial = y.serial → x = y := ⟨fun _ _ hxy hid => (hxy hid.symm).symm⟩
  exact hall.forall_of_forall (fun _ _ _ => rfl) ha hb hs

/-- Entries kept and changed under their serials, none of the ANSWERED ones back to life, and answers that were there before or
answer an entry: the queue stays sound within its places. -/
theorem Lane.QueueSound.update {a b : Lane} (h : a.QueueSound) {p : Entry → Bool} {f : Entry → Entry}
    (hq : b.queue = (a.queue.filter p).map f) (hserial : ∀ e, (f e).serial = e.serial)
    (hans : ∀ e ∈ a.queue, e.phase = .answered → (f e).phase = .answered) (hnext : b.nextSerial = a.nextSerial)
    (hnew : ∀ x ∈ b.port.answers, x ∈ a.port.answers ∨
      ∀ n ∈ x.serial, ∃ e ∈ a.queue, e.serial = n ∧ (p e = true → (f e).phase = .answered))
    (hplaces : b.placesHeld ≤ a.placesHeld) : b.QueueSound := by
  have hone {e e' : Entry} := h.eq_of_serial (a := e) (b := e')
  obtain ⟨hlen, hheld, hord, hlt, hport⟩ := h
  have hmem (e : Entry) (he : e ∈ b.queue) : ∃ e₀ ∈ a.queue, p e₀ = true ∧ f e₀ = e := by
    rw [hq, List.mem_map] at he
    obtain ⟨e₀, he₀, rfl⟩ := he
    obtain ⟨hm, hp⟩ := List.mem_filter.mp he₀
    exact ⟨e₀, hm, hp, rfl⟩
  refine ⟨?_, hplaces.trans hheld, ?_, fun e he => ?_, fun x hx n hn => ?_⟩
  · rw [hq, List.length_map]
    exact (List.length_filter_le _ _).trans hlen
  · rw [hq, List.pairwise_map]
    exact (hord.filter p).imp fun hab => by rwa [hserial, hserial]
  · obtain ⟨e₀, hm, -, rfl⟩ := hmem e he
    rw [hserial, hnext]
    exact hlt e₀ hm
  · rw [hnext]
    obtain hold | hnew := hnew x hx
    · obtain ⟨hnlt, hdone⟩ := hport x hold n hn
      refine ⟨hnlt, fun e he hs => ?_⟩
      obtain ⟨e₀, hm, -, rfl⟩ := hmem e he
      exact hans e₀ hm (hdone e₀ hm ((hserial e₀).symm.trans hs))
    · obtain ⟨e₁, hm₁, rfl, hdone⟩ := hnew n hn
      refine ⟨hlt e₁ hm₁, fun e he hs => ?_⟩
      obtain ⟨e₀, hm, hp, rfl⟩ := hmem e he
      rw [hone hm hm₁ ((hserial e₀).symm.trans hs)] at hp ⊢
      exact hdone hp

/-- A lane with the queue, the serials and the answers of a sound one. -/
theorem Lane.QueueSound.same {a b : Lane} (h : a.QueueSound) (hq : b.queue = a.queue) (hn : b.nextSerial = a.nextSerial)
    (hp : b.port.answers = a.port.answers) : b.QueueSound := Lane.QueueSound_congr h hq hn hp

theorem Lane.liveOf_congr {a b : Lane} (h : b.queue = a.queue) (c : CtxNo) : b.liveOf c = a.liveOf c := by
  rw [Lane.liveOf, h]
  rfl

/-- The live entries after entries have been kept by `p` and changed by `f`, which keeps their contexts and brings none back. -/
theorem Lane.liveOf_update {a b : Lane} {p : Entry → Bool} {f : Entry → Entry}
    (hq : b.queue = (a.queue.filter p).map f) (hctx : ∀ e, (f e).ctx = e.ctx)
    (hlive : ∀ e, (f e).live = true → e.live = true) (c : CtxNo) :
    b.liveOf c = ((a.liveOf c).filter fun e => p e && (f e).live).map f := by
  rw [Lane.liveOf, hq, Lane.liveOf, List.filter_map, List.filter_filter, List.filter_filter]
  congr 1
  refine List.filter_congr fun e _ => ?_
  rw [Function.comp_apply, hctx, Bool.eq_iff_iff]
  simp only [Bool.and_eq_true]
  have := hlive e
  tauto

/-- Entries kept and changed under their contexts and requests: the lane stays sound where the contexts of the live ones keep
their states and the marks follow the RUNNING ones. -/
theorem Lane.EntriesSound.update {a b : Lane} (h : a.EntriesSound) {p : Entry → Bool} {f : Entry → Entry}
    (hq : b.queue = (a.queue.filter p).map f) (hctx : ∀ e, (f e).ctx = e.ctx) (hreq : ∀ e, (f e).req = e.req)
    (hlive : ∀ e, (f e).live = true → e.live = true)
    (hbody : ∀ e ∈ b.queue, e.live = true → b.contexts[e.ctx].body = a.contexts[e.ctx].body)
    (hmark : ∀ c : CtxNo, b.contexts[c].inFlight = true ↔ ∃ e ∈ b.queue, e.phase = .running ∧ e.ctx = c) :
    b.EntriesSound := by
  have hfit := a.entriesSound_iff.mp h
  obtain ⟨-, hold, -⟩ := h
  refine ⟨fun c => ?_, fun e he hl => ?_, hmark⟩
  · rw [List.countP_eq_length_filter, show (b.queue.filter _) = b.liveOf c from rfl, Lane.liveOf_update hq hctx hlive,
      List.length_map]
    exact (List.length_filter_le _ _).trans (hfit c).single
  · rw [hbody e he hl]
    rw [hq, List.mem_map] at he
    obtain ⟨e₀, hm, rfl⟩ := he
    have key : ∀ c, e₀.ctx = c → e₀.req.fits a.contexts[c].body = true := by
      rintro _ rfl
      exact hold e₀ (List.mem_filter.mp hm).1 (hlive e₀ hl)
    rw [hreq]
    exact key _ (hctx e₀).symm

/-- A lane with the queue of a sound one, whose contexts keep state and mark or have neither entry nor job. -/
theorem Lane.EntriesSound.same {a b : Lane} (h : a.EntriesSound) (hq : b.queue = a.queue)
    (hc : ∀ c : CtxNo, (b.contexts[c].body = a.contexts[c].body ∧ b.contexts[c].inFlight = a.contexts[c].inFlight)
      ∨ (a.liveOf c = [] ∧ b.contexts[c].inFlight = false)) : b.EntriesSound := by
  rw [Lane.entriesSound_iff] at h ⊢
  intro c
  rw [Lane.liveOf_congr hq]
  obtain ⟨hb, hm⟩ | ⟨hnil, hm⟩ := hc c
  · exact (h c).congr hb hm
  · rw [hnil]
    exact .nil hm

/-! ### What the operations of one lane do to it -/

/-- No entry of a context waits. -/
def Lane.NoneWaits (ln : Lane) (c : CtxNo) : Prop := ∀ e ∈ ln.queue, e.phase = .waiting → e.ctx ≠ c

theorem Lane.EntriesSound.liveOf_eq_nil {ln : Lane} (h : ln.EntriesSound) {c : CtxNo} (hw : ln.NoneWaits c)
    (hm : ln.contexts[c].inFlight = false) : ln.liveOf c = [] := by
  have hfit := ln.entriesSound_iff.mp h c
  rw [List.eq_nil_iff_forall_not_mem]
  intro e he
  obtain ⟨hmem, hlive, hc⟩ := Lane.mem_liveOf.mp he
  cases hp : e.phase with
  | waiting => exact hw e hmem hp hc
  | running =>
    rw [hfit.marked.mpr ⟨e, he, hp⟩] at hm
    cases hm
  | answered => simp [Entry.live, hp] at hlive

theorem Lane.noneWaits_answerWaiting (ln : Lane) (rate : Rate) {pick : Entry → Bool} (r : Reply) {c : CtxNo}
    (hpick : ∀ e ∈ ln.queue, e.phase = .waiting → e.ctx = c → pick e = true) :
    (ln.answerWaiting rate pick r).NoneWaits c := by
  intro e he hp
  obtain ⟨e₀, hm, rfl⟩ := List.mem_map.mp he
  split at hp
  · cases hp
  · next hno =>
    rw [if_neg hno]
    intro hc
    exact hno (by simp [hp, hpick e₀ hm hp hc])

theorem Lane.QueueSound.answerWaiting {ln : Lane} (h : ln.QueueSound) (rate : Rate) (pick : Entry → Bool) (r : Reply) :
    (ln.answerWaiting rate pick r).QueueSound := by
  refine h.update (p := fun _ => true) (by rw [List.filter_true]; rfl) (fun e => ?_) (fun e _ hp => ?_) rfl
    (fun x hx => ?_) (Lane.placesHeld_answerWaiting _ _ _ _).le
  · split <;> rfl
  · split
    · rfl
    · exact hp
  · obtain hold | hnew := List.mem_append.mp ((PortState.enqueueAll_answers ..) ▸ hx)
    · exact .inl hold
    · obtain ⟨e, he, rfl⟩ := List.mem_map.mp hnew
      obtain ⟨hm, hhit⟩ := List.mem_filter.mp he
      refine .inr fun n hn => ⟨e, hm, Option.some.inj hn, fun _ => ?_⟩
      rw [if_pos hhit]

theorem Lane.EntriesSound.answerWaiting {ln : Lane} (h : ln.EntriesSound) (rate : Rate) (pick : Entry → Bool) (r : Reply) :
    (ln.answerWaiting rate pick r).EntriesSound := by
  refine h.update (p := fun _ => true) (by rw [List.filter_true]; rfl) (fun e => ?_) (fun e => ?_) (fun e hl => ?_)
    (fun _ _ _ => rfl) fun c => (h.2.2 c).trans ?_
  · split <;> rfl
  · split <;> rfl
  · split at hl
    · cases hl
    · exact hl
  · simp only [Lane.answerWaiting, List.mem_map]
    constructor
    · rintro ⟨e, he, hp, hc⟩
      exact ⟨e, ⟨e, he, if_neg (by simp [hp])⟩, hp, hc⟩
    · rintro ⟨e, ⟨e₀, he₀, rfl⟩, hp, hc⟩
      split at hp
      · cases hp
      · next hno => exact ⟨e₀, he₀, hp, by rwa [if_neg hno] at hc⟩

/-- An entry of the context runs (R2). -/
def Entry.runsFor (c : CtxNo) (e : Entry) : Bool := e.phase == .running && e.ctx == c

theorem Entry.live_of_runsFor {c : CtxNo} {e : Entry} (h : e.runsFor c = true) : e.live = true := by
  simp only [Entry.runsFor, Bool.and_eq_true, beq_iff_eq] at h
  exact Entry.live_of_running h.1

theorem Lane.queue_answerRunning (ln : Lane) (rate : Rate) (c : CtxNo) (r : Reply) :
    (ln.answerRunning rate c r).queue = (ln.queue.filter fun e => !(e.runsFor c && e.discard)).map fun e =>
      if e.runsFor c then { e with phase := .answered } else e := rfl

theorem Lane.answers_answerRunning (ln : Lane) (rate : Rate) (c : CtxNo) (r : Reply) :
    (ln.answerRunning rate c r).port.answers =
      ln.port.answers ++ (ln.queue.filter fun e => e.runsFor c && !e.discard).map fun e => e.answer r :=
  PortState.enqueueAll_answers ..

/-- Answering or discarding the RUNNING entry holds no place more than before (R8, R9). -/
theorem Lane.placesHeld_answerRunning_le (ln : Lane) (rate : Rate) (c : CtxNo) (r : Reply) :
    (ln.answerRunning rate c r).placesHeld ≤ ln.placesHeld := by
  have key (q : List Entry) :
      (q.filter fun e => e.runsFor c && !e.discard).length
        + ((q.filter fun e => !(e.runsFor c && e.discard)).map fun e =>
            if e.runsFor c then { e with phase := .answered } else e).countP Entry.live ≤ q.countP Entry.live := by
    induction q with
    | nil => exact Nat.le_refl 0
    | cons e q ih =>
      rw [List.filter_cons, List.filter_cons, List.countP_cons]
      cases hx : e.runsFor c
      · simp only [Bool.false_and, Bool.not_false, Bool.false_eq_true, if_false, if_true, List.map_cons, List.countP_cons,
          hx]
        omega
      · have hdone : Entry.live { e with phase := .answered } = false := rfl
        cases hd : e.discard <;>
          simp only [Bool.true_and, Bool.not_false, Bool.not_true, Bool.false_eq_true, if_false, if_true, List.map_cons,
            List.countP_cons, List.length_cons, hx, hdone, Entry.live_of_runsFor hx] <;>
          omega
  have := key ln.queue
  rw [Lane.placesHeld, Lane.placesHeld, Lane.queue_answerRunning, Lane.answers_answerRunning, List.length_append,
    List.length_map]
  omega

theorem Lane.QueueSound.answerRunning {ln : Lane} (h : ln.QueueSound) (rate : Rate) (c : CtxNo) (r : Reply) :
    (ln.answerRunning rate c r).QueueSound := by
  refine h.update rfl (fun e => ?_) (fun e _ hp => ?_) rfl (fun x hx => ?_) (Lane.placesHeld_answerRunning_le _ _ _ _)
  · split <;> rfl
  · split
    · rfl
    · exact hp
  · obtain hold | hnew := List.mem_append.mp ((PortState.enqueueAll_answers ..) ▸ hx)
    · exact .inl hold
    · obtain ⟨e, he, rfl⟩ := List.mem_map.mp hnew
      obtain ⟨hm, hhit⟩ := List.mem_filter.mp he
      refine .inr fun n hn => ⟨e, hm, Option.some.inj hn, fun _ => ?_⟩
      rw [if_pos (Bool.and_eq_true_iff.mp hhit).1]

/-- The RUNNING entries after those of one context have been answered or discarded. -/
theorem Lane.running_answerRunning (ln : Lane) (rate : Rate) (c d : CtxNo) (r : Reply) :
    (∃ e ∈ (ln.answerRunning rate c r).queue, e.phase = .running ∧ e.ctx = d) ↔
      d ≠ c ∧ ∃ e ∈ ln.queue, e.phase = .running ∧ e.ctx = d := by
  simp only [Lane.answerRunning, List.mem_map, List.mem_filter]
  constructor
  · rintro ⟨e, ⟨e₀, ⟨hm, -⟩, rfl⟩, hp, hc⟩
    split at hp
    · cases hp
    · next hno =>
      rw [if_neg hno] at hc
      refine ⟨?_, e₀, hm, hp, hc⟩
      rintro rfl
      exact hno (by simp [hp, hc])
  · rintro ⟨hd, e, hm, hp, rfl⟩
    have hno : (e.phase == .running && e.ctx == c) = false := by simp [hd]
    exact ⟨e, ⟨e, ⟨hm, by simp [hno]⟩, by rw [if_neg (by simp [hno])]⟩, hp, rfl⟩

/-- A completion at its lane: the RUNNING entry of the context is answered or discarded, the mark is cleared and the context may
be in any state, no entry being left of it. -/
theorem Lane.EntriesSound.completed {a b : Lane} (h : a.EntriesSound) {c : CtxNo} (hrun : a.contexts[c].inFlight = true)
    (rate : Rate) (r : Reply) (hq : b.queue = (a.answerRunning rate c r).queue) (hm : b.contexts[c].inFlight = false)
    (hother : ∀ d : CtxNo, d ≠ c → b.contexts[d] = a.contexts[d]) : b.EntriesSound ∧ b.liveOf c = [] := by
  obtain ⟨hone, hfits, hmark⟩ := h
  have hsound : a.EntriesSound := ⟨hone, hfits, hmark⟩
  have hctx (e : Entry) : (if e.runsFor c then { e with phase := .answered } else e : Entry).ctx = e.ctx := by
    split <;> rfl
  have hlive (e : Entry) (hl : (if e.runsFor c then { e with phase := .answered } else e : Entry).live = true) :
      e.live = true := by
    split at hl
    · cases hl
    · exact hl
  have hnil : b.liveOf c = [] := by
    obtain ⟨e, he, hp⟩ := (a.entriesSound_iff.mp hsound c).marked.mp hrun
    obtain ⟨-, -, hc⟩ := Lane.mem_liveOf.mp he
    rw [Lane.liveOf_update (hq.trans (Lane.queue_answerRunning ..)) hctx hlive, (a.entriesSound_iff.mp hsound c).eq_singleton he, List.map_eq_nil_iff,
      List.filter_eq_nil_iff]
    rintro _ (_ | ⟨_, ⟨⟩⟩)
    have : e.runsFor c = true := by simp [Entry.runsFor, hp, hc]
    simp [this, Entry.live]
  refine ⟨hsound.update hq hctx (fun e => ?_) hlive (fun e he hl => ?_) fun d => ?_, hnil⟩
  · split <;> rfl
  · rw [hother e.ctx]
    rintro hc
    have : e ∈ b.liveOf c := Lane.mem_liveOf.mpr ⟨he, hl, hc⟩
    rw [hnil] at this
    cases this
  · rw [hq, Lane.running_answerRunning]
    by_cases hd : d = c
    · subst hd
      exact iff_of_false (by rw [hm]; exact Bool.false_ne_true) fun hx => hx.1 rfl
    · rw [hother d hd, hmark d]
      simp [hd]

/-- A job starts at its lane: a WAITING entry goes RUNNING and its context is marked (R119). -/
def Lane.setRunning (ln : Lane) (e : Entry) : Lane :=
  { ln.onCtx e.ctx fun x => { x with inFlight := true } with
    queue := ln.queue.map fun q => if q.serial = e.serial then { q with phase := .running } else q }

theorem Lane.contexts_onCtx_other (ln : Lane) {c d : CtxNo} (f : Context → Context) (h : d ≠ c) :
    (ln.onCtx c f).contexts[d] = ln.contexts[d] := by
  have : c.val ≠ d.val := fun e => h (Fin.ext e.symm)
  simp [Lane.onCtx, this]

theorem Lane.contexts_onCtx_same (ln : Lane) (c : CtxNo) (f : Context → Context) :
    (ln.onCtx c f).contexts[c] = f ln.contexts[c] := by
  simp [Lane.onCtx]

theorem Lane.contexts_setRunning_same (ln : Lane) (e : Entry) :
    (ln.setRunning e).contexts[e.ctx] = { ln.contexts[e.ctx] with inFlight := true } :=
  ln.contexts_onCtx_same e.ctx fun x => { x with inFlight := true }

theorem Lane.contexts_setRunning_other (ln : Lane) (e : Entry) {c : CtxNo} (h : c ≠ e.ctx) :
    (ln.setRunning e).contexts[c] = ln.contexts[c] :=
  ln.contexts_onCtx_other (fun x => { x with inFlight := true }) h

section
variable {ln : Lane} (h : ln.QueueSound) {e : Entry} (he : e ∈ ln.queue)
include h he

/-- The entry that goes RUNNING is the one its serial names. -/
theorem Lane.queue_setRunning :
    (ln.setRunning e).queue = ln.queue.map fun q => if q = e then { q with phase := .running } else q := by
  refine List.map_congr_left fun q hq => ?_
  by_cases hqe : q = e
  · rw [if_pos hqe, if_pos (congrArg _ hqe)]
  · rw [if_neg hqe, if_neg fun hs => hqe (h.eq_of_serial hq he hs)]

variable (hw : e.phase = .waiting)
include hw

theorem Lane.placesHeld_setRunning : (ln.setRunning e).placesHeld = ln.placesHeld := by
  rw [Lane.placesHeld, Lane.queue_setRunning h he, List.countP_map]
  refine congrArg _ (List.countP_congr fun q _ => ?_)
  rw [Function.comp_apply]
  split
  · next hq =>
    rw [hq, Entry.live_of_waiting hw]
    exact ⟨fun _ => rfl, fun _ => rfl⟩
  · exact Iff.rfl

theorem Lane.QueueSound.setRunning : (ln.setRunning e).QueueSound := by
  refine h.update (p := fun _ => true) (by rw [List.filter_true]; exact Lane.queue_setRunning h he) (fun q => ?_)
    (fun q _ hp => ?_) rfl (fun x hx => .inl hx) (Lane.placesHeld_setRunning h he hw).le
  · split <;> rfl
  · rw [if_neg]
    · exact hp
    · rintro rfl
      rw [hw] at hp
      cases hp

theorem Lane.QueueSound.setRunning_entries (hs : ln.EntriesSound) : (ln.setRunning e).EntriesSound := by
  have hq := Lane.queue_setRunning h he
  have hbody (c : CtxNo) : (ln.setRunning e).contexts[c].body = ln.contexts[c].body := by
    by_cases hc : c = e.ctx
    · subst hc
      rw [Lane.contexts_setRunning_same]
    · rw [Lane.contexts_setRunning_other _ _ hc]
  refine hs.update (p := fun _ => true) (by rw [List.filter_true]; exact hq) (fun q => ?_) (fun q => ?_) (fun q hl => ?_)
    (fun q _ _ => hbody q.ctx) fun c => ?_
  · split <;> rfl
  · split <;> rfl
  · split at hl
    · next hqe => rw [hqe, Entry.live_of_waiting hw]
    · exact hl
  · rw [hq]
    by_cases hc : c = e.ctx
    · subst hc
      refine iff_of_true ?_ ⟨{ e with phase := .running }, List.mem_map.mpr ⟨e, he, if_pos rfl⟩, rfl, rfl⟩
      rw [Lane.contexts_setRunning_same]
    · rw [Lane.contexts_setRunning_other _ _ hc, hs.2.2 c]
      simp only [List.mem_map]
      constructor
      · rintro ⟨q, hm, hp, rfl⟩
        exact ⟨q, ⟨q, hm, if_neg fun hqe => hc (congrArg _ hqe)⟩, hp, rfl⟩
      · rintro ⟨_, ⟨q, hm, rfl⟩, hp, hqc⟩
        split at hp
        · next hqe =>
          rw [if_pos hqe, hqe] at hqc
          exact absurd hqc.symm hc
        · next hqe => exact ⟨q, hm, hp, by rwa [if_neg hqe] at hqc⟩

end

/-! ### Entries and answers that come and go -/

/-- An answer that names no entry, with a place free for it (R9). -/
theorem Lane.QueueSound.reply {ln : Lane} (h : ln.QueueSound) (hfree : ln.placesHeld < answerPlaces) {b : Lane} {a : Answer}
    (ha : a.serial = none) (hq : b.queue = ln.queue) (hn : b.nextSerial = ln.nextSerial)
    (hp : b.port.answers = ln.port.answers ++ [a]) : b.QueueSound := by
  obtain ⟨hlen, -, hord, hlt, hport⟩ := h
  refine ⟨hq ▸ hlen, ?_, hq ▸ hord, ?_, ?_⟩
  · rw [Lane.placesHeld] at hfree ⊢
    rw [hp, hq, List.length_append, List.length_singleton]
    omega
  · rw [hq, hn]
    exact hlt
  · rw [hp, hq, hn]
    intro x hx n hns
    obtain hx | hx := List.mem_append.mp hx
    · exact hport x hx n hns
    · rw [List.mem_singleton.mp hx, ha] at hns
      cases hns

/-- A new WAITING entry, with an entry and a place free for it (R8, R9). -/
theorem Lane.QueueSound.append {ln : Lane} (h : ln.QueueSound) (hroom : ln.queue.length < laneQueueSize)
    (hfree : ln.placesHeld < answerPlaces) {b : Lane} {e : Entry} (hs : e.serial = ln.nextSerial)
    (hq : b.queue = ln.queue ++ [e]) (hn : b.nextSerial = ln.nextSerial + 1) (hp : b.port.answers = ln.port.answers) :
    b.QueueSound := by
  obtain ⟨hlen, -, hord, hlt, hport⟩ := h
  refine ⟨?_, ?_, ?_, ?_, ?_⟩
  · rw [hq, List.length_append, List.length_singleton]
    omega
  · rw [Lane.placesHeld] at hfree ⊢
    rw [hp, hq, List.countP_append, List.countP_singleton]
    split <;> omega
  · rw [hq, List.pairwise_append]
    refine ⟨hord, List.pairwise_singleton _ _, fun a ha b hb => ?_⟩
    rw [List.mem_singleton.mp hb, hs]
    exact hlt a ha
  · rw [hq, hn]
    intro x hx
    obtain hx | hx := List.mem_append.mp hx
    · exact Nat.lt_succ_of_lt (hlt x hx)
    · rw [List.mem_singleton.mp hx, hs]
      exact Nat.lt_succ_self _
  · rw [hp, hq, hn]
    intro x hx n hns
    obtain ⟨hnlt, hdone⟩ := hport x hx n hns
    refine ⟨Nat.lt_succ_of_lt hnlt, fun y hy hy' => ?_⟩
    obtain hy | hy := List.mem_append.mp hy
    · exact hdone y hy hy'
    · rw [List.mem_singleton.mp hy, hs] at hy'
      omega

theorem Lane.EntriesSound.append {ln : Lane} (h : ln.EntriesSound) {b : Lane} {e : Entry} (hw : e.phase = .waiting)
    (hnil : ln.liveOf e.ctx = []) (hq : b.queue = ln.queue ++ [e])
    (hfit : e.req.fits b.contexts[e.ctx].body = true) (hm' : b.contexts[e.ctx].inFlight = false)
    (hother : ∀ c : CtxNo, c ≠ e.ctx → b.contexts[c] = ln.contexts[c]) : b.EntriesSound := by
  rw [Lane.entriesSound_iff] at h ⊢
  intro c
  have hlive : b.liveOf c = ln.liveOf c ++ [e].filter fun q => q.live && q.ctx == c := by
    rw [Lane.liveOf, hq, List.filter_append]
    rfl
  by_cases hc : c = e.ctx
  · subst hc
    rw [hlive, hnil, List.filter_cons_of_pos (by simp [Entry.live_of_waiting hw])]
    refine ⟨by simp, by simpa using hfit, ?_⟩
    rw [hm']
    simp [hw]
  · rw [hlive, List.filter_cons_of_neg (by simp [Ne.symm hc]), List.filter_nil, List.append_nil, hother c hc]
    exact h c

theorem Lane.queue_dropEntry (ln : Lane) (n : Option Nat) :
    (ln.dropEntry n).queue = ln.queue.filter fun e => n != some e.serial := by
  cases n with
  | none => exact (List.filter_eq_self.mpr fun _ _ => rfl).symm
  | some n =>
    refine List.filter_congr fun e _ => ?_
    rw [Bool.eq_iff_iff, bne_iff_ne, bne_iff_ne]
    exact ⟨fun h hn => h (Option.some.inj hn).symm, fun h hn => h (congrArg some hn.symm)⟩

/-- The entry whose answer has been sent leaves: it was ANSWERED (R8, R187). -/
theorem Lane.QueueSound.sent {ln : Lane} (h : ln.QueueSound) {a : Answer} {rest : List Answer}
    (ha : ln.port.answers = a :: rest) {b : Lane} (hq : b.queue = (ln.dropEntry a.serial).queue)
    (hn : b.nextSerial = ln.nextSerial) (hp : b.port.answers = rest) : b.QueueSound := by
  have hfilter : b.queue = (ln.queue.filter fun e => a.serial != some e.serial).map id := by
    rw [hq, List.map_id, Lane.queue_dropEntry]
  refine h.update hfilter (fun _ => rfl) (fun _ _ hp => hp) hn (fun x hx => .inl (ha ▸ List.mem_cons_of_mem _ (hp ▸ hx))) ?_
  rw [Lane.placesHeld, Lane.placesHeld, hp, ha, hfilter, List.map_id, List.length_cons]
  have := (List.filter_sublist (p := fun e => a.serial != some e.serial) (l := ln.queue)).countP_le (p := Entry.live)
  omega

theorem Lane.EntriesSound.sent {ln : Lane} (hs : ln.QueueSound) (h : ln.EntriesSound) {a : Answer}
    (ha : a ∈ ln.port.answers) {b : Lane} (hq : b.queue = (ln.dropEntry a.serial).queue)
    (hc : b.contexts = ln.contexts) : b.EntriesSound := by
  have hdone (e : Entry) (he : e ∈ ln.queue) (hn : a.serial = some e.serial) : e.phase = .answered := by
    obtain ⟨-, -, -, -, hport⟩ := hs
    exact (hport a ha e.serial hn).2 e he rfl
  have hmem (e : Entry) : e ∈ b.queue ↔ e ∈ ln.queue ∧ a.serial ≠ some e.serial := by
    rw [hq, Lane.queue_dropEntry, List.mem_filter, bne_iff_ne]
  have hfilter : b.queue = (ln.queue.filter fun e => a.serial != some e.serial).map id := by
    rw [hq, List.map_id, Lane.queue_dropEntry]
  refine h.update hfilter (fun _ => rfl) (fun _ => rfl) (fun _ hl => hl) (fun _ _ _ => by rw [hc]) fun c => ?_
  rw [hc, h.2.2 c]
  constructor
  · rintro ⟨e, he, hp, hec⟩
    refine ⟨e, (hmem e).mpr ⟨he, fun hn => ?_⟩, hp, hec⟩
    rw [hdone e he hn] at hp
    cases hp
  · rintro ⟨e, he, hp, hec⟩
    exact ⟨e, ((hmem e).mp he).1, hp, hec⟩

/-! ### The link down (R32) -/

theorem Lane.noneWaits_cleared (ln : Lane) (c : CtxNo) : ln.cleared.NoneWaits c := by
  intro e he hp
  obtain ⟨e₀, hm, rfl⟩ := List.mem_map.mp he
  have : e₀.phase = .running := by simpa using (List.mem_filter.mp hm).2
  rw [show ({ e₀ with discard := true } : Entry).phase = e₀.phase from rfl, this] at hp
  cases hp

theorem Lane.QueueSound.cleared {ln : Lane} (h : ln.QueueSound) : ln.cleared.QueueSound := by
  refine h.update rfl (fun _ => rfl) (fun _ _ hp => hp) rfl (fun x hx => nomatch hx) ?_
  rw [Lane.placesHeld, Lane.placesHeld]
  have hle : ln.cleared.queue.countP Entry.live ≤ ln.queue.countP Entry.live := by
    rw [Lane.cleared, List.countP_map]
    exact (List.filter_sublist (l := ln.queue)).countP_le
  have hnone : ln.cleared.port.answers.length = 0 := rfl
  omega

theorem Lane.EntriesSound.cleared {ln : Lane} (h : ln.EntriesSound) : ln.cleared.EntriesSound := by
  refine h.update rfl (fun _ => rfl) (fun _ => rfl) (fun _ hl => hl) (fun _ _ _ => rfl) fun c => (h.2.2 c).trans ?_
  simp only [Lane.cleared, List.mem_map, List.mem_filter, beq_iff_eq]
  constructor
  · rintro ⟨e, he, hp, hc⟩
    exact ⟨{ e with discard := true }, ⟨e, ⟨he, hp⟩, rfl⟩, hp, hc⟩
  · rintro ⟨_, ⟨e, ⟨he, hp⟩, rfl⟩, -, hc⟩
    exact ⟨e, he, hp, hc⟩

/-- A lane at a start: nothing in the queue, no answer, every context as after power-on (R7). -/
theorem Lane.sound_of_fresh {ln : Lane} (hq : ln.queue = []) (ha : ln.port.answers = [])
    (hc : ∀ c : CtxNo, ln.contexts[c].inFlight = false) : ln.QueueSound ∧ ln.EntriesSound := by
  refine ⟨⟨?_, ?_, ?_, ?_, ?_⟩, fun c => ?_, ?_, fun c => ?_⟩
  case refine_8 =>
    rw [hc c]
    simp [hq]
  all_goals simp [Lane.placesHeld, hq, ha]

end Sys2Proof.Machine
end

section
/-! Proofs for the lane transactions: queues and places (R8, R9, R154, R187) through the operations on the lanes. What the module
has in hand beside the lanes stands through them, a context changes its state only at rest, and the slots in LOADING stand. -/

namespace Sys2Proof.Machine

/-! ### The slots in LOADING -/

theorem State.loadingSlots_eq {s t : State} (h : ∀ n : SlotNo, t.slots[n].state = .loading ↔ s.slots[n].state = .loading) :
    t.loadingSlots = s.loadingSlots := by
  refine List.filter_congr fun n _ => ?_
  rw [Bool.eq_iff_iff, beq_iff_eq, beq_iff_eq]
  exact h n

theorem State.loadingSlots_onSlot {s : State} {n : SlotNo} {f : Slot → Slot}
    (h : (f s.slots[n]).state = .loading ↔ s.slots[n].state = .loading) : (s.onSlot n f).loadingSlots = s.loadingSlots := by
  refine State.loadingSlots_eq fun k => ?_
  by_cases hk : k = n
  · subst hk
    rw [State.onSlot_same]
    exact h
  · rw [State.onSlot_other _ _ _ _ hk]

theorem State.loadingSlots_reference (s : State) (n : SlotNo) : (s.reference n).loadingSlots = s.loadingSlots :=
  State.loadingSlots_onSlot (by rfl)

theorem State.loadingSlots_requestStore (s : State) (r : StoreReq) : (s.requestStore r).loadingSlots = s.loadingSlots :=
  State.loadingSlots_congr (by simp)

theorem State.loadingSlots_eraseIfUnused (s : State) (n : SlotNo) : (s.eraseIfUnused n).loadingSlots = s.loadingSlots := by
  unfold State.eraseIfUnused
  split
  · next d hd =>
    split
    · rw [State.loadingSlots_requestStore]
      refine State.loadingSlots_onSlot ?_
      have hst : s.slots[n].state = .withdrawn := by rw [Slot.state, hd]
      rw [hst]
      exact iff_of_false (fun hx => nomatch hx) fun hx => nomatch hx
    · rfl
  · rfl

theorem State.loadingSlots_release (s : State) (n : SlotNo) : (s.release n).loadingSlots = s.loadingSlots :=
  (State.loadingSlots_eraseIfUnused _ n).trans (State.loadingSlots_onSlot (by rfl))

theorem State.loadingSlots_endContext (s : State) (l : LaneNo) (c : CtxNo) (cause : EndCause) :
    (s.endContext l c cause).loadingSlots = s.loadingSlots := by
  have h := s.endContext_slots_store l c cause
  cases hm : (s.ctx l c).body.master with
  | none =>
    rw [hm] at h
    exact State.loadingSlots_congr h.1
  | some n =>
    rw [hm] at h
    exact (State.loadingSlots_congr h.1).trans (s.loadingSlots_release n)

/-- An evaluation brings no slot into LOADING and takes none out of it (R72). -/
theorem Slot.evaluated_loading (sl : Slot) (sec : Seconds) :
    (sl.evaluated sec).state = .loading ↔ sl.state = .loading := by
  obtain ⟨body, refs⟩ := sl
  cases body with
  | empty => rfl
  | held st d =>
    cases st with
    | staged =>
      simp only [Slot.evaluated]
      split
      · split <;> simp [Slot.state]
      · rfl
    | active =>
      simp only [Slot.evaluated]
      split
      · simp [Slot.state]
      · rfl
    | loading _ => rfl
    | expired => rfl
    | withdrawn => rfl
    | erasing => rfl

theorem State.loadingSlots_foldl_requestStore (as : List SlotNo) (s : State) :
    (as.foldl (fun t n => t.requestStore (.writeSlot n)) s).loadingSlots = s.loadingSlots := by
  induction as generalizing s with
  | nil => rfl
  | cons n as ih => exact (ih _).trans (s.loadingSlots_requestStore _)

theorem State.loadingSlots_evaluate (s : State) : s.evaluate.loadingSlots = s.loadingSlots := by
  have hslots : s.evaluateSlots.loadingSlots = s.loadingSlots := by
    refine State.loadingSlots_eq fun n => ?_
    rw [State.evaluateSlots_slots, Fin.getElem_fin, Vector.getElem_ofFn]
    exact Slot.evaluated_loading _ _
  unfold State.evaluate
  split
  · have hfold := (State.loadingSlots_foldl_requestStore s.evaluationChanges s.evaluateSlots).trans hslots
    dsimp only
    split
    · exact hfold
    · exact hfold
  · rfl

/-! ### What is in hand, and what the queues hold -/

/-- The service state, the station's queue, answers and LOAD, the job in flight and the slots in LOADING stand. -/
structure State.SameHand (s t : State) : Prop where
  service : t.service = s.service
  loaded : t.loaded = s.loaded
  queue : t.station.queue = s.station.queue
  answers : t.station.port.answers = s.station.port.answers
  load : t.station.load = s.station.load
  job : t.kfu.job = s.kfu.job
  loading : t.loadingSlots = s.loadingSlots

theorem State.SameHand.refl (s : State) : s.SameHand s := ⟨rfl, rfl, rfl, rfl, rfl, rfl, rfl⟩

theorem State.SameHand.trans {s t u : State} (h : s.SameHand t) (h' : t.SameHand u) : s.SameHand u :=
  ⟨h'.service.trans h.service, h'.loaded.trans h.loaded, h'.queue.trans h.queue, h'.answers.trans h.answers,
    h'.load.trans h.load, h'.job.trans h.job, h'.loading.trans h.loading⟩

/-- A lane update leaves what is in hand. -/
theorem State.sameHand_onLane (s : State) (l : LaneNo) (f : Lane → Lane) : s.SameHand (s.onLane l f) :=
  ⟨rfl, rfl, rfl, rfl, rfl, rfl, rfl⟩

theorem State.sameHand_endContext (s : State) (l : LaneNo) (c : CtxNo) (cause : EndCause) :
    s.SameHand (s.endContext l c cause) :=
  ⟨by simp, by simp, by simp, by simp, by simp, by simp, s.loadingSlots_endContext l c cause⟩

theorem State.sameHand_release (s : State) (n : SlotNo) : s.SameHand (s.release n) :=
  ⟨by simp, by simp, by simp, by simp, by simp, by simp, s.loadingSlots_release n⟩

theorem State.sameHand_requestStore (s : State) (r : StoreReq) : s.SameHand (s.requestStore r) :=
  ⟨by simp, by simp, by simp, by simp, by simp, by simp, s.loadingSlots_requestStore r⟩

theorem State.sameHand_eraseIfUnused (s : State) (n : SlotNo) : s.SameHand (s.eraseIfUnused n) :=
  ⟨by simp, by simp, by simp, by simp, by simp, by simp, s.loadingSlots_eraseIfUnused n⟩

theorem State.sameHand_evaluate (s : State) : s.SameHand s.evaluate :=
  ⟨by simp, by simp, by simp, by simp, by simp, by simp, s.loadingSlots_evaluate⟩

/-- Every lane keeps its entries, its serials and its answers. -/
def State.SameQueues (s t : State) : Prop :=
  ∀ l : LaneNo, t.lanes[l].queue = s.lanes[l].queue ∧ t.lanes[l].nextSerial = s.lanes[l].nextSerial
    ∧ t.lanes[l].port.answers = s.lanes[l].port.answers

theorem State.SameQueues.of_lanes {s t : State} (h : t.lanes = s.lanes) : s.SameQueues t := by
  intro l
  rw [h]
  exact ⟨rfl, rfl, rfl⟩

theorem State.SameQueues.trans {s t u : State} (h : s.SameQueues t) (h' : t.SameQueues u) : s.SameQueues u := by
  intro l
  obtain ⟨hq, hn, ha⟩ := h l
  obtain ⟨hq', hn', ha'⟩ := h' l
  exact ⟨hq'.trans hq, hn'.trans hn, ha'.trans ha⟩

theorem State.sameQueues_onLane {s : State} {l : LaneNo} {f : Lane → Lane} (hq : (f s.lanes[l]).queue = s.lanes[l].queue)
    (hn : (f s.lanes[l]).nextSerial = s.lanes[l].nextSerial)
    (ha : (f s.lanes[l]).port.answers = s.lanes[l].port.answers) : s.SameQueues (s.onLane l f) := by
  intro k
  by_cases hk : k = l
  · subst hk
    rw [State.onLane_same]
    exact ⟨hq, hn, ha⟩
  · rw [State.onLane_other s l k f hk]
    exact ⟨rfl, rfl, rfl⟩

theorem State.sameQueues_onCtx (s : State) (l : LaneNo) (c : CtxNo) (g : Context → Context) :
    s.SameQueues (s.onCtx l c g) := State.sameQueues_onLane rfl rfl rfl

theorem State.sameQueues_freeContext (s : State) (l : LaneNo) (c : CtxNo) (cause : EndCause) :
    s.SameQueues (s.freeContext l c cause) := by
  rw [State.freeContext_eq]
  exact State.sameQueues_onLane rfl rfl rfl

theorem State.sameQueues_endContext (s : State) (l : LaneNo) (c : CtxNo) (cause : EndCause) :
    s.SameQueues (s.endContext l c cause) :=
  (s.sameQueues_freeContext l c cause).trans (.of_lanes (s.endContext_lanes l c cause))

theorem State.sameQueues_reachEnd (s : State) (l : LaneNo) (c : CtxNo) (p : PendingEnd) :
    s.SameQueues (s.reachEnd l c p) := by
  unfold State.reachEnd
  split
  · exact .of_lanes rfl
  · split
    · exact s.sameQueues_onCtx l c _
    · exact s.sameQueues_endContext l c p.cause

/-- A context has neither a live entry nor a job (R8, R2). -/
def State.AtRest (s : State) (l : LaneNo) (c : CtxNo) : Prop := s.lanes[l].liveOf c = [] ∧ (s.ctx l c).inFlight = false

/-! ### The invariant through changes of the lanes -/

section
variable {s : State} (h : s.QueuesSound)
include h

/-- With what is in hand the same, the lanes sound, the marks the same and only contexts without a job in a new state, the
invariant stands. -/
theorem State.QueuesSound.of_lanes {t : State} (hand : s.SameHand t)
    (hl : ∀ l : LaneNo, t.lanes[l].QueueSound ∧ t.lanes[l].EntriesSound)
    (hm : ∀ l c, (t.ctx l c).inFlight = (s.ctx l c).inFlight)
    (hb : ∀ l c, (t.ctx l c).body = (s.ctx l c).body ∨
      (s.ctx l c).inFlight = false ∧ (s.service = .starting → (t.ctx l c).body = .free)) : t.QueuesSound := by
  obtain ⟨-, ⟨hlen, hheld, htail, hans⟩, ⟨hmark, hfits⟩, ⟨hloaded, hstart⟩, hload⟩ := h
  obtain ⟨service, loaded, queue, answers, load, job, loading⟩ := hand
  refine ⟨hl, ⟨?_, ?_, ?_, ?_⟩, ⟨fun l c => ?_, fun j l c hj ho => ?_⟩, ⟨?_, fun hs => ?_⟩, ?_⟩
  · rwa [queue]
  · rwa [Station.placesHeld, queue, answers]
  · rwa [queue]
  · rwa [queue]
  · rw [hm, job]
    exact hmark l c
  · rw [job] at hj
    obtain hbody | ⟨hno, -⟩ := hb l c
    · rw [hbody]
      exact hfits j l c hj ho
    · rw [(hmark l c).mpr (by rw [hj]; exact ho)] at hno
      cases hno
  · rwa [loaded, service]
  · rw [service] at hs
    obtain ⟨hjob, hqueue, hnone, hfree⟩ := hstart hs
    refine ⟨job.trans hjob, queue.trans hqueue, load.trans hnone, fun l c => ?_⟩
    obtain hbody | ⟨-, hbody⟩ := hb l c
    · exact hbody.trans (hfree l c)
    · exact hbody hs
  · rw [State.LoadSound, loaded, State.loadRequests_congr load job, loading,
      show t.station.isExecuting .loadKey = s.station.isExecuting .loadKey by rw [Station.isExecuting, queue]; rfl]
    exact hload

/-- The lanes keep their queues, and each context keeps its state and mark or is at rest. -/
theorem State.QueuesSound.of_contexts {t : State} (hand : s.SameHand t) (hq : s.SameQueues t)
    (hc : ∀ l c, ((t.ctx l c).body = (s.ctx l c).body ∧ (t.ctx l c).inFlight = (s.ctx l c).inFlight) ∨
      (s.AtRest l c ∧ (t.ctx l c).inFlight = false ∧ (s.service = .starting → (t.ctx l c).body = .free))) :
    t.QueuesSound := by
  refine h.of_lanes hand (fun l => ⟨?_, ?_⟩) (fun l c => ?_) fun l c => ?_
  · obtain ⟨hqueue, hnext, hans⟩ := hq l
    exact (h.1 l).1.same hqueue hnext hans
  · refine (h.1 l).2.same (hq l).1 fun c => ?_
    obtain hsame | ⟨⟨hnil, -⟩, hm, -⟩ := hc l c
    · exact .inl hsame
    · exact .inr ⟨hnil, hm⟩
  · obtain ⟨-, hm⟩ | ⟨⟨-, hold⟩, hm, -⟩ := hc l c
    · exact hm
    · rw [hm, hold]
  · obtain ⟨hb, -⟩ | ⟨⟨-, hold⟩, -, hfree⟩ := hc l c
    · exact .inl hb
    · exact .inr ⟨hold, hfree⟩

/-- Nothing that the invariant speaks of has changed. -/
theorem State.QueuesSound.congr {t : State} (hand : s.SameHand t) (hq : s.SameQueues t)
    (hc : ∀ l c, (t.ctx l c).body = (s.ctx l c).body ∧ (t.ctx l c).inFlight = (s.ctx l c).inFlight) : t.QueuesSound :=
  h.of_contexts hand hq fun l c => .inl (hc l c)

/-- The lanes are the same. -/
theorem State.QueuesSound.same {t : State} (hand : s.SameHand t) (hl : t.lanes = s.lanes) : t.QueuesSound :=
  h.congr hand (.of_lanes hl) fun l c => by rw [State.ctx_of_lanes hl]; exact ⟨rfl, rfl⟩

/-- A context at rest is replaced by one without a mark. -/
theorem State.QueuesSound.replace {t : State} {l : LaneNo} {c : CtxNo} {g : Context → Context} (hand : s.SameHand t)
    (hq : s.SameQueues t) (hc : ∀ k d, t.ctx k d = (s.onCtx l c g).ctx k d) (hrest : s.AtRest l c)
    (hm : (g (s.ctx l c)).inFlight = (s.ctx l c).inFlight)
    (hfree : s.service = .starting → (g (s.ctx l c)).body = .free) : t.QueuesSound := by
  refine h.of_contexts hand hq fun k d => ?_
  by_cases hkd : k = l ∧ d = c
  · obtain ⟨rfl, rfl⟩ := hkd
    rw [hc, State.ctx_onCtx_same]
    exact .inr ⟨hrest, hm.trans hrest.2, hfree⟩
  · have hsame : t.ctx k d = s.ctx k d := by
      rw [hc]
      by_cases hk : k = l
      · subst hk
        exact State.ctx_onCtx_other _ _ _ _ _ fun hd => hkd ⟨rfl, hd⟩
      · exact State.ctx_onCtx_lane _ _ _ _ _ _ hk
    rw [hsame]
    exact .inl ⟨rfl, rfl⟩

/-- One lane changes, its contexts apart. -/
theorem State.QueuesSound.onLane {l : LaneNo} {f : Lane → Lane}
    (hf : (f s.lanes[l]).QueueSound ∧ (f s.lanes[l]).EntriesSound)
    (hc : (f s.lanes[l]).contexts = s.lanes[l].contexts) : (s.onLane l f).QueuesSound := by
  refine h.of_lanes (s.sameHand_onLane l f) (fun k => ?_) (fun k c => by rw [State.ctx_onLane hc]) fun k c =>
    .inl (by rw [State.ctx_onLane hc])
  by_cases hk : k = l
  · subst hk
    rw [State.onLane_same]
    exact hf
  · rw [State.onLane_other s l k f hk]
    exact h.1 k

/-- One lane changes, its queue, its answers and its contexts apart. -/
theorem State.QueuesSound.onLane_same {l : LaneNo} {f : Lane → Lane} (hq : (f s.lanes[l]).queue = s.lanes[l].queue)
    (hn : (f s.lanes[l]).nextSerial = s.lanes[l].nextSerial)
    (ha : (f s.lanes[l]).port.answers = s.lanes[l].port.answers)
    (hc : (f s.lanes[l]).contexts = s.lanes[l].contexts) : (s.onLane l f).QueuesSound :=
  h.congr (s.sameHand_onLane l f) (State.sameQueues_onLane hq hn ha) fun k c => by rw [State.ctx_onLane hc]; exact ⟨rfl, rfl⟩

theorem State.QueuesSound.entriesFit (l : LaneNo) (c : CtxNo) : EntriesFit (s.lanes[l].liveOf c) (s.ctx l c) :=
  (s.lanes[l].entriesSound_iff.mp (h.1 l).2) c

theorem State.QueuesSound.atRest {l : LaneNo} {c : CtxNo} (hw : s.lanes[l].NoneWaits c) (hm : (s.ctx l c).inFlight = false) :
    s.AtRest l c := ⟨(h.1 l).2.liveOf_eq_nil hw hm, hm⟩

/-- A context in a state that no entry's request fits is at rest. -/
theorem State.QueuesSound.atRest_of_body {l : LaneNo} {c : CtxNo} (hb : ∀ r : LaneReq, r.fits (s.ctx l c).body = false) :
    s.AtRest l c := (h.entriesFit l c).nil_of_unfit hb

/-- With an entry WAITING or RUNNING the module is not STARTING. -/
theorem State.QueuesSound.not_starting {l : LaneNo} {e : Entry} (he : e ∈ s.lanes[l].queue) (hl : e.live = true) :
    s.service ≠ .starting := by
  intro hs
  have hfit := (h.1 l).2.2.1 e he hl
  obtain ⟨-, -, -, ⟨-, hstart⟩, -⟩ := h
  have hfree := (hstart hs).2.2.2 l e.ctx
  rw [show s.lanes[l].contexts[e.ctx].body = .free from hfree] at hfit
  cases hr : e.req <;> rw [hr] at hfit <;> cases hfit

theorem State.QueuesSound.latch (f : Flag) : (s.latch f).QueuesSound := h.same ⟨rfl, rfl, rfl, rfl, rfl, rfl, rfl⟩ rfl

theorem State.QueuesSound.requestStore (r : StoreReq) : (s.requestStore r).QueuesSound :=
  h.same (s.sameHand_requestStore r) (by simp)

theorem State.QueuesSound.release (n : SlotNo) : (s.release n).QueuesSound := h.same (s.sameHand_release n) (by simp)

theorem State.QueuesSound.eraseIfUnused (n : SlotNo) : (s.eraseIfUnused n).QueuesSound :=
  h.same (s.sameHand_eraseIfUnused n) (by simp)

theorem State.QueuesSound.reference (n : SlotNo) : (s.reference n).QueuesSound :=
  h.same ⟨rfl, rfl, rfl, rfl, rfl, rfl, s.loadingSlots_reference n⟩ rfl

theorem State.QueuesSound.evaluate : s.evaluate.QueuesSound := h.same s.sameHand_evaluate (by simp)

theorem State.QueuesSound.driveAlerts : s.driveAlerts.QueuesSound := by
  refine h.congr ⟨by simp, by simp, by simp, by simp, by simp, by simp, State.loadingSlots_congr (by simp)⟩
    (fun l => ?_) fun l c => ?_
  · rw [State.driveAlerts_lane]
    exact ⟨rfl, rfl, rfl⟩
  · rw [State.ctx, State.driveAlerts_lane]
    exact ⟨rfl, rfl⟩

theorem State.QueuesSound.answerWaiting (l : LaneNo) (pick : Entry → Bool) (r : Reply) :
    (s.answerWaiting l pick r).QueuesSound := by
  rw [State.answerWaiting_eq]
  exact h.onLane ⟨(h.1 l).1.answerWaiting _ pick r, (h.1 l).2.answerWaiting _ pick r⟩ rfl

/-- An immediate answer with a place free for it (R9). -/
theorem State.QueuesSound.laneReply {l : LaneNo} (hfree : s.lanes[l].placesHeld < answerPlaces) (kind tag : Byte) (r : Reply) :
    (s.laneReply l kind tag r).QueuesSound :=
  h.onLane ⟨(h.1 l).1.reply (a := { kind := kind, tag := tag, reply := r, serial := none }) hfree rfl rfl rfl rfl,
    (h.1 l).2.same rfl fun _ => .inl ⟨rfl, rfl⟩⟩ rfl

end

/-! ### Endings (R5, R6, R29, R30, R32, R34) -/

section
variable {s : State} (h : s.QueuesSound)
include h

theorem State.QueuesSound.freeContext {l : LaneNo} {c : CtxNo} (hrest : s.AtRest l c) (cause : EndCause) :
    (s.freeContext l c cause).QueuesSound :=
  h.replace (by rw [State.freeContext_eq]; exact s.sameHand_onLane l _) (s.sameQueues_freeContext l c cause)
    (fun k d => s.ctx_freeContext l k c d cause) hrest rfl fun _ => rfl

theorem State.QueuesSound.endContext {l : LaneNo} {c : CtxNo} (hrest : s.AtRest l c) (cause : EndCause) :
    (s.endContext l c cause).QueuesSound :=
  h.replace (s.sameHand_endContext l c cause) (s.sameQueues_endContext l c cause)
    (fun k d => (s.ctx_endContext l k c d cause).trans (s.ctx_freeContext l k c d cause)) hrest rfl fun _ => rfl

theorem State.QueuesSound.recordPending (l : LaneNo) (c : CtxNo) (p : PendingEnd) : (s.recordPending l c p).QueuesSound := by
  unfold State.recordPending
  refine h.congr (s.sameHand_onLane l _) (s.sameQueues_onCtx l c _) fun k d => ?_
  by_cases hk : k = l
  · subst hk
    by_cases hd : d = c
    · subst hd
      rw [State.ctx_onCtx_same]
      exact ⟨rfl, rfl⟩
    · rw [State.ctx_onCtx_other _ _ _ _ _ hd]
      exact ⟨rfl, rfl⟩
  · rw [State.ctx_onCtx_lane _ _ _ _ _ _ hk]
    exact ⟨rfl, rfl⟩

/-- An ending from outside reaches a context none of whose entries waits. -/
theorem State.QueuesSound.reachEnd {l : LaneNo} {c : CtxNo} (hw : s.lanes[l].NoneWaits c) (p : PendingEnd) :
    (s.reachEnd l c p).QueuesSound := by
  unfold State.reachEnd
  split
  · exact h
  · split
    · exact h.recordPending l c p
    · next hm => exact h.endContext (h.atRest hw (Bool.eq_false_iff.mpr hm)) p.cause

theorem State.QueuesSound.applyPending {l : LaneNo} {c : CtxNo} (hrest : s.AtRest l c) : (s.applyPending l c).QueuesSound := by
  unfold State.applyPending
  split
  · exact h
  · split
    · exact h
    · exact h.endContext hrest _

/-- On a lane without WAITING entries every context is reached. -/
theorem State.QueuesSound.resetContexts {l : LaneNo} (hw : ∀ c, s.lanes[l].NoneWaits c) : (s.resetContexts l).QueuesSound := by
  unfold State.resetContexts
  refine (foldl_keeps (P := fun t => t.QueuesSound ∧ ∀ c, t.lanes[l].NoneWaits c) (fun t c ht => ?_) _ s ⟨h, hw⟩).1
  obtain ⟨ht, hw⟩ := ht
  refine ⟨ht.reachEnd (hw c) .laneReset, fun d => ?_⟩
  rw [Lane.NoneWaits, (t.sameQueues_reachEnd l c .laneReset l).1]
  exact hw d

theorem State.QueuesSound.addServiceChanged (l : LaneNo) : (s.addServiceChanged l).QueuesSound :=
  h.onLane_same rfl rfl rfl rfl

omit h in
/-- After the waiting entries that `pick` names have been answered, none of the context waits. -/
theorem State.noneWaits_answerWaiting (s : State) (l : LaneNo) {pick : Entry → Bool} (r : Reply) {c : CtxNo}
    (hpick : ∀ e ∈ s.lanes[l].queue, e.phase = .waiting → e.ctx = c → pick e = true) :
    (s.answerWaiting l pick r).lanes[l].NoneWaits c := by
  rw [State.answerWaiting_eq, State.onLane_same]
  exact Lane.noneWaits_answerWaiting _ _ r hpick

/-- Every waiting entry of a lane is answered and every context of it is reached (R30, R34). -/
theorem State.QueuesSound.emptied (l : LaneNo) (r : Reply) :
    (((s.answerWaiting l (fun _ => true) r).resetContexts l).addServiceChanged l).QueuesSound :=
  ((h.answerWaiting l _ r).resetContexts fun _ => s.noneWaits_answerWaiting l r fun _ _ _ _ => rfl).addServiceChanged l

theorem State.QueuesSound.disableLane (l : LaneNo) : (s.disableLane l).QueuesSound := h.emptied l _

theorem State.QueuesSound.leaveServiceLane (l : LaneNo) : (s.leaveServiceLane l).QueuesSound := h.emptied l _

/-- The service state changes outside STARTING, the records being loaded. -/
theorem State.QueuesSound.setService {v : Service} (hloaded : s.loaded = true) (hv : v ≠ .starting) :
    State.QueuesSound { s with service := v } := by
  obtain ⟨hlanes, hstation, hjob, -, hload⟩ := h
  refine ⟨hlanes, hstation, hjob, ⟨fun hno => ?_, fun hs => absurd hs hv⟩, hload⟩
  rw [show State.loaded { s with service := v } = s.loaded from rfl, hloaded] at hno
  cases hno

theorem State.QueuesSound.loaded_of_not_starting (hs : s.service ≠ .starting) : s.loaded = true := by
  obtain ⟨-, -, -, ⟨hloaded, -⟩, -⟩ := h
  rw [← Bool.not_eq_false]
  exact fun hno => hs (hloaded hno)

theorem State.QueuesSound.leaveService (hloaded : s.loaded = true) : s.leaveService.QueuesSound :=
  foldl_keeps (P := State.QueuesSound) (fun _ l h => h.leaveServiceLane l) _ _ (h.setService hloaded (by decide))

theorem State.QueuesSound.linkDown (l : LaneNo) : (s.linkDown l).QueuesSound := by
  have hclear : (s.onLane l Lane.cleared).QueuesSound := h.onLane ⟨(h.1 l).1.cleared, (h.1 l).2.cleared⟩ rfl
  refine (hclear.resetContexts fun c => ?_).latch _
  rw [State.onLane_same]
  exact Lane.noneWaits_cleared _ c

theorem State.QueuesSound.removeAndEnd (l : LaneNo) (c : CtxNo) (p : PendingEnd) (code : Code) :
    (s.removeAndEnd l c p code).QueuesSound :=
  (h.answerWaiting l _ _).reachEnd (s.noneWaits_answerWaiting l _ fun _ _ _ hc => beq_iff_eq.mpr hc) p

/-! ### Withdrawal of a master key (R29) -/

omit h in
theorem State.sameQueues_withdrawContext (s : State) (n : SlotNo) (l : LaneNo) (c : CtxNo) :
    s.SameQueues (s.withdrawContext n l c) := by
  unfold State.withdrawContext
  split
  · split
    · exact s.sameQueues_endContext l c _
    · exact .of_lanes rfl
  · split
    · exact s.sameQueues_onCtx l c _
    · exact .of_lanes rfl
  · split
    · exact s.sameQueues_endContext l c _
    · exact .of_lanes rfl
  · exact .of_lanes rfl

/-- The withdrawal reaches a context whose waiting PROVE, if it names the slot, has been answered. -/
theorem State.QueuesSound.withdrawContext {n : SlotNo} {l : LaneNo} {c : CtxNo}
    (hw : (s.ctx l c).body.provingOn n = true → s.lanes[l].NoneWaits c) : (s.withdrawContext n l c).QueuesSound := by
  unfold State.withdrawContext
  split
  · next hb =>
    split
    · refine h.endContext (h.atRest_of_body fun r => ?_) .revoked
      rw [hb]
      cases r <;> rfl
    · exact h
  · split
    · exact h.recordPending l c .revoked
    · exact h
  · next hb =>
    split
    · next hn =>
      refine h.endContext (h.atRest (hw ?_) (Bool.eq_false_iff.mpr hn.2)) .revoked
      rw [hb, hn.1]
      exact beq_self_eq_true n
    · exact h
  · exact h

omit h in
/-- A context that a withdrawal reaches is changed alone, and keeps its state but for an ending. -/
theorem State.provingOn_withdrawContext (s : State) (n : SlotNo) (l : LaneNo) (c d : CtxNo)
    (hp : ((s.withdrawContext n l c).ctx l d).body.provingOn n = true) : (s.ctx l d).body.provingOn n = true := by
  have hend (cause : EndCause) (hp : ((s.endContext l c cause).ctx l d).body.provingOn n = true) :
      (s.ctx l d).body.provingOn n = true := by
    rw [State.ctx_endContext, State.ctx_freeContext] at hp
    by_cases hd : d = c
    · subst hd
      rw [State.ctx_onCtx_same] at hp
      cases hp
    · rwa [State.ctx_onCtx_other _ _ _ _ _ hd] at hp
  unfold State.withdrawContext at hp
  split at hp
  · split at hp
    · exact hend _ hp
    · exact hp
  · split at hp
    · unfold State.recordPending at hp
      by_cases hd : d = c
      · subst hd
        rwa [State.ctx_onCtx_same] at hp
      · rwa [State.ctx_onCtx_other _ _ _ _ _ hd] at hp
    · exact hp
  · split at hp
    · exact hend _ hp
    · exact hp
  · exact hp

theorem State.QueuesSound.withdrawLane (n : SlotNo) (l : LaneNo) : (s.withdrawLane n l).QueuesSound := by
  have hwait := h.answerWaiting l (fun e => (s.ctx l e.ctx).body.provingOn n) (.code .keyWithdrawn)
  have hnone (c : CtxNo) (hp : (s.ctx l c).body.provingOn n = true) :
      (s.answerWaiting l (fun e => (s.ctx l e.ctx).body.provingOn n) (.code .keyWithdrawn)).lanes[l].NoneWaits c :=
    s.noneWaits_answerWaiting l _ fun e _ _ hc => by rw [hc]; exact hp
  unfold State.withdrawLane
  dsimp only
  generalize ht : s.answerWaiting l (fun e => (s.ctx l e.ctx).body.provingOn n) (.code .keyWithdrawn) = t at hwait hnone
  have hctx (c : CtxNo) : t.ctx l c = s.ctx l c := by rw [← ht, State.ctx_answerWaiting]
  refine (foldl_keeps
    (P := fun u => u.QueuesSound ∧ ∀ c, (u.ctx l c).body.provingOn n = true → u.lanes[l].NoneWaits c)
    (fun u c hu => ?_) _ t ⟨hwait, fun c hp => hnone c (by rwa [hctx] at hp)⟩).1
  obtain ⟨hu, hw⟩ := hu
  refine ⟨hu.withdrawContext (hw c), fun d hp => ?_⟩
  rw [Lane.NoneWaits, (u.sameQueues_withdrawContext n l c l).1]
  exact hw d (u.provingOn_withdrawContext n l c d hp)

theorem State.QueuesSound.withdrawMaster (n : SlotNo) : (s.withdrawMaster n).QueuesSound :=
  foldl_keeps (P := State.QueuesSound) (fun _ l h => h.withdrawLane n l) _ s h

/-! ### Notices and signing (R26, R78, R157) -/

theorem State.QueuesSound.serviceChangedAll : s.serviceChangedAll.QueuesSound :=
  foldl_keeps (P := State.QueuesSound) (fun _ l h => h.addServiceChanged l) _ s h

theorem State.QueuesSound.signingChangedAll : s.signingChangedAll.QueuesSound := by
  refine foldl_keeps (P := State.QueuesSound) (fun s l h => ?_) _ s h
  split
  · exact h.onLane_same rfl rfl rfl rfl
  · exact h

theorem State.QueuesSound.setSigning (g : Option Gen) : State.QueuesSound { s with signing := g } :=
  h.same ⟨rfl, rfl, rfl, rfl, rfl, rfl, rfl⟩ rfl

theorem State.QueuesSound.reformSigning : s.reformSigning.QueuesSound := by
  unfold State.reformSigning
  split
  · exact h
  · exact (h.setSigning _).signingChangedAll

theorem State.QueuesSound.enterServing (hloaded : s.loaded = true) : s.enterServing.QueuesSound :=
  (h.setService hloaded (v := .serving) (by decide)).serviceChangedAll

end

end Sys2Proof.Machine
end

section
/-! Proofs for the lane transactions: queues and places (R8, R9) through the start and the completion of jobs and through the lane
requests. A job starts from a WAITING entry with the unit free; a completion leaves its context at rest. -/

namespace Sys2Proof.Machine

/-! ### The arbiter's choice names an entry or a LOAD (R116, R117) -/

theorem selectLane_mem {order : List LaneNo} {cand : LaneNo → Option Entry} {l : LaneNo} {e : Entry}
    (h : selectLane order cand = some (l, e)) : cand l = some e := by
  obtain ⟨k, -, hk⟩ := List.exists_of_findSome?_eq_some h
  obtain ⟨x, hx, hxe⟩ := Option.map_eq_some_iff.mp hk
  cases hxe
  exact hx

theorem State.stepCandidate_mem {s : State} {l : LaneNo} {e : Entry} (h : s.stepCandidate l = some e) :
    e ∈ s.lanes[l].queue ∧ e.phase = .waiting := by
  have hstep := List.find?_some h
  simp only [Entry.isStep, Bool.and_eq_true, beq_iff_eq] at hstep
  exact ⟨List.mem_of_find?_eq_some h, hstep.1⟩

theorem State.admitCandidate_mem {s : State} {l : LaneNo} {e : Entry} (h : s.admitCandidate l = some e) :
    e ∈ s.lanes[l].queue ∧ e.phase = .waiting := by
  unfold State.admitCandidate at h
  split at h
  · cases h
  · have hadmit := List.find?_some h
    simp only [Entry.isAdmit, Bool.and_eq_true, beq_iff_eq] at hadmit
    exact ⟨List.mem_of_find?_eq_some h, hadmit.1⟩

/-- What a choice names is there: a WAITING entry of the lane, or the LOAD that waits. -/
def Choice.Present (s : State) : Choice → Prop
  | .step l e => e ∈ s.lanes[l].queue ∧ e.phase = .waiting
  | .admitting l e => e ∈ s.lanes[l].queue ∧ e.phase = .waiting
  | .load req => ∃ queued, s.station.load = some (req, queued)

theorem State.choose_present {s : State} {ch : Choice} (h : s.choose = some ch) : ch.Present s := by
  have hadmitting {ch : Choice} (h : (selectLane (laneOrder s.config.items.mode s.kfu.admitPointer) s.admitCandidate).map
      (fun x => Choice.admitting x.1 x.2) = some ch) : ch.Present s := by
    obtain ⟨⟨l, e⟩, hsel, rfl⟩ := Option.map_eq_some_iff.mp h
    exact State.admitCandidate_mem (selectLane_mem hsel)
  unfold State.choose at h
  split at h
  · next hsel =>
    cases h
    exact State.stepCandidate_mem (selectLane_mem hsel)
  · dsimp only at h
    split at h
    · exact hadmitting h
    · next req queued hload =>
      split at h
      · cases h
        exact ⟨queued, hload⟩
      · obtain h | ⟨-, h⟩ := Option.or_eq_some_iff.mp h
        · exact hadmitting h
        · cases h
          exact ⟨queued, hload⟩

/-! ### A job starts (R15, R20, R119) -/

/-- A lane job is no LOAD. -/
theorem State.loadRequests_lane {s : State} {j : Job} (hj : s.kfu.job = some j) (ho : j.origin ≠ none) :
    s.loadRequests = (s.station.load.map Prod.fst).toList := by
  rw [State.loadRequests, hj]
  cases j with
  | loadJob => exact absurd rfl ho
  | openJob => exact List.append_nil _
  | proveJob => exact List.append_nil _
  | sealJob => exact List.append_nil _

theorem State.loadRequests_free {s : State} (hj : s.kfu.job = none) :
    s.loadRequests = (s.station.load.map Prod.fst).toList := by
  rw [State.loadRequests, hj]
  exact List.append_nil _

section
variable {s : State} (h : s.QueuesSound)
include h

theorem State.QueuesSound.not_starting_of_job {j : Job} (hj : s.kfu.job = some j) : s.service ≠ .starting := by
  obtain ⟨-, -, -, ⟨-, hstart⟩, -⟩ := h
  intro hs
  rw [(hstart hs).1] at hj
  cases hj

/-- With the unit free a WAITING entry goes RUNNING and its job goes in flight. -/
theorem State.QueuesSound.run {l : LaneNo} {e : Entry} (he : e ∈ s.lanes[l].queue) (hw : e.phase = .waiting)
    (hfree : s.kfu.job = none) {j : Job} (ho : j.origin = some (l, e.ctx)) (hfit : j.fits (s.ctx l e.ctx).body = true) :
    ((s.setRunning l e).setJob j).QueuesSound := by
  have hserv := h.not_starting he (Entry.live_of_waiting hw)
  obtain ⟨hlanes, hstation, ⟨hmark, -⟩, ⟨hloaded, -⟩, hload⟩ := h
  have hctx (k : LaneNo) (d : CtxNo) : ((s.setRunning l e).setJob j).ctx k d =
      (s.onCtx l e.ctx fun x => { x with inFlight := true }).ctx k d := s.ctx_setRunning l k e d
  refine ⟨fun k => ?_, hstation, ⟨fun k d => ?_, fun j' k d hj' ho' => ?_⟩, ⟨hloaded, fun hs => absurd hs hserv⟩, ?_⟩
  · rw [show ((s.setRunning l e).setJob j).lanes = (s.onLane l fun ln => ln.setRunning e).lanes from rfl]
    by_cases hk : k = l
    · subst hk
      rw [State.onLane_same]
      exact ⟨(hlanes k).1.setRunning he hw, (hlanes k).1.setRunning_entries he hw (hlanes k).2⟩
    · rw [State.onLane_other _ _ _ _ hk]
      exact hlanes k
  · rw [hctx, show ((s.setRunning l e).setJob j).kfu.job = some j from rfl, Option.bind_some, ho]
    have hidle : (s.ctx k d).inFlight = true ↔ False := by rw [hmark, hfree]; simp
    by_cases hk : k = l
    · subst hk
      by_cases hd : d = e.ctx
      · subst hd
        rw [State.ctx_onCtx_same]
        exact iff_of_true rfl rfl
      · rw [State.ctx_onCtx_other _ _ _ _ _ hd, hidle]
        exact ⟨False.elim, fun hx => hd (by cases hx; rfl)⟩
    · rw [State.ctx_onCtx_lane _ _ _ _ _ _ hk, hidle]
      exact ⟨False.elim, fun hx => hk (by cases hx; rfl)⟩
  · cases hj'
    rw [ho] at ho'
    cases ho'
    rw [hctx, State.ctx_onCtx_same]
    exact hfit
  · rw [State.LoadSound, State.loadRequests_lane (s := (s.setRunning l e).setJob j) rfl (by rw [ho]; exact nofun)]
    rw [State.LoadSound, State.loadRequests_free hfree] at hload
    exact hload

/-- An entry that waits is the only live one of its context, and no job runs for it. -/
theorem State.QueuesSound.waiting_alone {l : LaneNo} {e : Entry} (he : e ∈ s.lanes[l].queue) (hw : e.phase = .waiting) :
    s.lanes[l].liveOf e.ctx = [e] ∧ (s.ctx l e.ctx).inFlight = false := by
  have hmem : e ∈ s.lanes[l].liveOf e.ctx := Lane.mem_liveOf.mpr ⟨he, Entry.live_of_waiting hw, rfl⟩
  exact ⟨(h.entriesFit l e.ctx).eq_singleton hmem, (h.entriesFit l e.ctx).not_inFlight hmem hw⟩

/-- A waiting entry answered at its job's start leaves its context at rest. -/
theorem State.QueuesSound.atRest_answerAtStart {l : LaneNo} {e : Entry} (he : e ∈ s.lanes[l].queue) (hw : e.phase = .waiting)
    (code : Code) : (s.answerAtStart l e code).QueuesSound ∧ (s.answerAtStart l e code).AtRest l e.ctx := by
  obtain ⟨halone, hm⟩ := h.waiting_alone he hw
  have ht : (s.answerAtStart l e code).QueuesSound := h.answerWaiting l _ _
  refine ⟨ht, ht.atRest (s.noneWaits_answerWaiting l _ fun q hq hp hc => ?_) ?_⟩
  · have : q ∈ s.lanes[l].liveOf e.ctx := Lane.mem_liveOf.mpr ⟨hq, Entry.live_of_waiting hp, hc⟩
    rw [halone] at this
    rw [List.mem_singleton.mp this]
    exact beq_self_eq_true _
  · rw [State.answerAtStart, State.ctx_answerWaiting]
    exact hm

theorem State.QueuesSound.entry_fits {l : LaneNo} {e : Entry} (he : e ∈ s.lanes[l].queue) (hw : e.phase = .waiting) :
    e.req.fits (s.ctx l e.ctx).body = true := (h.1 l).2.2.1 e he (Entry.live_of_waiting hw)

theorem State.QueuesSound.startOpen {l : LaneNo} {e : Entry} (he : e ∈ s.lanes[l].queue) (hw : e.phase = .waiting)
    (hfree : s.kfu.job = none) (hreq : e.req = .openReq) : (s.startOpen l e).QueuesSound := by
  have hfit := h.entry_fits he hw
  rw [hreq] at hfit
  unfold State.startOpen
  split
  · next o m hb =>
    split
    · exact h.run he hw hfree rfl (by rw [hb]; rfl)
    · obtain ⟨ht, hrest⟩ := h.atRest_answerAtStart he hw .generationExpired
      exact ht.endContext hrest .failed
    · obtain ⟨ht, hrest⟩ := h.atRest_answerAtStart he hw .keyWithdrawn
      exact ht.endContext hrest .revoked
  · next hno =>
    cases hb : (s.ctx l e.ctx).body with
    | opening o m => exact absurd hb (hno o m)
    | _ => rw [hb] at hfit; cases hfit

theorem State.QueuesSound.startProve {l : LaneNo} {e : Entry} (he : e ∈ s.lanes[l].queue) (hw : e.phase = .waiting)
    (hfree : s.kfu.job = none) {r : Mac} (hreq : e.req = .proveReq r) : (s.startProve l e r).QueuesSound := by
  have hfit := h.entry_fits he hw
  rw [hreq] at hfit
  unfold State.startProve
  split
  · next hb => exact h.run he hw hfree rfl (by rw [hb]; rfl)
  · next hno =>
    cases hb : (s.ctx l e.ctx).body with
    | proving o m p => exact absurd hb (hno o m p)
    | _ => rw [hb] at hfit; cases hfit

theorem State.QueuesSound.startSeal {l : LaneNo} {e : Entry} (he : e ∈ s.lanes[l].queue) (hw : e.phase = .waiting)
    (hfree : s.kfu.job = none) {cls : BitVec 4} {ref : BitVec 16} (hreq : e.req = .sealReq cls ref) :
    (s.startSeal l e cls ref).QueuesSound := by
  have hfit := h.entry_fits he hw
  have hserv := h.not_starting he (Entry.live_of_waiting hw)
  rw [hreq] at hfit
  unfold State.startSeal
  split
  · next o p v hb =>
    split
    · obtain ⟨ht, hrest⟩ := h.atRest_answerAtStart he hw .noSigningKey
      refine ht.replace (State.sameHand_onLane _ l _) (State.sameQueues_onCtx _ l e.ctx _) (fun _ _ => rfl) hrest rfl ?_
      rw [show (s.answerAtStart l e .noSigningKey).service = s.service by simp [State.answerAtStart]]
      exact fun hs => absurd hs hserv
    · next g _ =>
      have hrun (j : Job) (ho : j.origin = some (l, e.ctx)) (hj : j.fits (s.ctx l e.ctx).body = true) :
          (((s.reference g.slot).setRunning l e).setJob j).QueuesSound := (h.reference g.slot).run he hw hfree ho hj
      have hjob := hrun (.sealJob l e.ctx g.slot g.key g.generation g.holdover cls ref) rfl (by rw [hb]; rfl)
      dsimp only
      split
      · exact hjob.latch _
      · exact hjob
  · next hno =>
    cases hb : (s.ctx l e.ctx).body with
    | sealing o p v => exact absurd hb (hno o p v)
    | _ => rw [hb] at hfit; cases hfit

theorem State.QueuesSound.startEntry {l : LaneNo} {e : Entry} (he : e ∈ s.lanes[l].queue) (hw : e.phase = .waiting)
    (hfree : s.kfu.job = none) : (s.startEntry l e).QueuesSound := by
  unfold State.startEntry
  split
  · next hreq => exact h.startOpen he hw hfree hreq
  · next hreq => exact h.startProve he hw hfree hreq
  · next hreq => exact h.startSeal he hw hfree hreq

/-- The LOAD that waited goes in flight: the request in hand stays the one. -/
theorem State.QueuesSound.startLoad {req : LoadReq} {queued : Nat} (hload : s.station.load = some (req, queued))
    (hfree : s.kfu.job = none) (key : Block) :
    (State.setJob { s with station := { s.station with load := none } } (.loadJob req key)).QueuesSound := by
  obtain ⟨hlanes, hstation, ⟨hmark, -⟩, ⟨hloaded, hstart⟩, hsound⟩ := h
  refine ⟨hlanes, hstation, ⟨fun l c => (hmark l c).trans ?_, fun j l c hj ho => ?_⟩, ⟨hloaded, fun hs => ?_⟩, ?_⟩
  · rw [hfree]
    exact iff_of_false (fun hx => nomatch hx) fun hx => nomatch hx
  · cases hj
    cases ho
  · rw [(hstart hs).2.2.1] at hload
    cases hload
  · rw [State.LoadSound, State.loadRequests_free hfree, hload] at hsound
    exact hsound

theorem State.QueuesSound.startChoice {ch : Choice} (hch : ch.Present s) (hfree : s.kfu.job = none) :
    (s.startChoice ch).QueuesSound := by
  cases ch with
  | step l e =>
    have hp : State.QueuesSound { s with
        kfu := { s.kfu with stepPointer := movedPointer s.config.items.mode s.kfu.stepPointer l } } :=
      h.same ⟨rfl, rfl, rfl, rfl, rfl, rfl, rfl⟩ rfl
    exact hp.startEntry hch.1 hch.2 hfree
  | admitting l e =>
    have hp : State.QueuesSound { s with
        kfu := { s.kfu with admitPointer := movedPointer s.config.items.mode s.kfu.admitPointer l } } :=
      h.same ⟨rfl, rfl, rfl, rfl, rfl, rfl, rfl⟩ rfl
    exact hp.startEntry hch.1 hch.2 hfree
  | load req =>
    obtain ⟨queued, hload⟩ := hch
    exact h.startLoad hload hfree _

theorem State.QueuesSound.arbitrate : s.arbitrate.QueuesSound := by
  unfold State.arbitrate
  generalize s.waitingCount + 1 = n
  induction n generalizing s with
  | zero => exact h
  | succ n ih =>
    unfold State.arbitrateFor
    split
    · exact h
    · next hjob =>
      split
      · exact h
      · next ch hch => exact ih (h.startChoice (State.choose_present hch) (Option.not_isSome_iff_eq_none.mp hjob))

end

/-! ### A job completes (R15, R17, R21, R120) -/

theorem State.sameQueues_answerRunning {s t : State} (h : s.SameQueues t) (l : LaneNo) (c : CtxNo) (r : Reply) :
    (s.answerRunning l c r).SameQueues (t.answerRunning l c r) := by
  intro k
  rw [State.answerRunning_eq, State.answerRunning_eq]
  obtain ⟨hq, hn, ha⟩ := h k
  by_cases hk : k = l
  · subst hk
    rw [State.onLane_same, State.onLane_same, Lane.queue_answerRunning, Lane.queue_answerRunning,
      Lane.answers_answerRunning, Lane.answers_answerRunning, hq, ha]
    exact ⟨rfl, hn, rfl⟩
  · rw [State.onLane_other _ _ _ _ hk, State.onLane_other _ _ _ _ hk]
    exact ⟨hq, hn, ha⟩

theorem State.sameHand_onCtx (s : State) (l : LaneNo) (c : CtxNo) (g : Context → Context) :
    s.SameHand (s.onCtx l c g) := s.sameHand_onLane l _

theorem State.sameHand_answerRunning (s : State) (l : LaneNo) (c : CtxNo) (r : Reply) :
    s.SameHand (s.answerRunning l c r) := by
  rw [State.answerRunning_eq]
  exact s.sameHand_onLane l _

theorem State.sameHand_freeContext (s : State) (l : LaneNo) (c : CtxNo) (cause : EndCause) :
    s.SameHand (s.freeContext l c cause) := by
  rw [State.freeContext_eq]
  exact s.sameHand_onLane l _

theorem State.sameHand_applyPending (s : State) (l : LaneNo) (c : CtxNo) : s.SameHand (s.applyPending l c) := by
  unfold State.applyPending
  split
  · exact .refl s
  · split
    · exact .refl s
    · exact s.sameHand_endContext l c _

theorem State.sameHand_classify (s : State) (l : LaneNo) (c : CtxNo) (id : TagId) (k : Counter) (strict : Bool) :
    s.SameHand (s.classify l c id k strict).1 := by
  rw [State.classify_frame]
  exact ⟨rfl, rfl, rfl, rfl, rfl, rfl, rfl⟩

theorem State.sameHand_sealClaim (s : State) (l : LaneNo) (c : CtxNo) (k : Counter) (t : Seconds) :
    s.SameHand (s.sealClaim l c k t) := by
  rw [State.sealClaim_frame]
  exact ⟨rfl, rfl, rfl, rfl, rfl, rfl, rfl⟩

theorem State.sameHand_advanceSequence (s : State) : s.SameHand s.advanceSequence := by
  unfold State.advanceSequence
  split
  · exact ⟨rfl, rfl, rfl, rfl, rfl, rfl, rfl⟩
  · split
    · exact ⟨rfl, rfl, rfl, rfl, rfl, rfl, rfl⟩
    · refine State.SameHand.trans (t := { s with kfu := { s.kfu with
          boot := some (s.kfu.bootCount + 1), sequence := 0, admitHold := true } }) ?_ (State.sameHand_requestStore _ _)
      exact ⟨rfl, rfl, rfl, rfl, rfl, rfl, rfl⟩

section
variable {s : State} (h : s.QueuesSound) {j : Job} {l : LaneNo} {c : CtxNo} (hj : s.kfu.job = some j)
  (ho : j.origin = some (l, c))
include h hj ho

omit h hj ho in
/-- A context replaced leaves the others. -/
theorem State.ctx_onCtx_ne (s : State) {l k : LaneNo} {c d : CtxNo} (g : Context → Context) (hkd : ¬ (k = l ∧ d = c)) :
    (s.onCtx l c g).ctx k d = s.ctx k d := by
  by_cases hk : k = l
  · subst hk
    exact State.ctx_onCtx_other _ _ _ _ _ fun hd => hkd ⟨rfl, hd⟩
  · exact State.ctx_onCtx_lane _ _ _ _ _ _ hk

section
variable {t : State} {r : Reply} {g : Context → Context} (hq : (s.answerRunning l c r).SameQueues t)
  (hc : ∀ k d, t.ctx k d = (s.onCtx l c g).ctx k d) (hm : (g (s.ctx l c)).inFlight = false)
include hq hc hm

/-- The RUNNING entry answered or discarded and the mark cleared: the lanes stay sound and no entry of the context is left. -/
theorem State.QueuesSound.lanes_complete :
    (∀ k : LaneNo, t.lanes[k].QueueSound ∧ t.lanes[k].EntriesSound) ∧ t.lanes[l].liveOf c = [] := by
  obtain ⟨hlanes, -, ⟨hmark, -⟩, -, -⟩ := h
  have hother (k : LaneNo) (d : CtxNo) (hkd : ¬ (k = l ∧ d = c)) : t.ctx k d = s.ctx k d :=
    (hc k d).trans (s.ctx_onCtx_ne g hkd)
  have hsame : t.lanes[l].EntriesSound ∧ t.lanes[l].liveOf c = [] := by
    refine (hlanes l).2.completed ((hmark l c).mpr (by rw [hj]; exact ho)) s.laneRate r ?_ ?_ fun d hd => ?_
    · rw [(hq l).1, State.answerRunning_eq, State.onLane_same]
    · rw [show t.lanes[l].contexts[c] = g (s.ctx l c) from (hc l c).trans (State.ctx_onCtx_same ..), hm]
    · exact hother l d fun hx => hd hx.2
  refine ⟨fun k => ?_, hsame.2⟩
  obtain ⟨hqueue, hnext, hanswers⟩ := hq k
  rw [State.answerRunning_eq] at hqueue hnext hanswers
  by_cases hk : k = l
  · subst hk
    rw [State.onLane_same] at hqueue hnext hanswers
    exact ⟨((hlanes k).1.answerRunning s.laneRate c r).same hqueue hnext hanswers, hsame.1⟩
  · rw [State.onLane_other _ _ _ _ hk] at hqueue hnext hanswers
    refine ⟨(hlanes k).1.same hqueue hnext hanswers, (hlanes k).2.same hqueue fun d => .inl ?_⟩
    rw [show t.lanes[k].contexts[d] = s.lanes[k].contexts[d] from hother k d fun hx => hk hx.1]
    exact ⟨rfl, rfl⟩

/-- With the unit free besides, the context is at rest, in any state. -/
theorem State.QueuesSound.complete (hand : s.freeUnit.SameHand t) : t.QueuesSound ∧ t.AtRest l c := by
  have hserv := h.not_starting_of_job hj
  obtain ⟨hentries, hnil⟩ := h.lanes_complete hj ho hq hc hm
  obtain ⟨-, ⟨hlen, hheld, htail, hans⟩, ⟨hmark, -⟩, ⟨hloaded, -⟩, hload⟩ := h
  obtain ⟨service, loaded, queue, answers, load, job, loading⟩ := hand
  have hrest : (t.ctx l c).inFlight = false := by rw [hc, State.ctx_onCtx_same, hm]
  refine ⟨⟨hentries, ⟨?_, ?_, ?_, ?_⟩, ⟨fun k d => ?_, fun j' _ _ hj' => ?_⟩, ⟨?_, fun hs => ?_⟩, ?_⟩, hnil, hrest⟩
  · rwa [queue]
  · rwa [Station.placesHeld, queue, answers]
  · rwa [queue]
  · rwa [queue]
  · refine iff_of_false ?_ (by rw [job]; exact fun hx => nomatch hx)
    by_cases hkd : k = l ∧ d = c
    · obtain ⟨rfl, rfl⟩ := hkd
      rw [hrest]
      exact Bool.false_ne_true
    · rw [hc, s.ctx_onCtx_ne g hkd, hmark k d, hj]
      intro hx
      rw [Option.bind_some, ho] at hx
      cases hx
      exact hkd ⟨rfl, rfl⟩
  · rw [job] at hj'
    cases hj'
  · rw [loaded, service]
    exact hloaded
  · rw [service] at hs
    exact absurd hs hserv
  · rw [State.LoadSound, State.loadRequests_lane hj (by rw [ho]; exact nofun)] at hload
    rw [State.LoadSound, loaded, State.loadRequests_free job, load, loading,
      show t.station.isExecuting .loadKey = s.station.isExecuting .loadKey by rw [Station.isExecuting, queue]; rfl]
    exact hload

end

/-- What a completion does before the answer leaves the queues alone. -/
theorem State.QueuesSound.complete_answered {u : State} {g : Context → Context} (hand : s.freeUnit.SameHand u)
    (hq : s.SameQueues u) (hc : ∀ k d, u.ctx k d = (s.onCtx l c g).ctx k d) (hm : (g (s.ctx l c)).inFlight = false)
    (r : Reply) : (u.answerRunning l c r).QueuesSound ∧ (u.answerRunning l c r).AtRest l c :=
  h.complete hj ho (State.sameQueues_answerRunning hq l c r) (fun k d => by rw [State.ctx_answerRunning, hc]) hm
    (hand.trans (u.sameHand_answerRunning l c r))

theorem State.QueuesSound.job_fits : j.fits (s.ctx l c).body = true := by
  obtain ⟨-, -, ⟨-, hfits⟩, -, -⟩ := h
  exact hfits j l c hj ho

end

/-- Contexts read after the lanes have been kept and one context replaced. -/
theorem State.ctx_onCtx_of_lanes {s u : State} (hl : u.lanes = s.lanes) (l : LaneNo) (c : CtxNo) (g : Context → Context)
    (k : LaneNo) (d : CtxNo) : (u.onCtx l c g).ctx k d = (s.onCtx l c g).ctx k d :=
  State.ctx_of_lanes (by rw [State.onCtx_lanes, State.onCtx_lanes, hl]) k d

section
variable {s u : State} (h : s.QueuesSound) (hand : s.freeUnit.SameHand u) (hl : u.lanes = s.lanes)
include h hand hl

theorem State.QueuesSound.applyOpen {l : LaneNo} {c : CtxNo} {mk : Block} {id : TagId} {g : Gen} {i : Byte}
    (hj : s.kfu.job = some (.openJob l c mk id g i)) (key : Block) (ch : Mac) :
    (u.applyOpen l c key ch).QueuesSound ∧ s.freeUnit.SameHand (u.applyOpen l c key ch) := by
  have hfit := h.job_fits hj rfl
  rw [← State.ctx_of_lanes hl] at hfit
  unfold State.applyOpen
  split
  · next o m _ =>
    dsimp only
    generalize (if (u.ctx l c).pendingEnd = some .revoked then (.code .keyWithdrawn : Reply)
      else .opened c (u.ctx l c).ticket ch) = r
    have hand' := hand.trans (u.sameHand_onCtx l c fun x =>
      { x with inFlight := false, body := .opened o m { tagKey := key, challenge := ch } })
    have hq := (State.SameQueues.of_lanes hl).trans (u.sameQueues_onCtx l c fun x =>
      { x with inFlight := false, body := .opened o m { tagKey := key, challenge := ch } })
    rw [State.clearMark, State.onCtx_onCtx]
    obtain ⟨ht, hrest⟩ := h.complete_answered hj rfl hand' hq (fun k d => State.ctx_onCtx_of_lanes hl l c _ k d) rfl r
    exact ⟨ht.applyPending hrest,
      (hand'.trans (State.sameHand_answerRunning _ l c r)).trans (State.sameHand_applyPending _ l c)⟩
  · next hno =>
    cases hb : (u.ctx l c).body with
    | opening o m => exact absurd hb (hno o m)
    | _ => rw [hb] at hfit; cases hfit

theorem State.QueuesSound.applyProve {l : LaneNo} {c : CtxNo} {key : Block} {ch resp : Mac} {nonce : BitVec 32} {k : Counter}
    {id : TagId} (hj : s.kfu.job = some (.proveJob l c key ch nonce k id resp)) (same : Bool) :
    (u.applyProve l c same).QueuesSound := by
  have hserv := h.not_starting_of_job hj
  have hfit := h.job_fits hj rfl
  rw [← State.ctx_of_lanes hl] at hfit
  unfold State.applyProve
  split
  · next o m p _ =>
    have hand' := (hand.trans (u.sameHand_onCtx l c fun x => { x with inFlight := false })).trans
      (State.sameHand_release _ m)
    have hq : s.SameQueues ((u.clearMark l c).release m) := ((State.SameQueues.of_lanes hl).trans
      (u.sameQueues_onCtx l c fun x => { x with inFlight := false })).trans (.of_lanes (State.release_lanes _ m))
    have hc (k : LaneNo) (d : CtxNo) : ((u.clearMark l c).release m).ctx k d =
        (s.onCtx l c fun x => { x with inFlight := false }).ctx k d :=
      (State.ctx_release ..).trans (State.ctx_onCtx_of_lanes hl l c _ k d)
    rw [show (u.onCtx l c fun x => { x with inFlight := false }) = u.clearMark l c from rfl] at hand'
    dsimp only
    generalize (u.clearMark l c).release m = v at hand' hq hc
    split
    · unfold State.applyMatch
      dsimp only
      obtain ⟨ht, hrest⟩ := h.complete_answered hj rfl
        (hand'.trans (v.sameHand_classify l c o.tagId o.counter o.strict))
        (hq.trans (.of_lanes (by rw [State.classify_frame]))) (fun k d => (State.ctx_classify ..).trans (hc k d)) rfl
        ((v.classify l c o.tagId o.counter o.strict).2.reply o.watch)
      have hhand := (hand'.trans (v.sameHand_classify l c o.tagId o.counter o.strict)).trans
        (State.sameHand_answerRunning _ l c ((v.classify l c o.tagId o.counter o.strict).2.reply o.watch))
      generalize ((v.classify l c o.tagId o.counter o.strict).1.answerRunning l c
        ((v.classify l c o.tagId o.counter o.strict).2.reply o.watch)) = w at ht hrest hhand ⊢
      split
      · next cl _ =>
        have hp : (w.onCtx l c fun x => { x with body := .proved o p cl }).QueuesSound :=
          ht.replace (w.sameHand_onCtx l c _) (w.sameQueues_onCtx l c _) (fun _ _ => rfl) hrest rfl
            fun hs => absurd (hhand.service.symm.trans hs) hserv
        refine hp.applyPending (hp.atRest_of_body fun r => ?_)
        rw [State.ctx_onCtx_same]
        cases r <;> rfl
      · exact ht.freeContext hrest .verdict
    · obtain ⟨ht, hrest⟩ := h.complete_answered hj rfl hand' hq hc rfl (.code .authFailed)
      exact ht.freeContext hrest .failed
  · next hno =>
    cases hb : (u.ctx l c).body with
    | proving o m p => exact absurd hb (hno o m p)
    | _ => rw [hb] at hfit; cases hfit

theorem State.QueuesSound.applySeal {l : LaneNo} {c : CtxNo} {n : SlotNo} {key : Block} {g : Gen} {holdover : Bool}
    {cls : BitVec 4} {ref : BitVec 16} (hj : s.kfu.job = some (.sealJob l c n key g holdover cls ref)) :
    (u.applySeal l c n key g holdover cls ref).QueuesSound := by
  have hfit := h.job_fits hj rfl
  rw [← State.ctx_of_lanes hl] at hfit
  unfold State.applySeal
  split
  · next o p v _ =>
    dsimp only
    generalize u.assemble l o v g holdover cls ref = r
    have hlanes : ((u.sealClaim l c r.counter r.seconds).release n).lanes = s.lanes := by simp [hl]
    have hand' := (hand.trans (u.sameHand_sealClaim l c r.counter r.seconds)).trans (State.sameHand_release _ n)
    generalize (u.sealClaim l c r.counter r.seconds).release n = w at hlanes hand' ⊢
    refine (h.complete_answered (g := fun x =>
      { x with inFlight := false, body := .free, pendingEnd := none, endCause := .sealed }) hj rfl
      ((hand'.trans (w.sameHand_onCtx l c _)).trans (State.sameHand_freeContext _ l c .sealed))
      (((State.SameQueues.of_lanes hlanes).trans (w.sameQueues_onCtx l c _)).trans
        (State.sameQueues_freeContext _ l c .sealed)) (fun k d => ?_) rfl _).1
    rw [State.ctx_freeContext, State.onCtx_onCtx]
    exact State.ctx_onCtx_of_lanes hlanes l c _ k d
  · next hno =>
    cases hb : (u.ctx l c).body with
    | sealing o p v => exact absurd hb (hno o p v)
    | _ => rw [hb] at hfit; cases hfit

end

/-! ### The lane requests (R11 to R14, R16, R19, R22, R27) -/

section
variable {s : State} (h : s.QueuesSound) {l : LaneNo}
include h

/-- A context at rest is taken by a request that fits its new state: a WAITING entry is appended. -/
theorem State.QueuesSound.take {c : CtxNo} {g : Context → Context} {req : LaneReq} (tag : Byte) (hrest : s.AtRest l c)
    (hplace : s.lanes[l].placesHeld < answerPlaces) (hroom : s.laneBusy l = false) (hserv : s.service ≠ .starting)
    (hm : (g (s.ctx l c)).inFlight = false) (hfit : req.fits (g (s.ctx l c)).body = true) :
    ((s.onCtx l c g).appendEntry l req tag c).QueuesSound := by
  have hlane : (s.onCtx l c g).appendEntry l req tag c = s.onLane l fun ln =>
      { ln.onCtx c g with
        queue := ln.queue ++
          [{ serial := ln.nextSerial, req := req, tag := tag, ctx := c, phase := .waiting, discard := false }]
        nextSerial := ln.nextSerial + 1 } := by
    rw [State.appendEntry, State.onCtx, State.onLane_onLane]
    exact State.onLane_congr rfl
  have hctx (k : LaneNo) (d : CtxNo) : ((s.onCtx l c g).appendEntry l req tag c).ctx k d = (s.onCtx l c g).ctx k d :=
    State.ctx_appendEntry ..
  have hother (k : LaneNo) (d : CtxNo) (hkd : ¬ (k = l ∧ d = c)) : (s.onCtx l c g).ctx k d = s.ctx k d :=
    s.ctx_onCtx_ne g hkd
  refine h.of_lanes (hlane ▸ s.sameHand_onLane l _) (fun k => ?_) (fun k d => ?_) fun k d => ?_
  · rw [hlane]
    by_cases hk : k = l
    · subst hk
      rw [State.onLane_same]
      refine ⟨(h.1 k).1.append (Nat.not_le.mp (of_decide_eq_false hroom)) hplace rfl rfl rfl rfl,
        (h.1 k).2.append rfl hrest.1 rfl ?_ ?_ fun d hd => Lane.contexts_onCtx_other _ _ hd⟩
      · rw [show (s.lanes[k].onCtx c g).contexts[c] = g (s.ctx k c) from Lane.contexts_onCtx_same ..]
        exact hfit
      · exact (congrArg Context.inFlight (Lane.contexts_onCtx_same ..)).trans hm
    · rw [State.onLane_other _ _ _ _ hk]
      exact h.1 k
  · rw [hctx]
    by_cases hkd : k = l ∧ d = c
    · obtain ⟨rfl, rfl⟩ := hkd
      rw [State.ctx_onCtx_same, hm, hrest.2]
    · rw [hother k d hkd]
  · rw [hctx]
    by_cases hkd : k = l ∧ d = c
    · obtain ⟨rfl, rfl⟩ := hkd
      exact .inr ⟨hrest.2, fun hs => absurd hs hserv⟩
    · exact .inl (by rw [hother k d hkd])

variable (hplace : s.lanes[l].placesHeld < answerPlaces) (tag : Byte) (body : List Byte)
include hplace

omit body in
theorem State.QueuesSound.takeOpen {c : CtxNo} (a : OpenArgs) (hb : (s.ctx l c).body = .free) (issuer : Byte)
    (watch strict : Bool) (n : SlotNo) (hroom : s.laneBusy l = false) (hserv : s.service ≠ .starting) :
    (s.takeOpen l tag c a issuer watch strict n).QueuesSound := by
  have hrest : s.AtRest l c := h.atRest_of_body fun r => by rw [hb]; cases r <;> rfl
  exact State.QueuesSound.arbitrate
    ((h.reference n).take (s := s.reference n) tag hrest hplace hroom hserv hrest.2 rfl)

theorem State.QueuesSound.openRequest : (s.openRequest l tag body).QueuesSound := by
  unfold State.openRequest
  dsimp only
  split
  · exact h.laneReply hplace _ tag _
  next hcheck =>
  split
  · exact h.laneReply hplace _ tag _
  split
  · exact h.laneReply hplace _ tag _
  next hroom =>
  split
  · exact h.laneReply hplace _ tag _
  next c hc =>
  split
  · exact h.laneReply hplace _ tag _
  refine h.takeOpen hplace tag _ (State.body_of_freeContextOf hc) _ _ _ _ (Bool.eq_false_iff.mpr hroom) fun hs => ?_
  rw [State.openServiceCheck, if_pos hs] at hcheck
  cases hcheck

omit h hplace tag body in
theorem State.not_starting_of_laneServiceCheck {s : State} {l : LaneNo} (h : s.laneServiceCheck l = none) :
    s.service ≠ .starting := by
  intro hs
  rw [State.laneServiceCheck, if_pos hs] at h
  cases h

theorem State.QueuesSound.proveRequest : (s.proveRequest l tag body).QueuesSound := by
  unfold State.proveRequest
  dsimp only
  split
  · exact h.laneReply hplace _ tag _
  next hcheck =>
  have hserv := State.not_starting_of_laneServiceCheck hcheck
  split
  · exact h.laneReply hplace _ tag _
  split
  · exact h.laneReply hplace _ tag _
  split
  · exact h.laneReply hplace _ tag _
  next hroom =>
  split
  · next hb =>
    have hrest : s.AtRest l _ := h.atRest_of_body fun r => by rw [hb]; cases r <;> rfl
    exact (h.take tag hrest hplace (Bool.eq_false_iff.mpr hroom) hserv hrest.2 rfl).arbitrate
  · exact h

theorem State.QueuesSound.sealRequest : (s.sealRequest l tag body).QueuesSound := by
  unfold State.sealRequest
  dsimp only
  split
  · exact h.laneReply hplace _ tag _
  next hcheck =>
  have hserv := State.not_starting_of_laneServiceCheck hcheck
  split
  · exact h.laneReply hplace _ tag _
  split
  · exact h.laneReply hplace _ tag _
  split
  · exact h.laneReply hplace _ tag _
  next hroom =>
  split
  · next hb =>
    have hrest : s.AtRest l _ := h.atRest_of_body fun r => by rw [hb]; cases r <;> rfl
    exact (h.take tag hrest hplace (Bool.eq_false_iff.mpr hroom) hserv hrest.2 rfl).arbitrate
  · exact h

omit h tag body in
/-- Answering waiting entries and reaching a context hold the places of before (R9). -/
theorem State.placesHeld_removeAndEnd (c : CtxNo) (p : PendingEnd) (code : Code) :
    (s.removeAndEnd l c p code).lanes[l].placesHeld < answerPlaces := by
  obtain ⟨hq, -, ha⟩ := (s.answerWaiting l (fun e => e.ctx == c) (.code code)).sameQueues_reachEnd l c p l
  rw [Lane.placesHeld, State.removeAndEnd, hq, ha, ← Lane.placesHeld, State.answerWaiting_eq, State.onLane_same,
    Lane.placesHeld_answerWaiting]
  exact hplace

theorem State.QueuesSound.dropRequest : (s.dropRequest l tag body).QueuesSound := by
  unfold State.dropRequest
  dsimp only
  split
  · exact h.laneReply hplace _ tag _
  split
  · exact h.laneReply hplace _ tag _
  split
  · exact h.laneReply hplace _ tag _
  · exact (h.removeAndEnd l _ _ _).laneReply (State.placesHeld_removeAndEnd hplace _ _ _) _ tag _

theorem State.QueuesSound.pollRequest : (s.pollRequest l tag body).QueuesSound := by
  unfold State.pollRequest
  dsimp only
  split
  · exact h.laneReply hplace _ tag _
  split
  · exact h.laneReply hplace _ tag _
  · have hpoll : (s.onLane l fun ln => { ln with notices := ln.notices.take.2 }).QueuesSound :=
      h.onLane_same rfl rfl rfl rfl
    refine hpoll.laneReply ?_ _ tag _
    rw [State.onLane_same]
    exact hplace

theorem State.QueuesSound.handLane (f : Frame) : (s.handLane l f).QueuesSound := by
  unfold State.handLane
  split
  · exact h.laneReply hplace _ _ _
  split
  · exact h.laneReply hplace _ _ _
  · exact h.openRequest hplace _ _
  · exact h.proveRequest hplace _ _
  · exact h.sealRequest hplace _ _
  · exact h.dropRequest hplace _ _
  · exact h.pollRequest hplace _ _

omit hplace tag body in
/-- A valid frame on a lane port keeps the invariant where its treatment does, a place being free. -/
theorem State.QueuesSound.laneFrame {deal : State → State}
    (hd : ∀ t : State, t.QueuesSound → t.lanes[l].placesHeld < answerPlaces → (deal t).QueuesSound) :
    (s.laneFrame l deal).QueuesSound := by
  have harr : (s.laneFrameArrives l).QueuesSound := h.onLane_same rfl rfl rfl rfl
  obtain heq | ⟨hlt, heq⟩ := s.laneFrame_cases l deal <;> rw [heq]
  · exact harr.latch _
  · exact hd _ harr (by rw [State.placesHeld_laneFrameArrives]; exact hlt)

end

end Sys2Proof.Machine
end

section
/-! Proofs for the lane transactions: queues and places (R154 to R156, R187) through the station requests. The request at the head
executes with no LOAD_KEY in hand; answered in its step it leaves what is in hand as it was, else it stays EXECUTING. -/

namespace Sys2Proof.Machine

/-! ### What the operations of the lanes leave in hand -/

theorem State.sameHand_answerWaiting (s : State) (l : LaneNo) (pick : Entry → Bool) (r : Reply) :
    s.SameHand (s.answerWaiting l pick r) := by
  rw [State.answerWaiting_eq]
  exact s.sameHand_onLane l _

theorem State.sameHand_reachEnd (s : State) (l : LaneNo) (c : CtxNo) (p : PendingEnd) : s.SameHand (s.reachEnd l c p) := by
  unfold State.reachEnd
  split
  · exact .refl s
  · split
    · exact s.sameHand_onCtx l c _
    · exact s.sameHand_endContext l c _

/-- A fold leaves in hand what each of its steps leaves. -/
theorem State.sameHand_foldl {α : Type} {f : State → α → State} (step : ∀ (s : State) (a : α), s.SameHand (f s a)) (as : List α) (s : State) :
    s.SameHand (as.foldl f s) :=
  foldl_keeps (P := s.SameHand) (fun t a ht => ht.trans (step t a)) as s (.refl s)

theorem State.sameHand_resetContexts (s : State) (l : LaneNo) : s.SameHand (s.resetContexts l) :=
  State.sameHand_foldl (fun t c => t.sameHand_reachEnd l c _) _ s

theorem State.sameHand_addServiceChanged (s : State) (l : LaneNo) : s.SameHand (s.addServiceChanged l) :=
  s.sameHand_onLane l _

theorem State.sameHand_disableLane (s : State) (l : LaneNo) : s.SameHand (s.disableLane l) :=
  ((s.sameHand_answerWaiting l _ _).trans (State.sameHand_resetContexts _ l)).trans (State.sameHand_addServiceChanged _ l)

theorem State.sameHand_linkDown (s : State) (l : LaneNo) : s.SameHand (s.linkDown l) := by
  refine ((s.sameHand_onLane l Lane.cleared).trans (State.sameHand_resetContexts _ l)).trans ?_
  unfold State.linkDown
  generalize (s.onLane l Lane.cleared).resetContexts l = t
  exact ⟨rfl, rfl, rfl, rfl, rfl, rfl, rfl⟩

theorem State.sameHand_withdrawContext (s : State) (n : SlotNo) (l : LaneNo) (c : CtxNo) :
    s.SameHand (s.withdrawContext n l c) := by
  unfold State.withdrawContext
  split
  · split
    · exact s.sameHand_endContext l c _
    · exact .refl s
  · split
    · exact s.sameHand_onCtx l c _
    · exact .refl s
  · split
    · exact s.sameHand_endContext l c _
    · exact .refl s
  · exact .refl s

theorem State.sameHand_withdrawMaster (s : State) (n : SlotNo) : s.SameHand (s.withdrawMaster n) :=
  State.sameHand_foldl (fun t l => (t.sameHand_answerWaiting l _ _).trans
    (State.sameHand_foldl (fun u c => u.sameHand_withdrawContext n l c) _ _)) _ s

theorem State.sameHand_signingChangedAll (s : State) : s.SameHand s.signingChangedAll :=
  State.sameHand_foldl (fun t l => by
    split
    · exact t.sameHand_onLane l _
    · exact .refl t) _ s

theorem State.sameHand_reformSigning (s : State) : s.SameHand s.reformSigning := by
  unfold State.reformSigning
  split
  · exact .refl s
  · exact State.SameHand.trans (t := { s with signing := s.formSigning }) ⟨rfl, rfl, rfl, rfl, rfl, rfl, rfl⟩
      (State.sameHand_signingChangedAll _)

/-! ### The station alone changes -/

/-- No LOAD_KEY is in hand. -/
def State.NoLoad (s : State) : Prop := s.loadRequests = [] ∧ s.loadingSlots = []

theorem State.NoLoad.of_sameHand {s t : State} (h : s.NoLoad) (hand : s.SameHand t) : t.NoLoad :=
  ⟨(State.loadRequests_congr hand.load hand.job).trans h.1, hand.loading.trans h.2⟩

section
variable {s : State} (h : s.QueuesSound)
include h

theorem State.QueuesSound.setStation {st : Station} (hst : st.QueueSound) (hload : st.load = s.station.load)
    (hstart : s.service = .starting → st.queue = [])
    (hex : s.NoLoad ∨ st.isExecuting .loadKey = s.station.isExecuting .loadKey) :
    State.QueuesSound { s with station := st } := by
  obtain ⟨hlanes, -, hjob, ⟨hloaded, hstarting⟩, hsound⟩ := h
  have hrequests : State.loadRequests { s with station := st } = s.loadRequests := State.loadRequests_congr hload rfl
  refine ⟨hlanes, hst, hjob, ⟨hloaded, fun hs => ?_⟩, fun hl => ?_⟩
  · obtain ⟨hnone, -, hl, hfree⟩ := hstarting hs
    exact ⟨hnone, hstart hs, hload.trans hl, hfree⟩
  · rw [hrequests]
    obtain ⟨hreq, hslots⟩ | heq := hex
    · rw [hreq, show State.loadingSlots { s with station := st } = [] from hslots]
      exact ⟨Nat.zero_le 1, fun hx => hx.elim (absurd rfl) (absurd rfl)⟩
    · rw [show (State.station { s with station := st }).isExecuting .loadKey = _ from heq]
      exact hsound hl

/-- The station keeps its queue and its LOAD; its answers may change within the places. -/
theorem State.QueuesSound.setPort {st : Station} (hq : st.queue = s.station.queue) (hload : st.load = s.station.load)
    (hplaces : st.placesHeld ≤ answerPlaces) : State.QueuesSound { s with station := st } := by
  have hstart := h.2.2.2.1.2
  refine h.setStation ?_ hload (fun hs => hq.trans (hstart hs).2.1) (.inr (by rw [Station.isExecuting, hq]; rfl))
  obtain ⟨-, ⟨hlen, -, htail, hans⟩, -⟩ := h
  exact ⟨hq ▸ hlen, hplaces, hq ▸ htail, hq ▸ hans⟩

/-- An immediate answer on the station port with a place free for it (R155). -/
theorem State.QueuesSound.stationReply (hfree : s.station.placesHeld < answerPlaces) (kind tag : Byte) (r : Reply) :
    (s.stationReply kind tag r).QueuesSound := by
  refine h.setPort (st := { s.station with port := s.station.port.enqueue _ _ }) rfl rfl ?_
  rw [Station.placesHeld] at hfree ⊢
  dsimp only
  rw [PortState.enqueue_answers, List.length_append, List.length_singleton]
  omega

theorem State.QueuesSound.not_starting_of_queue (hq : s.station.queue ≠ []) : s.service ≠ .starting := by
  obtain ⟨-, -, -, ⟨-, hstart⟩, -⟩ := h
  exact fun hs => hq (hstart hs).2.1

/-- While no LOAD_KEY executes none is in hand. -/
theorem State.QueuesSound.noLoad (hloaded : s.loaded = true) (hex : s.station.isExecuting .loadKey = false) : s.NoLoad := by
  obtain ⟨-, -, -, -, hload⟩ := h
  obtain ⟨-, hx⟩ := hload hloaded
  rw [hex] at hx
  constructor
  · by_contra hne
    exact Bool.false_ne_true (hx (.inl hne))
  · by_contra hne
    exact Bool.false_ne_true (hx (.inr hne))

/-- The executing request leaves the queue, and its reserved place holds its answer (R154, R155). -/
theorem State.QueuesSound.answerExecuting {e : StationEntry} {rest : List StationEntry} (hq : s.station.queue = e :: rest)
    (hans : e.answered = false) (hno : s.NoLoad) (r : Reply) :
    (s.answerExecuting r).QueuesSound ∧ (s.answerExecuting r).station.queue = rest := by
  have hserv := h.not_starting_of_queue (by rw [hq]; exact List.cons_ne_nil e rest)
  have hst := h.2.1
  obtain ⟨hlen, hheld, htail, hdone⟩ := hst
  rw [hq] at hlen htail hdone
  rw [Station.placesHeld, hq, List.countP_cons, if_pos (by rw [hans]; rfl)] at hheld
  unfold State.answerExecuting
  split
  · next hnil => rw [hnil] at hq; cases hq
  next e' rest' heq =>
  rw [hq] at heq
  cases heq
  refine ⟨h.setStation (st := { s.station with queue := rest, port := s.station.port.enqueue _ _ })
    ⟨?_, ?_, fun x hx => ?_, fun x hx => ?_⟩ rfl (fun hs => absurd hs hserv) (.inl hno), rfl⟩
  · exact (Nat.le_succ _).trans hlen
  · rw [Station.placesHeld]
    dsimp only
    rw [PortState.enqueue_answers, List.length_append, List.length_singleton]
    omega
  · exact htail x (List.mem_of_mem_drop hx)
  · exact hdone x (List.mem_cons_of_mem e hx)

/-! ### The executions (R156) -/

/-- The withdrawal of a slot that is not LOADING (R84). -/
theorem State.QueuesSound.withdraw {n : SlotNo} (hn : s.slots[n].state ≠ .loading) (d : KeyData) :
    (s.withdraw n d).QueuesSound ∧ s.SameHand (s.withdraw n d) := by
  have hslot : (s.onSlot n fun sl => { sl with body := .held .withdrawn d }).loadingSlots = s.loadingSlots :=
    State.loadingSlots_onSlot (iff_of_false (fun hx => nomatch hx) hn)
  have hand : s.SameHand (s.onSlot n fun sl => { sl with body := .held .withdrawn d }) :=
    ⟨rfl, rfl, rfl, rfl, rfl, rfl, hslot⟩
  have hq := (h.same hand rfl).requestStore (.writeSlot n)
  have hand' := hand.trans (State.sameHand_requestStore _ (.writeSlot n))
  unfold State.withdraw
  dsimp only
  generalize (s.onSlot n fun sl => { sl with body := .held .withdrawn d }).requestStore (.writeSlot n) = t at hq hand' ⊢
  split
  · exact ⟨((hq.withdrawMaster n).eraseIfUnused n).reformSigning,
      ((hand'.trans (t.sameHand_withdrawMaster n)).trans (State.sameHand_eraseIfUnused _ n)).trans
        (State.sameHand_reformSigning _)⟩
  · exact ⟨(hq.eraseIfUnused n).reformSigning,
      (hand'.trans (State.sameHand_eraseIfUnused _ n)).trans (State.sameHand_reformSigning _)⟩

theorem State.QueuesSound.applyEnabled (l : LaneNo) (before after : Bool) :
    (s.applyEnabled l before after).QueuesSound ∧ s.SameHand (s.applyEnabled l before after) := by
  unfold State.applyEnabled
  split
  · exact ⟨h, .refl s⟩
  · split
    · exact ⟨h.addServiceChanged l, s.sameHand_addServiceChanged l⟩
    · exact ⟨h.disableLane l, s.sameHand_disableLane l⟩

theorem State.QueuesSound.applyTimeout (l : LaneNo) (timeout : BitVec 16) :
    (s.applyTimeout l timeout).QueuesSound ∧ s.SameHand (s.applyTimeout l timeout) := by
  unfold State.applyTimeout
  split
  · have htime : (s.onLane l fun ln => { ln with
        linkDeadline := if timeout = 0 then none else some (s.lastFrameTick l + ticksOf timeout) }).QueuesSound :=
      h.onLane_same rfl rfl rfl rfl
    have hand := s.sameHand_onLane l fun ln => { ln with
        linkDeadline := if timeout = 0 then none else some (s.lastFrameTick l + ticksOf timeout) }
    dsimp only
    generalize s.onLane l _ = t at htime hand ⊢
    split
    · exact ⟨htime.linkDown l, hand.trans (t.sameHand_linkDown l)⟩
    · exact ⟨htime, hand⟩
  · exact ⟨h, .refl s⟩

/-- What an execution keeps: the invariant, and what is in hand when it answers. -/
def State.Executes (s : State) (x : Executed) : Prop := x.1.QueuesSound ∧ (x.2 ≠ none → s.SameHand x.1)

theorem State.QueuesSound.executes_refused (r : Option Reply) : s.Executes (s, r) := ⟨h, fun _ => .refl s⟩

theorem State.QueuesSound.runSetLane (body : List Byte) : s.Executes (s.runSetLane body) := by
  unfold State.runSetLane
  split
  · exact h.executes_refused _
  · next a _ =>
    have hset : (s.setSettings a.lane a.set).QueuesSound := h.same ⟨rfl, rfl, rfl, rfl, rfl, rfl, rfl⟩ rfl
    obtain ⟨hen, hand⟩ := hset.applyEnabled a.lane (s.settings a.lane).enabled a.set.enabled
    obtain ⟨htime, hand'⟩ := hen.applyTimeout a.lane a.set.linkTimeout
    exact ⟨htime, fun _ => State.SameHand.trans (t := s.setSettings a.lane a.set)
      ⟨rfl, rfl, rfl, rfl, rfl, rfl, rfl⟩ (hand.trans hand')⟩

theorem State.QueuesSound.runSetConfig (body : List Byte) : s.Executes (s.runSetConfig body) := by
  unfold State.runSetConfig
  split
  · exact h.executes_refused _
  · next a _ =>
    have hcfg : State.QueuesSound { s with config := { s.config with items := a.items } } :=
      h.same ⟨rfl, rfl, rfl, rfl, rfl, rfl, rfl⟩ rfl
    have hand : s.SameHand { s with config := { s.config with items := a.items } } := ⟨rfl, rfl, rfl, rfl, rfl, rfl, rfl⟩
    dsimp only
    split
    · exact ⟨hcfg, fun _ => hand⟩
    · exact ⟨hcfg.reformSigning, fun _ => hand.trans (State.sameHand_reformSigning _)⟩

theorem State.QueuesSound.runSaveConfig (body : List Byte) : s.Executes (s.runSaveConfig body) := by
  unfold State.runSaveConfig
  split
  · exact h.executes_refused _
  · exact ⟨h.requestStore _, fun _ => s.sameHand_requestStore _⟩

theorem State.QueuesSound.runReseed (body : List Byte) : s.Executes (s.runReseed body) := by
  unfold State.runReseed
  split
  · exact h.executes_refused _
  · split
    · exact h.executes_refused _
    · exact ⟨h.requestStore _, fun _ => s.sameHand_requestStore _⟩

theorem State.QueuesSound.runWithdrawKey (body : List Byte) : s.Executes (s.runWithdrawKey body) := by
  unfold State.runWithdrawKey
  split
  · exact h.executes_refused _
  split
  · exact h.executes_refused _
  next n _ =>
  split
  case h_5 _ st d hload _ _ hb =>
    have hn : s.slots[n].state ≠ .loading := by
      rw [Slot.state, hb]
      cases st with
      | loading stored => exact absurd rfl (hload stored)
      | _ => exact fun hx => nomatch hx
    obtain ⟨hw, hand⟩ := h.withdraw hn d
    exact ⟨hw, fun _ => hand⟩
  all_goals exact h.executes_refused _

theorem State.QueuesSound.runListSlot (body : List Byte) : s.Executes (s.runListSlot body) := by
  unfold State.runListSlot
  split
  · exact h.executes_refused _
  · split <;> exact h.executes_refused _

/-- The routes and the clock are no part of what is in hand. -/
theorem State.QueuesSound.executes_aside {t : State} (r : Option Reply) (hand : s.SameHand t) (hl : t.lanes = s.lanes) :
    s.Executes (t, r) := ⟨h.same hand hl, fun _ => hand⟩

theorem State.QueuesSound.runSetRoute (body : List Byte) : s.Executes (s.runSetRoute body) := by
  unfold State.runSetRoute
  split
  · exact h.executes_refused _
  · split
    · exact h.executes_refused _
    · exact h.executes_aside _ ⟨rfl, rfl, rfl, rfl, rfl, rfl, rfl⟩ rfl

theorem State.QueuesSound.runClearRoute (body : List Byte) : s.Executes (s.runClearRoute body) := by
  unfold State.runClearRoute
  split
  · exact h.executes_refused _
  · split
    · exact h.executes_refused _
    · exact h.executes_aside _ ⟨rfl, rfl, rfl, rfl, rfl, rfl, rfl⟩ rfl

theorem State.QueuesSound.runQueryPassage (body : List Byte) : s.Executes (s.runQueryPassage body) := by
  unfold State.runQueryPassage
  split <;> exact h.executes_refused _

theorem State.QueuesSound.runSetTime (body : List Byte) : s.Executes (s.runSetTime body) := by
  unfold State.runSetTime
  split
  · exact h.executes_refused _
  · next sec _ =>
    have htime : State.QueuesSound { s with clock := { s.clock with seconds := sec, fraction := 0, timeValid := true } } :=
      h.same ⟨rfl, rfl, rfl, rfl, rfl, rfl, rfl⟩ rfl
    refine ⟨htime.evaluate.reformSigning, fun _ => ?_⟩
    exact State.SameHand.trans (t := { s with clock := { s.clock with seconds := sec, fraction := 0, timeValid := true } })
      ⟨rfl, rfl, rfl, rfl, rfl, rfl, rfl⟩ ((State.sameHand_evaluate _).trans (State.sameHand_reformSigning _))

theorem State.QueuesSound.runSetTrim (body : List Byte) : s.Executes (s.runSetTrim body) := by
  unfold State.runSetTrim
  split
  · exact h.executes_refused _
  · exact h.executes_aside _ ⟨rfl, rfl, rfl, rfl, rfl, rfl, rfl⟩ rfl

theorem State.QueuesSound.runReadTime (body : List Byte) : s.Executes (s.runReadTime body) := by
  unfold State.runReadTime
  split <;> exact h.executes_refused _

variable {e : StationEntry} {rest : List StationEntry} (hq : s.station.queue = { e with executing := true } :: rest)
  (hno : s.NoLoad)
include hq

/-- The answer of a RESET is produced while it stays in the queue: its reservation becomes the answer (R169). -/
theorem State.QueuesSound.runReset (hk : e.kind = .reset) (hans : e.answered = false) (hno : s.NoLoad) (tag : Byte)
    (body : List Byte) : s.Executes (s.runReset tag body) := by
  have hserv := h.not_starting_of_queue (by rw [hq]; exact List.cons_ne_nil _ rest)
  have hst := h.2.1
  obtain ⟨hlen, hheld, htail, hdone⟩ := hst
  rw [hq] at hlen htail hdone
  unfold State.runReset
  split
  · exact h.executes_refused _
  have hrest : rest.map (fun e => if e.executing then { e with answered := true } else e : StationEntry → StationEntry) =
      rest := by
    refine (List.map_congr_left fun x hx => ?_).trans (List.map_id rest)
    rw [htail x hx]
    rfl
  have hmap : s.station.queue.map (fun e => if e.executing then { e with answered := true } else e) =
      { e with executing := true, answered := true } :: rest := by
    rw [hq, List.map_cons, hrest]
    rfl
  refine ⟨?_, fun hx => absurd rfl hx⟩
  refine h.setStation (st := { s.station with
      queue := s.station.queue.map fun e => if e.executing then { e with answered := true } else e
      port := s.station.port.enqueue _ _ }) ⟨?_, ?_, ?_, ?_⟩ rfl (fun hs => absurd hs hserv) (.inl hno)
  · rw [hmap]
    exact hlen
  · rw [Station.placesHeld, hq, List.countP_cons, if_pos (by rw [hans]; rfl)] at hheld
    rw [Station.placesHeld]
    dsimp only
    rw [hmap, PortState.enqueue_answers, List.length_append, List.length_singleton, List.countP_cons, if_neg (by simp)]
    omega
  · rw [hmap]
    exact htail
  · rw [hmap]
    intro x hx ha
    obtain rfl | hx := List.mem_cons.mp hx
    · exact ⟨rfl, hk⟩
    · exact hdone x (List.mem_cons_of_mem _ hx) ha

/-- A LOAD_KEY that passes its checks is the one in hand (R68, R154). -/
theorem State.QueuesSound.runLoadKey (hk : e.kind = .loadKey) (hno : s.NoLoad) (body : List Byte) :
    s.Executes (s.runLoadKey body) := by
  have hserv := h.not_starting_of_queue (by rw [hq]; exact List.cons_ne_nil _ rest)
  have hset (req : LoadReq) : State.QueuesSound { s with station := { s.station with load := some (req, s.now) } } := by
    obtain ⟨hlanes, hstation, hjob, ⟨hloaded, -⟩, -⟩ := h
    obtain ⟨hreq, hslots⟩ := hno
    obtain ⟨-, hfree⟩ := List.append_eq_nil_iff.mp hreq
    refine ⟨hlanes, hstation, hjob, ⟨hloaded, fun hs => absurd hs hserv⟩, fun _ => ⟨?_, fun _ => ?_⟩⟩
    · rw [show State.loadingSlots { s with station := { s.station with load := some (req, s.now) } } = [] from hslots,
        show State.loadRequests { s with station := { s.station with load := some (req, s.now) } } = [req] ++ _ from rfl,
        hfree]
      exact Nat.le_refl 1
    · show Station.isExecuting { s.station with load := some (req, s.now) } .loadKey = true
      unfold Station.isExecuting
      dsimp only
      rw [hq]
      simp [hk]
  unfold State.runLoadKey
  split
  · exact h.executes_refused _
  split
  · exact h.executes_refused _
  split
  · exact h.executes_refused _
  · exact ⟨(hset _).arbitrate, fun hx => absurd rfl hx⟩

include hno

/-- The execution of the station request at the head (R156). -/
theorem State.QueuesSound.execute (hans : e.answered = false) : s.Executes (s.execute e) := by
  unfold State.execute
  split
  case h_1 => exact h.runSetLane _
  case h_2 => exact h.runSetConfig _
  case h_3 => exact h.runSaveConfig _
  case h_4 => exact h.runReseed _
  case h_5 hk => exact h.runReset hq hk hans hno _ _
  case h_6 hk => exact h.runLoadKey hq hk hno _
  case h_7 => exact h.runWithdrawKey _
  case h_8 => exact h.runListSlot _
  case h_9 => exact h.runSetRoute _
  case h_10 => exact h.runClearRoute _
  case h_11 => exact h.runQueryPassage _
  case h_12 => exact h.runSetTime _
  case h_13 => exact h.runSetTrim _
  case h_14 => exact h.runReadTime _

end

/-! ### The queue runs (R154, R155, R156) -/

/-- The head of the queue becomes EXECUTING, no request having executed. -/
theorem State.QueuesSound.beginHead {s : State} (h : s.QueuesSound) (hidle : ∀ x ∈ s.station.queue, x.executing = false)
    {e : StationEntry} {rest : List StationEntry} (hq : s.station.queue = e :: rest) :
    (s.withQueue ({ e with executing := true } :: rest)).QueuesSound ∧ e.answered = false ∧ s.NoLoad := by
  have hserv := h.not_starting_of_queue (by rw [hq]; exact List.cons_ne_nil e rest)
  have hst := h.2.1
  obtain ⟨hlen, hheld, htail, hdone⟩ := hst
  rw [hq] at hlen hidle htail hdone
  have hans : e.answered = false := by
    rw [← Bool.not_eq_true]
    intro ha
    have := (hdone e List.mem_cons_self ha).1
    rw [hidle e List.mem_cons_self] at this
    cases this
  have hno : s.NoLoad := h.noLoad (h.loaded_of_not_starting hserv) (by
    rw [Station.isExecuting, hq]
    simp [hidle e List.mem_cons_self])
  refine ⟨h.setStation (st := { s.station with queue := { e with executing := true } :: rest })
    ⟨hlen, ?_, htail, fun x hx ha => ?_⟩ rfl (fun hs => absurd hs hserv) (.inl hno), hans, hno⟩
  · rw [Station.placesHeld, hq] at hheld
    exact hheld
  · obtain rfl | hx := List.mem_cons.mp hx
    · rw [show ({ e with executing := true } : StationEntry).answered = e.answered from rfl, hans] at ha
      cases ha
    · exact hdone x (List.mem_cons_of_mem _ hx) ha

theorem State.QueuesSound.runStationFor (n : Nat) : ∀ {s : State}, s.QueuesSound →
    (∀ x ∈ s.station.queue, x.executing = false) → (s.runStationFor n).QueuesSound := by
  induction n with
  | zero => exact fun h _ => h
  | succ n ih =>
    intro s h hidle
    unfold State.runStationFor
    split
    · exact h
    · next e rest hq =>
      obtain ⟨hhead, hans, hno⟩ := h.beginHead hidle hq
      have hno' : (s.withQueue ({ e with executing := true } :: rest)).NoLoad := hno
      obtain ⟨hx, hand⟩ := hhead.execute (e := e) rfl hno' hans
      dsimp only
      generalize (s.withQueue ({ e with executing := true } :: rest)).execute e = x at hx hand ⊢
      split
      · next r hr =>
        have hsame := hand (by rw [hr]; exact Option.some_ne_none r)
        obtain ⟨hdone, hrest⟩ := hx.answerExecuting hsame.queue hans (hno'.of_sameHand hsame) r
        refine ih hdone fun y hy => hidle y ?_
        rw [hq]
        exact List.mem_cons_of_mem e (hrest ▸ hy)
      · exact hx

section
variable {s : State} (h : s.QueuesSound)
include h

/-- A request that executes, other than a RESET, is answered with no LOAD_KEY in hand, and the one behind it becomes
EXECUTING. -/
theorem State.QueuesSound.finishExecuting {k : StationKind} (hx : s.station.isExecuting k = true) (hk : k ≠ .reset)
    (hno : s.NoLoad) (r : Reply) : (s.finishExecuting r).QueuesSound := by
  have hst := h.2.1
  unfold Station.isExecuting at hx
  split at hx
  · next e rest hq =>
    simp only [Bool.and_eq_true, beq_iff_eq] at hx
    have hans : e.answered = false := by
      rw [← Bool.not_eq_true]
      intro ha
      obtain ⟨-, -, -, hdone⟩ := hst
      exact hk (hx.2.symm.trans (hdone e (hq ▸ List.mem_cons_self) ha).2)
    obtain ⟨hdone, hrest⟩ := h.answerExecuting hq hans hno r
    refine State.QueuesSound.runStationFor _ hdone fun y hy => ?_
    obtain ⟨-, -, htail, -⟩ := hst
    rw [hrest] at hy
    exact htail y (by rw [hq]; exact hy)
  · cases hx

/-- A request other than LOAD_KEY executes: no LOAD_KEY is in hand. -/
theorem State.QueuesSound.noLoad_of_isExecuting {k : StationKind} (hx : s.station.isExecuting k = true) (hk : k ≠ .loadKey) :
    s.NoLoad := by
  unfold Station.isExecuting at hx
  split at hx
  · next e rest hq =>
    simp only [Bool.and_eq_true, beq_iff_eq] at hx
    refine h.noLoad (h.loaded_of_not_starting (h.not_starting_of_queue (by rw [hq]; exact List.cons_ne_nil e rest))) ?_
    rw [Station.isExecuting, hq]
    simp [hx.2, hk]
  · cases hx

/-- A request enters the queue (R155). -/
theorem State.QueuesSound.stationRequest (hfree : s.station.placesHeld < answerPlaces) (k : StationKind) (tag : Byte)
    (body : List Byte) : (s.stationRequest k tag body).QueuesSound := by
  unfold State.stationRequest
  split
  · exact h.stationReply hfree _ _ _
  next hserv =>
  split
  · exact h.stationReply hfree _ _ _
  next hroom =>
  have hst := h.2.1
  obtain ⟨-, -, htail, hdone⟩ := hst
  have hloaded := h.loaded_of_not_starting hserv
  have htake : (s.withQueue (s.station.queue ++
      [{ kind := k, tag := tag, body := body, executing := false, answered := false }])).QueuesSound := by
    refine h.setStation (st := { s.station with queue := s.station.queue ++
      [{ kind := k, tag := tag, body := body, executing := false, answered := false }] }) ⟨?_, ?_, fun x hx => ?_,
        fun x hx ha => ?_⟩ rfl (fun hs => absurd hs hserv) ?_
    · dsimp only
      rw [List.length_append, List.length_singleton]
      omega
    · rw [Station.placesHeld] at hfree ⊢
      dsimp only
      rw [List.countP_append, List.countP_singleton, if_pos (by rfl)]
      omega
    · rw [List.drop_append] at hx
      obtain hx | hx := List.mem_append.mp hx
      · exact htail x hx
      · rw [List.mem_singleton.mp (List.mem_of_mem_drop hx)]
    · obtain hx | hx := List.mem_append.mp hx
      · exact hdone x hx ha
      · rw [List.mem_singleton.mp hx] at ha
        cases ha
    · cases hq : s.station.queue with
      | nil =>
        exact .inl (h.noLoad hloaded (by rw [Station.isExecuting, hq]))
      | cons e rest =>
        right
        simp only [Station.isExecuting, hq, List.cons_append]
  dsimp only
  split
  · next hq =>
    refine State.QueuesSound.runStationFor _ htake fun x hx => ?_
    rw [hq] at hx
    rw [List.mem_singleton.mp hx]
  · exact htake

theorem State.QueuesSound.statusRequest (hfree : s.station.placesHeld < answerPlaces) (tag : Byte) (body : List Byte) :
    (s.statusRequest tag body).QueuesSound := by
  unfold State.statusRequest
  split
  · exact h.stationReply hfree _ _ _
  · next mask _ =>
    have hclear : (s.clearFlags mask).QueuesSound := h.same ⟨rfl, rfl, rfl, rfl, rfl, rfl, rfl⟩ rfl
    exact hclear.stationReply hfree _ _ _

theorem State.QueuesSound.handStation (hfree : s.station.placesHeld < answerPlaces) (f : Frame) :
    (s.handStation f).QueuesSound := by
  unfold State.handStation
  split
  · exact h.stationReply hfree _ _ _
  split
  · exact h.statusRequest hfree _ _
  split
  · exact h.stationReply hfree _ _ _
  · exact h.stationRequest hfree _ _ _

/-- A valid frame on the station port keeps the invariant where its treatment does, a place being free. -/
theorem State.QueuesSound.stationFrame {deal : State → State}
    (hd : ∀ t : State, t.QueuesSound → t.station.placesHeld < answerPlaces → (deal t).QueuesSound) :
    (s.stationFrame deal).QueuesSound := by
  have hheld := h.2.1.2.1
  have harr : s.stationFrameArrives.QueuesSound :=
    h.setPort (st := { s.station with port := { s.station.port with rx := Rx.opened } }) rfl rfl hheld
  obtain heq | ⟨hlt, heq⟩ := s.stationFrame_cases deal <;> rw [heq]
  · exact harr
  · exact hd _ harr (by rw [State.placesHeld_stationFrameArrives]; exact hlt)

end

end Sys2Proof.Machine
end

section
/-! Proofs for the lane transactions: queues and places (R8, R154, R187) through the LOAD completion, the ends of store actions, the
ports and the starts. -/

namespace Sys2Proof.Machine

/-! ### The LOAD completion and the first store write (R69 to R71, R120) -/

section
variable {s : State} (h : s.QueuesSound)
include h

/-- The slots change with no LOAD job waiting or running: at most one is LOADING, for the LOAD_KEY that executes. -/
theorem State.QueuesSound.setSlots {slots : Vector Slot 24} (hreq : s.loadRequests = [])
    (hlen : (State.loadingSlots { s with slots := slots }).length ≤ 1) (hex : s.station.isExecuting .loadKey = true) :
    State.QueuesSound { s with slots := slots } := by
  obtain ⟨hlanes, hstation, hjob, hstart, -⟩ := h
  refine ⟨hlanes, hstation, hjob, hstart, fun _ => ⟨?_, fun _ => hex⟩⟩
  rw [show State.loadRequests { s with slots := slots } = [] from hreq]
  simpa using hlen

/-- A LOAD job leaves the unit: its request was the one in hand. -/
theorem State.QueuesSound.freeUnit_load {q : LoadReq} {k : Block} (hj : s.kfu.job = some (.loadJob q k)) :
    s.freeUnit.QueuesSound ∧ s.freeUnit.NoLoad ∧ s.station.isExecuting .loadKey = true := by
  have hserv := h.not_starting_of_job hj
  have hloaded := h.loaded_of_not_starting hserv
  obtain ⟨hlanes, hstation, ⟨hmark, -⟩, ⟨hstart, -⟩, hload⟩ := h
  obtain ⟨hone, hex⟩ := hload hloaded
  have hreq : s.loadRequests = (s.station.load.map Prod.fst).toList ++ [q] := by rw [State.loadRequests, hj]
  rw [hreq, List.length_append, List.length_singleton] at hone
  have hnone : s.freeUnit.NoLoad := by
    constructor
    · rw [State.loadRequests_free (s := s.freeUnit) rfl]
      exact List.eq_nil_of_length_eq_zero (by rw [show s.freeUnit.station = s.station from rfl]; omega)
    · exact List.eq_nil_of_length_eq_zero (by rw [show s.freeUnit.loadingSlots = s.loadingSlots from rfl]; omega)
  refine ⟨⟨hlanes, hstation, ⟨fun l c => ?_, fun j l c hj' => nomatch hj'⟩, ⟨hstart, fun hs => absurd hs hserv⟩,
    fun _ => ?_⟩, hnone, hex (.inl (by rw [hreq]; simp))⟩
  · refine (show (s.freeUnit.ctx l c).inFlight = true ↔ _ from hmark l c).trans ?_
    rw [hj]
    exact iff_of_false (fun hx => nomatch hx) fun hx => nomatch hx
  · rw [hnone.1, hnone.2]
    exact ⟨Nat.zero_le 1, fun hx => hx.elim (absurd rfl) (absurd rfl)⟩

/-- The slot that a LOAD fills is the one in LOADING (R69, R70). -/
theorem State.QueuesSound.fillSlot (hno : s.NoLoad) (hex : s.station.isExecuting .loadKey = true) (req : LoadReq)
    (key : Block) : (s.fillSlot req key).QueuesSound := by
  unfold State.fillSlot
  dsimp only
  generalize (KeyData.mk req.issuer req.role req.generation req.activation req.expiry key req.check) = d
  refine State.QueuesSound.requestStore (h.setSlots hno.1 ?_ hex) _
  have hslots : (s.onSlot req.slot fun sl =>
      { sl with body := .held (.loading (s.storedState req.activation)) d }).loadingSlots =
        (List.finRange 24).filter (· == req.slot) := by
    refine List.filter_congr fun n _ => ?_
    rw [Bool.eq_iff_iff, beq_iff_eq, beq_iff_eq]
    by_cases hn : n = req.slot
    · subst hn
      rw [State.onSlot_same]
      exact iff_of_true rfl rfl
    · rw [State.onSlot_other _ _ _ _ hn]
      refine iff_of_false (fun hx => ?_) hn
      have hmem := (State.mem_loadingSlots n).mpr hx
      rw [hno.2] at hmem
      cases hmem
  refine (congrArg List.length hslots).trans_le ?_
  rw [← List.countP_eq_length_filter]
  exact List.nodup_iff_count_le_one.mp (List.nodup_finRange 24) req.slot

/-- The one slot in LOADING leaves it: no LOAD_KEY is in hand, and its request still executes. -/
theorem State.QueuesSound.leaveLoading (hloaded : s.loaded = true) {n : SlotNo} (hn : s.slots[n].state = .loading)
    {f : Slot → Slot} (hf : (f s.slots[n]).state ≠ .loading) :
    (s.onSlot n f).QueuesSound ∧ (s.onSlot n f).NoLoad ∧ s.station.isExecuting .loadKey = true := by
  obtain ⟨hone, hex⟩ := h.2.2.2.2 hloaded
  have hmem := (State.mem_loadingSlots n).mpr hn
  have hpos := List.length_pos_of_mem hmem
  have hex := hex (.inr (List.ne_nil_of_mem hmem))
  have hreq : s.loadRequests = [] := List.eq_nil_of_length_eq_zero (by omega)
  have hsingle : s.loadingSlots = [n] := by
    obtain ⟨k, hk⟩ := List.length_eq_one_iff.mp (show s.loadingSlots.length = 1 by omega)
    rw [hk] at hmem
    rw [hk, List.mem_singleton.mp hmem]
  have hnil : (s.onSlot n f).loadingSlots = [] := by
    rw [List.eq_nil_iff_forall_not_mem]
    intro k hk
    rw [State.mem_loadingSlots] at hk
    by_cases hkn : k = n
    · subst hkn
      rw [State.onSlot_same] at hk
      exact hf hk
    · rw [State.onSlot_other _ _ _ _ hkn] at hk
      have hk' := (State.mem_loadingSlots k).mpr hk
      rw [hsingle] at hk'
      exact hkn (List.mem_singleton.mp hk')
  refine ⟨h.setSlots hreq ?_ hex, ⟨hreq, hnil⟩, hex⟩
  exact (congrArg List.length hnil).trans_le (Nat.zero_le 1)

omit h in
theorem State.isExecuting_congr {s t : State} (hand : s.SameHand t) (k : StationKind) :
    t.station.isExecuting k = s.station.isExecuting k := by
  rw [Station.isExecuting, hand.queue]
  rfl

/-- The slot enters its stored state, and the LOAD_KEY is answered (R70). -/
theorem State.QueuesSound.firstWrite (hloaded : s.loaded = true) {n : SlotNo} (hn : s.slots[n].state = .loading)
    {st : HeldState} (hst : ∀ stored, st ≠ .loading stored) (d : KeyData) (r : Reply) :
    ((s.onSlot n fun sl => { sl with body := .held st d }).evaluate.reformSigning.finishExecuting r).QueuesSound := by
  have hf (sl : Slot) : ({ sl with body := .held st d } : Slot).state ≠ .loading := by
    cases st with
    | loading stored => exact absurd rfl (hst stored)
    | _ => exact fun hx => nomatch hx
  obtain ⟨ht, hno, hex⟩ := h.leaveLoading hloaded hn (f := fun sl => { sl with body := .held st d }) (hf s.slots[n])
  have hand := (State.sameHand_evaluate (s.onSlot n fun sl => { sl with body := .held st d })).trans
    (State.sameHand_reformSigning _)
  exact ht.evaluate.reformSigning.finishExecuting ((State.isExecuting_congr hand _).trans hex) (by decide)
    (hno.of_sameHand hand) _

theorem State.QueuesSound.slotWriteEnds (hloaded : s.loaded = true) (n : SlotNo) (ok : Bool) :
    (s.slotWriteEnds n ok).QueuesSound := by
  unfold State.slotWriteEnds
  split
  · next stored d hb =>
    have hn : s.slots[n].state = .loading := by rw [Slot.state, hb]
    split
    · unfold State.firstWriteDone
      cases stored
      · exact h.firstWrite hloaded hn (st := .staged) (fun _ hx => nomatch hx) d _
      · exact h.firstWrite hloaded hn (st := .active) (fun _ hx => nomatch hx) d _
    · unfold State.firstWriteFailed
      obtain ⟨ht, hno, hex⟩ := h.leaveLoading hloaded hn (f := fun sl => { sl with body := .empty }) fun hx => nomatch hx
      have hand := State.sameHand_requestStore (s.onSlot n fun sl => { sl with body := .empty }) (.eraseSlot n)
      exact (ht.requestStore _).finishExecuting ((State.isExecuting_congr hand _).trans hex) (by decide)
        (hno.of_sameHand hand) _
  · exact h

theorem State.QueuesSound.slotEraseEnds (n : SlotNo) (ok : Bool) : (s.slotEraseEnds n ok).QueuesSound := by
  unfold State.slotEraseEnds
  split
  · next d hb =>
    split
    · refine h.same ⟨rfl, rfl, rfl, rfl, rfl, rfl, State.loadingSlots_onSlot (iff_of_false (fun hx => nomatch hx) ?_)⟩ rfl
      rw [Slot.state, hb]
      exact fun hx => nomatch hx
    · exact h
  · exact h

theorem State.QueuesSound.imageWriteEnds (ok : Bool) : (s.imageWriteEnds ok).QueuesSound := by
  unfold State.imageWriteEnds
  split
  · next hex => exact h.finishExecuting hex (by decide) (h.noLoad_of_isExecuting hex (by decide)) _
  · exact h

theorem State.QueuesSound.reseedBootEnds (hloaded : s.loaded = true) (b : BitVec 32) (ok : Bool) :
    (s.reseedBootEnds b ok).QueuesSound := by
  unfold State.reseedBootEnds
  split
  · next hex =>
    split
    · have hboot : State.QueuesSound { s with kfu := { s.kfu with boot := some b, sequence := 0 } } :=
        h.same ⟨rfl, rfl, rfl, rfl, rfl, rfl, rfl⟩ rfl
      have hserve := hboot.enterServing hloaded
      have hex' : (State.enterServing { s with kfu := { s.kfu with boot := some b, sequence := 0 } }).station.isExecuting
          .reseed = true := by
        rw [State.enterServing_station]
        exact hex
      exact hserve.finishExecuting hex' (by decide) (hserve.noLoad_of_isExecuting hex' (by decide)) _
    · exact h.finishExecuting hex (by decide) (h.noLoad_of_isExecuting hex (by decide)) _
  · exact h

theorem State.QueuesSound.bootWriteEnds (hloaded : s.loaded = true) (b : BitVec 32) (ok : Bool) :
    (s.bootWriteEnds b ok).QueuesSound := by
  have hheld := h.2.1.2.1
  have hknown : State.QueuesSound (if ok then { s with station := { s.station with knownBoot := some b } } else s) := by
    split
    · exact h.setPort (st := { s.station with knownBoot := some b }) rfl rfl hheld
    · exact h
  have hl : State.loaded (if ok then { s with station := { s.station with knownBoot := some b } } else s) = true := by
    split <;> exact hloaded
  unfold State.bootWriteEnds
  dsimp only
  generalize (if ok then { s with station := { s.station with knownBoot := some b } } else s : State) = t at hknown hl
  split
  · unfold State.startBootEnds
    split
    · exact hknown.enterServing hl
    · exact hknown.setService hl (by decide)
  · have hclear : t.clearHold.QueuesSound := hknown.same ⟨rfl, rfl, rfl, rfl, rfl, rfl, rfl⟩ rfl
    unfold State.exhaustionBootEnds
    split
    · exact hclear.arbitrate
    · exact hclear.leaveService hl
  · exact hknown.reseedBootEnds hl b ok

theorem State.QueuesSound.actionEnds (a : StoreAct) (ok : Bool) : (s.actionEnds a ok).QueuesSound := by
  unfold State.actionEnds
  split
  · exact h
  · next hgo =>
    have hloaded : s.loaded = true := by
      rw [← Bool.not_eq_false]
      obtain ⟨-, -, -, ⟨hstart, -⟩, -⟩ := h
      exact fun hno => hgo ⟨hstart hno, by rw [hno]; exact Bool.false_ne_true⟩
    split
    · exact h.slotWriteEnds hloaded _ ok
    · exact h.slotEraseEnds _ ok
    · exact h.imageWriteEnds ok
    · exact h.bootWriteEnds hloaded _ ok

theorem State.QueuesSound.setStore (st : Store) : State.QueuesSound { s with store := st } :=
  h.same ⟨rfl, rfl, rfl, rfl, rfl, rfl, rfl⟩ rfl

theorem State.QueuesSound.beginNext : s.beginNext.QueuesSound := by
  rw [State.beginNext_frame]
  exact h.setStore _

/-! ### The ports (R184, R186, R187) -/

theorem State.QueuesSound.receiver (p : Port) (rx : Rx) : (s.onPort p fun ps => { ps with rx := rx }).QueuesSound := by
  have hheld := h.2.1.2.1
  cases p with
  | lane l => exact h.onLane_same rfl rfl rfl rfl
  | station => exact h.setPort (st := { s.station with port := { s.station.port with rx := rx } }) rfl rfl hheld

theorem State.QueuesSound.portFrame (p : Port) (f : Frame) : (s.portFrame p f).QueuesSound := by
  cases p with
  | lane l => exact h.laneFrame fun _ ht hlt => ht.handLane hlt f
  | station => exact h.stationFrame fun _ ht hlt => ht.handStation hlt f

theorem State.QueuesSound.receive (p : Port) (c : LineChar) : (s.receive p c).QueuesSound := by
  unfold State.receive
  dsimp only
  split
  · exact h.receiver p _
  · exact (h.receiver p _).latch _
  · exact (h.receiver p _).portFrame p _

theorem State.QueuesSound.receiveAll (p : Port) (cs : List LineChar) : (s.receiveAll p cs).QueuesSound :=
  foldl_keeps (P := State.QueuesSound) (fun _ c h => h.receive p c) _ s h

/-- The answer at the head of a port leaves, and with it the entry that it names. -/
theorem State.QueuesSound.answerSent {p : Port} {a : Answer} {rest : List Answer} (ha : (s.portOf p).answers = a :: rest) :
    (s.answerSent p a).QueuesSound := by
  unfold State.answerSent
  cases p with
  | lane l =>
    dsimp only
    rw [show (s.onPort (.lane l) fun ps => ps.sent (s.rateOfPort (.lane l))) =
      s.onLane l fun ln => { ln with port := ln.port.sent s.laneRate } from rfl, State.onLane_onLane]
    have hans : s.lanes[l].port.answers = a :: rest := ha
    have hrest : (({ s.lanes[l] with port := s.lanes[l].port.sent s.laneRate } : Lane).dropEntry a.serial).port.answers =
        rest := by
      rw [show (({ s.lanes[l] with port := s.lanes[l].port.sent s.laneRate } : Lane).dropEntry a.serial).port =
        s.lanes[l].port.sent s.laneRate by cases a.serial <;> rfl, PortState.sent_answers, hans]
      rfl
    have hqueue : (({ s.lanes[l] with port := s.lanes[l].port.sent s.laneRate } : Lane).dropEntry a.serial).queue =
        (s.lanes[l].dropEntry a.serial).queue := by cases a.serial <;> rfl
    have hcontexts : (({ s.lanes[l] with port := s.lanes[l].port.sent s.laneRate } : Lane).dropEntry a.serial).contexts =
        s.lanes[l].contexts := by cases a.serial <;> rfl
    have hnext : (({ s.lanes[l] with port := s.lanes[l].port.sent s.laneRate } : Lane).dropEntry a.serial).nextSerial =
        s.lanes[l].nextSerial := by cases a.serial <;> rfl
    exact h.onLane ⟨(h.1 l).1.sent hans hqueue hnext hrest,
      (h.1 l).2.sent (h.1 l).1 (by rw [hans]; exact List.mem_cons_self) hqueue hcontexts⟩ hcontexts
  | station =>
    have hheld := h.2.1.2.1
    refine h.setPort (st := { s.station with port := s.station.port.sent _ }) rfl rfl ?_
    rw [Station.placesHeld] at hheld ⊢
    dsimp only
    rw [PortState.sent_answers, List.length_drop]
    omega

end

/-! ### The starts (R7, R177 to R181) -/

/-- At the beginning of a start nothing is in hand (R7, R123, R154, R187). -/
theorem State.queuesSound_of_fresh {t : State}
    (hl : ∀ l : LaneNo, t.lanes[l].queue = [] ∧ t.lanes[l].port.answers = [] ∧ ∀ c, t.ctx l c = Context.fresh)
    (hq : t.station.queue = []) (ha : t.station.port.answers = []) (hload : t.station.load = none) (hj : t.kfu.job = none)
    (hloaded : t.loaded = false) (hs : t.service = .starting) : t.QueuesSound := by
  refine ⟨fun l => ?_, ⟨?_, ?_, ?_, ?_⟩, ⟨fun l c => ?_, ?_⟩, ⟨fun _ => hs, fun _ => ⟨hj, hq, hload, fun l c => ?_⟩⟩, fun hx => ?_⟩
  · obtain ⟨hqueue, hanswers, hctx⟩ := hl l
    exact Lane.sound_of_fresh hqueue hanswers fun c => congrArg Context.inFlight (hctx c)
  · simp [hq]
  · simp [Station.placesHeld, hq, ha]
  · simp [hq]
  · simp [hq]
  · rw [(hl l).2.2 c, hj]
    exact iff_of_false (fun hx => nomatch hx) fun hx => nomatch hx
  · rw [hj]
    exact fun j l c hx => nomatch hx
  · rw [(hl l).2.2 c]
    rfl
  · rw [hloaded] at hx
    cases hx

theorem State.queuesSound_warmReset (s : State) : s.warmReset.QueuesSound := by
  refine State.queuesSound_of_fresh (fun l => ?_) rfl rfl rfl rfl rfl rfl
  have hlane : s.warmReset.lanes[l] = s.lanes[l].warmReset := by simp [State.warmReset]
  rw [hlane]
  exact ⟨rfl, rfl, s.ctx_warmReset l⟩

/-- The lanes of a module without main power are as after power-on. -/
theorem State.lanes_mainLost (s : State) (l : LaneNo) : s.mainLost.lanes[l] = Lane.fresh := by
  simp [State.mainLost, State.reset]

theorem State.queuesSound_mainLost (s : State) : s.mainLost.QueuesSound := by
  refine State.queuesSound_of_fresh (fun l => ?_) rfl rfl rfl rfl rfl rfl
  rw [State.lanes_mainLost]
  exact ⟨rfl, rfl, s.ctx_mainLost l⟩

theorem State.queuesSound_powerOn (s : State) (low : Bool) : (s.powerOn low).QueuesSound := by
  have hon : State.QueuesSound { s.mainLost with power := true, clock := s.mainLost.clock.powerOn low } :=
    s.queuesSound_mainLost.same ⟨rfl, rfl, rfl, rfl, rfl, rfl, rfl⟩ rfl
  unfold State.powerOn
  dsimp only
  split
  · exact hon.latch _
  · exact hon

/-- A slot filled from its record is not LOADING (R65). -/
theorem slotFrom_not_loading (r : Rec SlotRecord) : (slotFrom r).state ≠ .loading := by
  cases r with
  | blank => exact fun hx => nomatch hx
  | failing => exact fun hx => nomatch hx
  | intact c =>
    obtain ⟨d, st⟩ := c
    cases st <;> exact fun hx => nomatch hx

/-- What the loading of the slot records leaves as it was, beside the slots (R179). -/
structure State.SameBeside (s t : State) : Prop where
  service : t.service = s.service
  station : t.station = s.station
  kfu : t.kfu = s.kfu
  lanes : t.lanes = s.lanes
  slots : t.slots = s.slots

theorem State.sameBeside_loadSlotRecord (s : State) (n : SlotNo) : s.SameBeside (s.loadSlotRecord n) := by
  have hlatch : s.SameBeside (if s.store.slots[n] == .failing then s.latch .slotLost else s) := by
    split <;> exact ⟨rfl, rfl, rfl, rfl, rfl⟩
  unfold State.loadSlotRecord
  dsimp only
  generalize (if s.store.slots[n] == .failing then s.latch .slotLost else s) = t at hlatch ⊢
  obtain ⟨hservice, hstation, hkfu, hlanes, hslots⟩ := hlatch
  split
  · exact ⟨by simp [hservice], by simp [hstation], by simp [hkfu], by simp [hlanes], by simp [hslots]⟩
  · exact ⟨hservice, hstation, hkfu, hlanes, hslots⟩

theorem State.sameBeside_foldl (as : List SlotNo) (s : State) :
    s.SameBeside (as.foldl (fun s n => s.loadSlotRecord n) s) := by
  refine foldl_keeps (P := s.SameBeside) (fun t n ht => ?_) as s ⟨rfl, rfl, rfl, rfl, rfl⟩
  obtain ⟨hservice, hstation, hkfu, hlanes, hslots⟩ := t.sameBeside_loadSlotRecord n
  exact ⟨hservice.trans ht.service, hstation.trans ht.station, hkfu.trans ht.kfu, hlanes.trans ht.lanes,
    hslots.trans ht.slots⟩

/-- The loading of the slot records leaves the lanes, the station and the unit, and no slot in LOADING. -/
theorem State.startSlots_frame (s : State) :
    s.startSlots.service = s.service ∧ s.startSlots.station = s.station ∧ s.startSlots.kfu = s.kfu
      ∧ s.startSlots.lanes = s.lanes ∧ s.startSlots.loadingSlots = [] := by
  obtain ⟨hservice, hstation, hkfu, hlanes, hslots⟩ := State.sameBeside_foldl (List.finRange 24)
    { s with slots := Vector.ofFn fun n : SlotNo => slotFrom s.store.slots[n] }
  have hnone : s.loadSlots.loadingSlots = [] := by
    rw [List.eq_nil_iff_forall_not_mem]
    intro n hn
    rw [State.mem_loadingSlots, State.loadSlots, hslots, Fin.getElem_fin, Vector.getElem_ofFn] at hn
    exact slotFrom_not_loading _ hn
  have hservice' := (State.evaluate_service s.loadSlots).trans hservice
  have hstation' := (State.evaluate_station s.loadSlots).trans hstation
  have hkfu' := (State.evaluate_kfu s.loadSlots).trans hkfu
  have hlanes' := (State.evaluate_lanes s.loadSlots).trans hlanes
  have hnone' := (State.loadingSlots_evaluate s.loadSlots).trans hnone
  unfold State.startSlots
  dsimp only
  generalize s.loadSlots.evaluate = t at hservice' hstation' hkfu' hlanes' hnone'
  exact ⟨hservice', hstation', hkfu', hlanes', hnone'⟩

theorem State.loadConfig_frame (s : State) :
    s.loadConfig.service = s.service ∧ s.loadConfig.station = s.station ∧ s.loadConfig.kfu = s.kfu
      ∧ s.SameQueues s.loadConfig ∧ ∀ l c, s.loadConfig.ctx l c = s.ctx l c := by
  have hlane (l : LaneNo) : s.loadConfig.lanes[l] = s.lanes[l].configured s.store.imageOrDefaults.config.lanes[l]
      (s.store.imageOrDefaults.config.items.rate != s.laneRate) s.now := by
    unfold State.loadConfig
    dsimp only
    split <;> simp
  refine ⟨?_, ?_, ?_, fun l => ?_, fun l c => ?_⟩
  · unfold State.loadConfig
    dsimp only
    split <;> rfl
  · unfold State.loadConfig
    dsimp only
    split <;> rfl
  · unfold State.loadConfig
    dsimp only
    split <;> rfl
  · rw [hlane]
    exact ⟨rfl, rfl, rfl⟩
  · rw [State.ctx, hlane]
    rfl

section
variable {s : State} (h : s.QueuesSound)
include h

/-- The records are loaded in STARTING, where nothing is in hand. -/
theorem State.QueuesSound.startLoaded (hs : s.service = .starting) {t : State} (hservice : t.service = s.service)
    (hstation : t.station = s.station) (hkfu : t.kfu = s.kfu) (hq : s.SameQueues t)
    (hc : ∀ l c, t.ctx l c = s.ctx l c) (hslots : t.loadingSlots = []) : t.QueuesSound := by
  obtain ⟨hlanes, hst, ⟨hmark, hfits⟩, ⟨-, hstart⟩, -⟩ := h
  obtain ⟨hjob, hqueue, hload, hfree⟩ := hstart hs
  refine ⟨fun l => ?_, hstation ▸ hst, ⟨fun l c => ?_, fun j l c => ?_⟩, ⟨fun _ => hservice.trans hs, fun _ => ?_⟩,
    fun _ => ?_⟩
  · obtain ⟨hq, hn, ha⟩ := hq l
    refine ⟨(hlanes l).1.same hq hn ha, (hlanes l).2.same hq fun c => .inl ?_⟩
    rw [show t.lanes[l].contexts[c] = s.lanes[l].contexts[c] from hc l c]
    exact ⟨rfl, rfl⟩
  · rw [hc, hkfu]
    exact hmark l c
  · rw [hc, hkfu]
    exact hfits j l c
  · rw [hkfu, hstation]
    exact ⟨hjob, hqueue, hload, fun l c => by rw [hc]; exact hfree l c⟩
  · rw [State.loadRequests_free (s := t) (hkfu ▸ hjob), hstation, hload, hslots]
    exact ⟨Nat.zero_le 1, fun hx => hx.elim (absurd rfl) (absurd rfl)⟩

theorem State.QueuesSound.loadBoot (hloaded : s.loaded = true) : s.loadBoot.QueuesSound := by
  have hheld := h.2.1.2.1
  have hknown (b : Option (BitVec 32)) : State.QueuesSound { s with station := { s.station with knownBoot := b } } :=
    h.setPort (st := { s.station with knownBoot := b }) rfl rfl hheld
  have hboot {t : State} (ht : t.QueuesSound) (b : Option (BitVec 32)) :
      State.QueuesSound { t with kfu := { t.kfu with boot := b } } := ht.same ⟨rfl, rfl, rfl, rfl, rfl, rfl, rfl⟩ rfl
  unfold State.loadBoot
  split
  · next b _ =>
    dsimp only
    split
    · exact hboot ((hknown (some b)).setService hloaded (v := .seedWait) (by decide)) _
    · exact (hboot (hknown (some b)) _).requestStore _
  · exact (hboot ((hknown none).setService hloaded (v := .seedWait) (by decide)) none).latch _

theorem State.QueuesSound.startUp (hs : s.service = .starting) :
    (State.loadBoot { s.loadConfig.startSlots with loaded := true }).QueuesSound := by
  obtain ⟨hservice, hstation, hkfu, hq, hc⟩ := s.loadConfig_frame
  obtain ⟨hservice', hstation', hkfu', hlanes', hslots⟩ := s.loadConfig.startSlots_frame
  generalize s.loadConfig.startSlots = t at hservice' hstation' hkfu' hlanes' hslots
  have hloaded : State.QueuesSound { t with loaded := true } :=
    h.startLoaded hs (hservice'.trans hservice) (hstation'.trans hstation) (hkfu'.trans hkfu)
      (hq.trans (.of_lanes hlanes')) (fun l c => (State.ctx_of_lanes (s := s.loadConfig) hlanes' l c).trans (hc l c)) hslots
  exact hloaded.loadBoot rfl

end

end Sys2Proof.Machine
end

section
/-! Proofs for the lane transactions: queues and places through every step (R8, R9, R154, R187), and the invariants at reset. -/

namespace Sys2Proof.Machine

section
variable {s : State} (h : s.QueuesSound)
include h

/-- A command heard only with main power present. -/
theorem State.QueuesSound.powered {f : State → State} {t : State} (hx : s.powered f = .next t) (hf : (f s).QueuesSound) :
    t.QueuesSound := by
  obtain ⟨-, rfl⟩ | ⟨-, rfl⟩ := State.powered_cases hx
  · exact hf.driveAlerts
  · exact h

theorem State.QueuesSound.execOpenCompletion {t : State} (hx : execOpenCompletion s = .next t) : t.QueuesSound := by
  unfold Machine.execOpenCompletion at hx
  split at hx <;> cases hx
  · next l c mk id g i hj =>
    obtain ⟨hopen, hand⟩ := h.applyOpen (State.sameHand_advanceSequence _) (by simp) hj (derive mk id g i)
      (challenge s.kfu.challengeKey s.kfu.bootCount s.kfu.sequence l c)
    refine State.QueuesSound.driveAlerts (State.QueuesSound.arbitrate ?_)
    split
    · exact hopen.leaveService (hand.loaded.trans (h.loaded_of_not_starting (h.not_starting_of_job hj)))
    · exact hopen
  · exact h

theorem State.QueuesSound.execProveCompletion {t : State} (hx : execProveCompletion s = .next t) : t.QueuesSound := by
  unfold Machine.execProveCompletion at hx
  split at hx <;> cases hx
  · next hj => exact (h.applyProve (.refl s.freeUnit) rfl hj _).arbitrate.driveAlerts
  · exact h

theorem State.QueuesSound.execSealCompletion {t : State} (hx : execSealCompletion s = .next t) : t.QueuesSound := by
  unfold Machine.execSealCompletion at hx
  split at hx <;> cases hx
  · next hj => exact (h.applySeal (.refl s.freeUnit) rfl hj).arbitrate.driveAlerts
  · exact h

theorem State.QueuesSound.execLoadCompletion {t : State} (hx : execLoadCompletion s = .next t) : t.QueuesSound := by
  unfold Machine.execLoadCompletion at hx
  split at hx <;> cases hx
  · next hj =>
    obtain ⟨hfree, hno, hex⟩ := h.freeUnit_load hj
    refine State.QueuesSound.driveAlerts (State.QueuesSound.arbitrate ?_)
    split
    · exact hfree.fillSlot hno hex _ _
    · exact hfree.finishExecuting hex (by decide) hno _
  · exact h

theorem State.QueuesSound.setClock (k : Clock) : State.QueuesSound { s with clock := k } :=
  h.same ⟨rfl, rfl, rfl, rfl, rfl, rfl, rfl⟩ rfl

theorem State.QueuesSound.execSecondEvent {t : State} (hx : execSecondEvent s = .next t) : t.QueuesSound := by
  unfold Machine.execSecondEvent at hx
  split at hx
  · cases hx; exact h
  · have ht := h.setClock { s.clock with secondEvents := s.clock.secondEvents - 1 }
    dsimp only at hx
    split at hx <;> cases hx
    · exact ht.evaluate.reformSigning.driveAlerts
    · exact ht

theorem State.QueuesSound.execContextExpiry {l : LaneNo} {c : CtxNo} {t : State}
    (hx : execContextExpiry l c s = .next t) : t.QueuesSound := by
  unfold Machine.execContextExpiry at hx
  split at hx <;> cases hx
  · exact (h.removeAndEnd l c _ _).driveAlerts
  · exact h

theorem State.QueuesSound.execEntryExpiry {id : TagId} {t : State} (hx : execEntryExpiry id s = .next t) :
    t.QueuesSound := by
  unfold Machine.execEntryExpiry at hx
  split at hx
  · split at hx
    · split at hx <;> cases hx
      · exact h.same ⟨rfl, rfl, rfl, rfl, rfl, rfl, rfl⟩ rfl
      · exact h
    · cases hx; exact h
  · cases hx; exact h

theorem State.QueuesSound.execLinkExpiry {l : LaneNo} {t : State} (hx : execLinkExpiry l s = .next t) :
    t.QueuesSound := by
  unfold Machine.execLinkExpiry at hx
  split at hx <;> cases hx
  · exact (h.linkDown l).driveAlerts
  · exact h

theorem State.QueuesSound.execOscillatorStop {t : State} (hx : execOscillatorStop s = .next t) : t.QueuesSound := by
  unfold Machine.execOscillatorStop at hx
  split at hx <;> cases hx
  · exact ((h.setClock _).latch _).driveAlerts
  · exact h

theorem State.QueuesSound.execMainPowerFail {p : ActionPoint} {t : State} (hx : execMainPowerFail p s = .next t) :
    t.QueuesSound := by
  unfold Machine.execMainPowerFail at hx
  split at hx <;> cases hx
  · exact (State.queuesSound_mainLost _).driveAlerts
  · exact h

theorem State.QueuesSound.execPowerOn {low : Bool} {t : State} (hx : execPowerOn low s = .next t) : t.QueuesSound := by
  unfold Machine.execPowerOn at hx
  split at hx <;> cases hx
  · exact h
  · exact (s.queuesSound_powerOn low).driveAlerts

theorem State.QueuesSound.execStartUp {t : State} (hx : execStartUp s = .next t) : t.QueuesSound := by
  unfold Machine.execStartUp at hx
  split at hx <;> rw [Host.Outcome.next.injEq] at hx <;> subst hx
  · next hready =>
    simp only [State.startReady, Bool.and_eq_true, beq_iff_eq] at hready
    exact (h.startUp hready.1.1.2).driveAlerts
  · exact h

theorem State.QueuesSound.execStoreActionComplete {t : State} (hx : execStoreActionComplete s = .next t) :
    t.QueuesSound := by
  unfold Machine.execStoreActionComplete at hx
  split at hx <;> cases hx
  · exact h
  · exact ((h.setStore _).actionEnds _ _).beginNext.driveAlerts

theorem State.QueuesSound.execStoreActionFailed {left : AttemptLeft} {t : State}
    (hx : execStoreActionFailed left s = .next t) : t.QueuesSound := by
  unfold Machine.execStoreActionFailed at hx
  split at hx <;> cases hx
  · exact (((h.setStore _).latch _).actionEnds _ _).beginNext.driveAlerts
  · exact h

theorem State.QueuesSound.execAnswerTransmitted {p : Port} {t : State} (hx : execAnswerTransmitted p s = .next t) :
    t.QueuesSound := by
  unfold Machine.execAnswerTransmitted at hx
  split at hx <;> cases hx
  · exact h
  · next ha =>
    refine State.QueuesSound.driveAlerts ?_
    split
    · exact State.queuesSound_warmReset _
    · exact h.answerSent ha

/-- Every command keeps the queues sound. -/
theorem State.QueuesSound.exec {i : Instr} {t : State} (hx : exec i s = .next t) : t.QueuesSound := by
  have lane (l : LaneNo) (deal : State → State) (hx : (s.powered fun s => s.laneFrame l deal) = .next t)
      (hd : ∀ u : State, u.QueuesSound → u.lanes[l].placesHeld < answerPlaces → (deal u).QueuesSound) : t.QueuesSound :=
    h.powered hx (h.laneFrame hd)
  have station (k : StationKind) (tag : Byte) (body : List Byte)
      (hx : (s.powered fun s => s.stationFrame fun t => t.stationRequest k tag body) = .next t) : t.QueuesSound :=
    h.powered hx (h.stationFrame fun _ ht hlt => ht.stationRequest hlt k tag body)
  cases i
  case openReq l tag body => exact lane l (fun t => t.openRequest l tag body) hx fun _ ht hlt => ht.openRequest hlt tag body
  case proveReq l tag body =>
    exact lane l (fun t => t.proveRequest l tag body) hx fun _ ht hlt => ht.proveRequest hlt tag body
  case sealReq l tag body => exact lane l (fun t => t.sealRequest l tag body) hx fun _ ht hlt => ht.sealRequest hlt tag body
  case dropReq l tag body => exact lane l (fun t => t.dropRequest l tag body) hx fun _ ht hlt => ht.dropRequest hlt tag body
  case pollReq l tag body => exact lane l (fun t => t.pollRequest l tag body) hx fun _ ht hlt => ht.pollRequest hlt tag body
  case statusReq tag body =>
    exact h.powered (f := fun s => s.stationFrame fun t => t.statusRequest tag body) hx
      (h.stationFrame fun _ ht hlt => ht.statusRequest hlt tag body)
  case setLane tag body => exact station .setLane tag body hx
  case setConfig tag body => exact station .setConfig tag body hx
  case saveConfig tag body => exact station .saveConfig tag body hx
  case reseed tag body => exact station .reseed tag body hx
  case resetReq tag body => exact station .reset tag body hx
  case loadKey tag body => exact station .loadKey tag body hx
  case withdrawKey tag body => exact station .withdrawKey tag body hx
  case listSlot tag body => exact station .listSlot tag body hx
  case setRoute tag body => exact station .setRoute tag body hx
  case clearRoute tag body => exact station .clearRoute tag body hx
  case queryPassage tag body => exact station .queryPassage tag body hx
  case setTime tag body => exact station .setTime tag body hx
  case setTrim tag body => exact station .setTrim tag body hx
  case readTime tag body => exact station .readTime tag body hx
  case malformedFrame p kind tag length body => exact h.powered (f := fun s => s.portFrame p _) hx (h.portFrame p _)
  case frameDiscarded p cs => exact h.powered (f := fun s => s.receiveAll p cs) hx (h.receiveAll p cs)
  case abortSequence p => exact h.powered (f := fun s => s.onPort p _) hx (h.receiver p _)
  case openCompletion => exact h.execOpenCompletion hx
  case proveCompletion => exact h.execProveCompletion hx
  case sealCompletion => exact h.execSealCompletion hx
  case loadCompletion => exact h.execLoadCompletion hx
  case fractionTick | backupLowChange | oscillatorStopWhileOff =>
    simp only [Machine.exec, execFractionTick, execBackupLowChange, execOscillatorStopWhileOff] at hx
    split at hx <;> cases hx
    · exact h.setClock _
    · exact h
  case oscillatorRestart =>
    simp only [Machine.exec, execOscillatorRestart] at hx
    split at hx <;> cases hx
    · exact h
    · exact h.setClock _
  case storeVerifyRetry =>
    simp only [Machine.exec, execStoreVerifyRetry] at hx
    split at hx <;> cases hx
    · exact h.setStore _
    · exact h
  case periodStart => cases hx; exact h.setClock _
  case secondEvent => exact h.execSecondEvent hx
  case contextExpiry l c => exact h.execContextExpiry hx
  case entryExpiry id => exact h.execEntryExpiry hx
  case linkExpiry l => exact h.execLinkExpiry hx
  case oscillatorStop => exact h.execOscillatorStop hx
  case mainPowerFail p => exact h.execMainPowerFail hx
  case powerOn low => exact h.execPowerOn hx
  case startUp => exact h.execStartUp hx
  case storeActionComplete => exact h.execStoreActionComplete hx
  case storeActionFailed left => exact h.execStoreActionFailed hx
  case answerTransmitted p => exact h.execAnswerTransmitted hx

end

/-- Settles O6: the invariant through every command, the queue of commands being no part of it. -/
theorem queuesSoundKept : Obligations.QueuesSoundKept := by
  intro s t h hx
  unfold step at hx
  split at hx
  · cases hx; exact h
  · next rest _ =>
    exact State.QueuesSound.exec (s := { s with pending := rest }) (h.same ⟨rfl, rfl, rfl, rfl, rfl, rfl, rfl⟩ rfl) hx

/-! ### The invariants at reset -/

theorem State.lanes_reset (l : LaneNo) : State.reset.lanes[l] = Lane.fresh := by
  simp [State.reset]

theorem State.ctx_reset (l : LaneNo) (c : CtxNo) : State.reset.ctx l c = Context.fresh := by
  rw [State.ctx, State.lanes_reset]
  simp [Lane.fresh]

theorem State.queuesSound_reset : State.reset.QueuesSound := by
  refine State.queuesSound_of_fresh (fun l => ?_) rfl rfl rfl rfl rfl rfl
  rw [State.lanes_reset]
  exact ⟨rfl, rfl, State.ctx_reset l⟩

/-- The slots are EMPTY, their records blank and no write is in progress. -/
theorem State.keysAt_reset (n : SlotNo) : State.reset.keysAt n = [] := by
  simp [State.keysAt, State.reset, Slot.fresh, Slot.data, Store.blank]

theorem State.alertsFollow_reset : State.reset.AlertsFollow := by
  refine ⟨fun l => ?_, by decide⟩
  rw [State.lanes_reset]
  decide

/-- Settles O3: nothing is in hand at reset, the tables are empty, and what speaks of loaded records speaks of none. -/
theorem invariantsHoldAtReset : Obligations.InvariantsHoldAtReset := by
  have hq := State.queuesSound_reset
  obtain ⟨-, -, hjob, hstart, hload⟩ := State.queuesSound_reset
  have hloaded : State.reset.loaded ≠ true := Bool.false_ne_true
  refine ⟨State.alertsFollow_reset, State.tableSound_of_free rfl fun l c => by rw [State.ctx_reset]; rfl, hq,
    ⟨.nil, fun _ => rfl⟩, ⟨hjob, hstart, fun hl => absurd hl hloaded⟩, hstart, hload, fun m n a ha => ?_,
    fun hl => absurd hl hloaded⟩
  rw [State.keysAt_reset] at ha
  cases ha

end Sys2Proof.Machine
end

section
/-! Proofs for the passage table (Chapter 2): look-up, put and remove on an ordered table (R36), the entry evicted from a
full one (R45), the classify call (R39 to R44), the release of a claim (R47) and the expiry of an entry (R54). -/

namespace Sys2Proof.Machine

/-! ### Look-up after a put and a remove (R36) -/

/-- In an ordered table the look-up finds the entry of the tag ID that stands in it. -/
theorem Table.Ordered.find_eq_some_iff {t : Table} (h : t.Ordered) {id : TagId} {e : Passage} :
    t.find id = some e ↔ e ∈ t.entries ∧ e.tagId = id := by
  refine ⟨Table.find_eq_some, fun ⟨hmem, hid⟩ => ?_⟩
  cases hf : t.find id with
  | none => exact absurd hid (Table.find_eq_none hf e hmem)
  | some x =>
    obtain ⟨hx, hxid⟩ := Table.find_eq_some hf
    rw [h.eq_of_tagId hx hmem (hxid.trans hid.symm)]

theorem Table.Ordered.put {t : Table} (h : t.Ordered) (e : Passage) : (t.put e).Ordered := putEntry_pairwise h e

theorem Table.Ordered.remove {t : Table} (h : t.Ordered) (id : TagId) : (t.remove id).Ordered := List.Pairwise.filter _ h

theorem Table.Ordered.find_put_same {t : Table} (h : t.Ordered) (e : Passage) : (t.put e).find e.tagId = some e :=
  (h.put e).find_eq_some_iff.mpr ⟨(mem_putEntry h e e).mpr (.inl rfl), rfl⟩

theorem Table.Ordered.find_put_other {t : Table} (h : t.Ordered) {e : Passage} {x : TagId} (hx : x ≠ e.tagId) :
    (t.put e).find x = t.find x := by
  refine Option.ext fun y => ?_
  rw [(h.put e).find_eq_some_iff, h.find_eq_some_iff, Table.put, mem_putEntry h]
  constructor
  · rintro ⟨rfl | ⟨hy, -⟩, rfl⟩
    · exact absurd rfl hx
    · exact ⟨hy, rfl⟩
  · rintro ⟨hy, rfl⟩
    exact ⟨.inr ⟨hy, hx⟩, rfl⟩

theorem Table.find_remove_same (t : Table) (id : TagId) : (t.remove id).find id = none := by
  simp [Table.find, Table.remove]

theorem Table.find_remove_other (t : Table) {id x : TagId} (hx : x ≠ id) : (t.remove id).find x = t.find x := by
  rw [Table.find, Table.find, Table.remove, List.find?_filter]
  congr 1
  funext e
  by_cases he : e.tagId = x
  · simp [he, hx]
  · simp [he]

/-- A put over an entry of the same tag ID leaves the number of entries. -/
theorem Table.Ordered.length_put_present {t : Table} (h : t.Ordered) {e : Passage}
    (hf : (t.find e.tagId).isSome = true) : (t.put e).entries.length = t.entries.length := by
  obtain ⟨x, hx⟩ := Option.isSome_iff_exists.mp hf
  obtain ⟨hmem, hid⟩ := Table.find_eq_some hx
  exact length_putEntry_of_mem h hmem hid

theorem length_putEntry_of_not_mem {xs : List Passage} {e : Passage} (h : ∀ x ∈ xs, x.tagId ≠ e.tagId) :
    (putEntry e xs).length = xs.length + 1 := by
  induction xs with
  | nil => rfl
  | cons y ys ih =>
    obtain ⟨hy, hys⟩ := List.forall_mem_cons.mp h
    rw [putEntry, if_neg hy.symm]
    split
    · rfl
    · rw [List.length_cons, ih hys, List.length_cons]

/-- A put of a tag ID the table does not hold adds one entry. -/
theorem Table.length_put_absent {t : Table} {e : Passage} (hf : t.find e.tagId = none) :
    (t.put e).entries.length = t.entries.length + 1 :=
  length_putEntry_of_not_mem (Table.find_eq_none hf)

/-! ### The entry evicted from a full table (R45) -/

/-- Nothing in a list betters its best element, when the comparison is a strict order. -/
theorem bestOf_not_bettered {α : Type} {better : α → α → Bool} (irrefl : ∀ a, better a a = false)
    (trans : ∀ a b c, better a b = true → better b c = true → better a c = true) {xs : List α} {a : α}
    (h : bestOf better xs = some a) : ∀ y ∈ xs, better y a = false := by
  induction xs using List.reverseRecOn generalizing a with
  | nil => simp
  | append_singleton xs x ih =>
    rw [bestOf_append] at h
    intro y hy
    rw [List.mem_append, List.mem_singleton] at hy
    cases hb : bestOf better xs with
    | none =>
      rw [(bestOf_eq_none better xs).mp hb] at hy
      rw [hb] at h
      obtain rfl := Option.some.inj h
      obtain hy | rfl := hy
      · cases hy
      · exact irrefl y
    | some b =>
      have hold := ih hb
      rw [hb] at h
      dsimp only at h
      split at h
      · next hx =>
        obtain rfl := Option.some.inj h
        obtain hy | rfl := hy
        · exact Bool.eq_false_iff.mpr fun hyx => Bool.eq_false_iff.mp (hold y hy) (trans _ _ _ hyx hx)
        · exact irrefl y
      · next hx =>
        obtain rfl := Option.some.inj h
        obtain hy | rfl := hy
        · exact hold y hy
        · exact Bool.eq_false_iff.mpr hx

/-- The evicted entry has the earliest expiry tick of the SEALED entries, and of those the lowest seal number. -/
theorem Table.evictee_earliest {t : Table} {v : Passage} (h : t.evictee = some v) :
    ∃ time tick number, v ∈ t.entries ∧ v.body = .sealed time tick number ∧
      ∀ e ∈ t.entries, ∀ time' tick' number', e.body = .sealed time' tick' number' →
        tick < tick' ∨ tick = tick' ∧ number ≤ number' := by
  obtain ⟨hmem, hown⟩ := Table.evictee_eq_some h
  unfold Table.evictee at h
  obtain ⟨⟨v', tick, number⟩, hbest, rfl⟩ := Option.map_eq_some_iff.mp h
  have hkey : v'.evictionKey = some (tick, number) := by
    obtain ⟨x, -, hx⟩ := List.mem_filterMap.mp (bestOf_mem _ _ _ hbest)
    obtain ⟨k, hk, heq⟩ := Option.map_eq_some_iff.mp hx
    cases heq
    exact hk
  have hleast := bestOf_not_bettered (by simp)
    (by simp only [Bool.or_eq_true, decide_eq_true_eq, Bool.and_eq_true, beq_iff_eq]; omega) hbest
  cases hv : v'.body with
  | claimed c p => simp [Passage.owner, hv] at hown
  | sealed time x n =>
    simp only [Passage.evictionKey, hv, Option.some.injEq, Prod.mk.injEq] at hkey
    obtain ⟨rfl, rfl⟩ := hkey
    refine ⟨time, x, n, hmem, rfl, fun e he time' tick' number' hb => ?_⟩
    have := hleast (e, tick', number') (List.mem_filterMap.mpr ⟨e, he, by simp [Passage.evictionKey, hb]⟩)
    simp only [Bool.or_eq_false_iff, decide_eq_false_iff_not, not_lt, Bool.and_eq_false_imp, beq_iff_eq] at this
    omega

/-- A table that holds a SEALED entry has one to evict. -/
theorem Table.evictee_of_sealed {t : Table} {e : Passage} {time : Seconds} {tick number : Nat} (he : e ∈ t.entries)
    (hb : e.body = .sealed time tick number) : ∃ v, t.evictee = some v := by
  refine Option.ne_none_iff_exists'.mp fun hnone => Table.evictee_eq_none hnone e he ?_
  rw [Passage.owner, hb]

theorem State.makeRoom_of_room {s : State} (h : s.table.entries.length < tableSize) : s.makeRoom = s :=
  if_neg (Nat.not_le.mpr h)

theorem State.makeRoom_of_full {s : State} {v : Passage} (h : tableSize ≤ s.table.entries.length)
    (hv : s.table.evictee = some v) :
    s.makeRoom = State.latch { s with table := s.table.remove v.tagId } .passageEvicted := by
  rw [State.makeRoom, if_pos h, hv]

/-- Settles O32: the best of a strict order is the least key, and a look-up in an ordered table is membership. -/
theorem evictionAndTableOperations : Obligations.EvictionAndTableOperations := by
  refine ⟨fun s => ⟨State.makeRoom_of_room, fun e time tick number hfull he hb => ?_⟩, fun t e id h => ?_⟩
  · obtain ⟨v, hv⟩ := Table.evictee_of_sealed he hb
    obtain ⟨time', tick', number', hmem, hvb, hleast⟩ := Table.evictee_earliest hv
    exact ⟨v, time', tick', number', hmem, hvb, hleast e he time tick number hb, State.makeRoom_of_full hfull hv⟩
  · exact ⟨h.put e, h.remove id, h.find_put_same e, t.find_remove_same id, fun _ => h.find_put_other,
      fun _ => t.find_remove_other, h.length_put_present, Table.length_put_absent⟩

/-! ### The classify call (R39 to R44) -/

/-- The counter difference modulo 65536 (R42), in natural numbers. -/
theorem toNat_counter_sub (k n : Counter) : (k - n).toNat = (k.toNat + 65536 - n.toNat) % 65536 := by
  rw [BitVec.toNat_sub]
  omega

theorem Passage.overlay_eq {e : Passage} {time : Seconds} {tick number : Nat} (hb : e.body = .sealed time tick number)
    (l : LaneNo) (c : CtxNo) (k : Counter) :
    e.overlay l c k =
      { tagId := e.tagId, lane := l, counter := k
        body := .claimed c
          (some { counter := e.counter, sealTime := time, expiry := tick, lane := e.lane, number := number }) } := by
  rw [Passage.overlay, hb]

section
variable {s : State} {l : LaneNo} {c : CtxNo} {id : TagId} {k : Counter} {strict : Bool} {e : Passage}

/-- A tag ID without an entry: a claim of the context's in the room made (R40). -/
theorem State.classify_absent (hf : s.table.find id = none) :
    s.classify l c id k strict =
      ({ s.makeRoom with
          table := s.makeRoom.table.put { tagId := id, lane := l, counter := k, body := .claimed c none } },
        { verdict := .new, owner := none, sealTime := none }) := by
  rw [State.classify, hf]

/-- A CLAIMED entry (R41). -/
theorem State.classify_claimed {oc : CtxNo} {p : Option SealedPart} (hf : s.table.find id = some e)
    (hb : e.body = .claimed oc p) :
    s.classify l c id k strict = (s, { verdict := .duplicate, owner := some e.lane, sealTime := none }) := by
  simp only [State.classify, hf, hb]

/-- A SEALED entry: the ranges of the counter difference in the order of R42 to R44. -/
theorem State.classify_sealed {time : Seconds} {tick number : Nat} (hf : s.table.find id = some e)
    (hb : e.body = .sealed time tick number) :
    s.classify l c id k strict =
      let d := (k.toNat + 65536 - e.counter.toNat) % 65536
      if d = 0 then (s, { verdict := .reread, owner := some e.lane, sealTime := some time })
      else if d = 65535 then (s, { verdict := .rereadUnwritten, owner := some e.lane, sealTime := some time })
      else if d ≤ 32767 then
        ({ s with table := s.table.put (e.overlay l c k) }, { verdict := .new, owner := none, sealTime := none })
      else if strict then (s.latch .suspectSeen, { verdict := .suspectHeld, owner := none, sealTime := none })
      else
        (State.latch { s with table := s.table.put (e.overlay l c k) } .suspectSeen,
          { verdict := .suspect, owner := none, sealTime := none }) := by
  simp only [State.classify, hf, hb, toNat_counter_sub]

end

/-- Settles O31: the three kinds of entry found, and for a SEALED one the four ranges of the difference. -/
theorem classifyFollowsTable : Obligations.ClassifyFollowsTable := by
  refine fun s l c id k strict =>
    ⟨State.classify_absent, fun e oc p => State.classify_claimed, fun e time tick number hf hb => ?_⟩
  obtain ⟨-, rfl⟩ := Table.find_eq_some hf
  rw [State.classify_sealed hf hb, Passage.overlay_eq hb]
  dsimp only
  generalize (k.toNat + 65536 - e.counter.toNat) % 65536 = d
  refine ⟨fun h => if_pos h, fun h => ?_, fun hlow hhigh => ?_, fun hlow hhigh => ?_⟩
  · rw [if_neg (by omega), if_pos h]
  · rw [if_neg (by omega), if_neg (by omega), if_pos hhigh]
  · rw [if_neg (by omega), if_neg (by omega), if_neg (by omega)]
    rfl

/-! ### The release call (R47) and ENTRY_EXPIRY (R54) -/

/-- A release changes the passage table only. -/
theorem State.releaseClaim_eq (s : State) (l : LaneNo) (c : CtxNo) :
    s.releaseClaim l c = { s with table := s.table.release s.now l c } := by
  rw [← State.releaseClaim_table]
  exact State.releaseClaim_frame s l c

section
variable {t : Table} {l : LaneNo} {c oc : CtxNo} {e : Passage} {now : Nat}

theorem Table.release_bare (h : t.claimOf l c = some e) (hb : e.body = .claimed oc none) :
    t.release now l c = t.remove e.tagId := by
  simp only [Table.release, h, hb]

/-- A claim with a previous part: that part stands again until its own expiry tick. -/
theorem Table.release_previous {p : SealedPart} (h : t.claimOf l c = some e) (hb : e.body = .claimed oc (some p)) :
    t.release now l c = if p.expiry ≤ now then t.remove e.tagId else t.put (p.restore e.tagId) := by
  simp only [Table.release, h, hb]

end

theorem exec_entryExpiry (id : TagId) (s : State) : exec (.entryExpiry id) s = execEntryExpiry id s := rfl

section
variable {s : State} {id : TagId} {e : Passage}

theorem execEntryExpiry_sealed {time : Seconds} {tick number : Nat} (hf : s.table.find id = some e)
    (hb : e.body = .sealed time tick number) :
    execEntryExpiry id s = if tick ≤ s.now then .next { s with table := s.table.remove id } else .next s := by
  simp only [execEntryExpiry, hf, hb]

theorem execEntryExpiry_claimed {c : CtxNo} {p : Option SealedPart} (hf : s.table.find id = some e)
    (hb : e.body = .claimed c p) : execEntryExpiry id s = .next s := by
  simp only [execEntryExpiry, hf, hb]

theorem execEntryExpiry_absent (hf : s.table.find id = none) : execEntryExpiry id s = .next s := by
  simp only [execEntryExpiry, hf]

end

/-- Settles O33: the claim with and without a previous part, and the entry found for an expiry, each on both sides of its tick. -/
theorem claimsReleasedAndEntriesExpire : Obligations.ClaimsReleasedAndEntriesExpire := by
  refine ⟨fun s l c e h => ⟨fun hb => ?_, fun p hb => ⟨fun hlt => ?_, fun hle => ?_⟩⟩, fun s id =>
    ⟨fun e time tick number hf hb hle => ?_, fun e time tick number hf hb hlt => ?_, fun e c p => ?_, ?_⟩⟩
  · rw [State.releaseClaim_eq, Table.release_bare h hb]
  · rw [State.releaseClaim_eq, Table.release_previous h hb, if_neg (show ¬ p.expiry ≤ s.now from Nat.not_le.mpr hlt)]
    rfl
  · rw [State.releaseClaim_eq, Table.release_previous h hb, if_pos (show p.expiry ≤ s.now from hle)]
  · rw [exec_entryExpiry, execEntryExpiry_sealed hf hb, if_pos (show tick ≤ s.now from hle)]
  · rw [exec_entryExpiry, execEntryExpiry_sealed hf hb, if_neg (show ¬ tick ≤ s.now from Nat.not_le.mpr hlt)]
  · exact execEntryExpiry_claimed
  · exact execEntryExpiry_absent

end Sys2Proof.Machine
end

section
/-! Proofs for the key slots: what the operations leave of the keys (R61, R63, R64). A slot's state only moves on, its key stands, the
records stand, and a store action that begins writes its slot's key. -/

namespace Sys2Proof.Machine

/-! ### A slot moves on (R63) -/

/-- The order in which an occupied slot runs through its states once its first write is done (R63); LOADING is before it. -/
def HeldState.age : HeldState → Nat
  | .loading _ => 0
  | .staged => 1
  | .active => 2
  | .expired => 3
  | .withdrawn => 4
  | .erasing => 5

/-- A slot stands as it was, or has moved on in the order of its states with its key. -/
def SlotBody.Onward (a b : SlotBody) : Prop :=
  b = a ∨ ∃ st st' d, a = .held st d ∧ b = .held st' d ∧ 0 < st.age ∧ st.age < st'.age

theorem SlotBody.Onward.refl (a : SlotBody) : a.Onward a := .inl rfl

theorem SlotBody.Onward.trans {a b c : SlotBody} (h : a.Onward b) (h' : b.Onward c) : a.Onward c := by
  obtain rfl | ⟨st, st', d, rfl, rfl, hpos, hlt⟩ := h
  · exact h'
  obtain rfl | ⟨st₁, st₂, d', heq, rfl, -, hlt'⟩ := h'
  · exact .inr ⟨st, st', d, rfl, rfl, hpos, hlt⟩
  · cases heq
    exact .inr ⟨st, st₂, d, rfl, rfl, hpos, hlt.trans hlt'⟩

/-- A held slot that moves on later in its order. -/
theorem SlotBody.Onward.held {st st' : HeldState} (d : KeyData) (hpos : 0 < st.age) (hlt : st.age < st'.age) :
    (SlotBody.held st d).Onward (.held st' d) := .inr ⟨st, st', d, rfl, rfl, hpos, hlt⟩

/-- The state shown is read from the body alone. -/
theorem Slot.state_of_body {sl : Slot} {x : SlotBody} (h : sl.body = x) : sl.state = Slot.state { body := x, refs := 0 } := by
  subst h
  rfl

section
variable {a b : Slot} (h : a.body.Onward b.body)
include h

/-- A slot that moves on keeps its key. -/
theorem Slot.data_of_onward : b.data = a.data := by
  obtain heq | ⟨st, st', d, ha, hb, -, -⟩ := h
  · rw [Slot.data, heq, Slot.data]
  · rw [Slot.data, hb, Slot.data, ha]

theorem Slot.loading_of_onward : b.state = .loading ↔ a.state = .loading := by
  obtain heq | ⟨st, st', d, ha, hb, hpos, hlt⟩ := h
  · rw [Slot.state, heq, Slot.state]
  · rw [Slot.state, hb, Slot.state, ha]
    cases st <;> cases st' <;> simp_all [HeldState.age]

theorem Slot.empty_of_onward : b.body = .empty ↔ a.body = .empty := by
  obtain heq | ⟨st, st', d, ha, hb, -, -⟩ := h
  · rw [heq]
  · rw [ha, hb]
    exact iff_of_false nofun nofun

/-- A held slot past its loading is still one. -/
theorem Slot.held_of_onward {st : HeldState} {d : KeyData} (ha : a.body = .held st d) (hst : ∀ x, st ≠ .loading x) :
    ∃ st', b.body = .held st' d ∧ ∀ x, st' ≠ .loading x := by
  obtain heq | ⟨st₁, st₂, d', ha', hb, -, hlt⟩ := h
  · exact ⟨st, heq.trans ha, hst⟩
  · rw [ha] at ha'
    cases ha'
    exact ⟨st₂, hb, fun x hx => by rw [hx] at hlt; exact absurd hlt (Nat.not_lt_zero _)⟩

/-- A slot that moves on shows a state that R63 allows later. -/
theorem Slot.forward_of_onward : SlotState.forward a.state b.state = true := by
  obtain heq | ⟨st, st', d, ha, hb, hpos, hlt⟩ := h
  · rw [Slot.state_of_body (sl := b) heq]
    change SlotState.forward a.state a.state = true
    cases a.state <;> rfl
  · rw [Slot.state_of_body ha, Slot.state_of_body hb]
    cases st <;> cases st' <;> simp_all [HeldState.age, SlotState.forward, Slot.state]

end

/-- A record's content holds its slot's key (R170). -/
theorem Slot.data_of_record {sl : Slot} {r : SlotRecord} (h : sl.record = some r) : sl.data = some r.data := by
  unfold Slot.record at h
  unfold Slot.data
  split at h
  case h_7 => cases h
  case h_8 => cases h
  all_goals
    next hb =>
      rw [hb]
      cases h
      rfl

/-! ### Slots, records and the action in progress -/

/-- Every slot stands or moves on. -/
def State.SlotsStand (s t : State) : Prop := ∀ n : SlotNo, s.slots[n].body.Onward t.slots[n].body

theorem State.SlotsStand.refl (s : State) : s.SlotsStand s := fun _ => .refl _

theorem State.SlotsStand.of_eq {s t : State} (h : t.slots = s.slots) : s.SlotsStand t := fun n => by
  rw [h]
  exact .refl _

theorem State.SlotsStand.trans {s t u : State} (h : s.SlotsStand t) (h' : t.SlotsStand u) : s.SlotsStand u :=
  fun n => (h n).trans (h' n)

theorem State.SlotsStand.loadingSlots {s t : State} (h : s.SlotsStand t) : t.loadingSlots = s.loadingSlots :=
  State.loadingSlots_eq fun n => Slot.loading_of_onward (h n)

/-- The slots stand or move on, the records stand, and an action is in progress as before or one that has begun, writing its
slot's key. -/
structure State.KeysStand (s t : State) : Prop where
  slots : s.SlotsStand t
  records : t.store.slots = s.store.slots
  action : t.store.action = s.store.action ∨
    s.store.action = none ∧ ∀ n r, t.store.action = some (.writeSlot n r) → t.slots[n].data = some r.data

theorem State.KeysStand.of_eq {s t : State} (hs : t.slots = s.slots) (hr : t.store.slots = s.store.slots)
    (ha : t.store.action = s.store.action) : s.KeysStand t := ⟨.of_eq hs, hr, .inl ha⟩

theorem State.KeysStand.trans {s t u : State} (h : s.KeysStand t) (h' : t.KeysStand u) : s.KeysStand u := by
  refine ⟨h.slots.trans h'.slots, h'.records.trans h.records, ?_⟩
  obtain heq | ⟨hnone, hnew⟩ := h.action <;> obtain heq' | ⟨hnone', hnew'⟩ := h'.action
  · exact .inl (heq'.trans heq)
  · exact .inr ⟨heq ▸ hnone', hnew'⟩
  · exact .inr ⟨hnone, fun n r hx => (Slot.data_of_onward (h'.slots n)).trans (hnew n r (heq' ▸ hx))⟩
  · exact .inr ⟨hnone, hnew'⟩

/-- A key of a slot stands in the slot, in its record, or in the write in progress. -/
theorem State.mem_keysAt {s : State} {n : SlotNo} {a : KeyData} :
    a ∈ s.keysAt n ↔ s.slots[n].data = some a ∨ (∃ r, s.store.slots[n] = .intact r ∧ a = r.data) ∨
      ∃ r, s.store.action = some (.writeSlot n r) ∧ a = r.data := by
  unfold State.keysAt
  rw [List.mem_append, List.mem_append, Option.mem_toList, or_assoc]
  refine or_congr Iff.rfl (or_congr ?_ ?_)
  · split
    · next r hr =>
      rw [List.mem_singleton, hr]
      exact ⟨fun hx => ⟨r, rfl, hx⟩, fun ⟨r', hr', hx⟩ => by cases hr'; exact hx⟩
    · next hno => exact iff_of_false List.not_mem_nil fun ⟨r, hr, _⟩ => hno r hr
  · split
    · next k r hr =>
      rw [hr]
      split
      · next hk =>
        subst hk
        rw [List.mem_singleton]
        exact ⟨fun hx => ⟨r, rfl, hx⟩, fun ⟨r', hr', hx⟩ => by cases hr'; exact hx⟩
      · next hk => exact iff_of_false List.not_mem_nil fun ⟨r', hr', _⟩ => hk (by cases hr'; rfl)
    · next hno => exact iff_of_false List.not_mem_nil fun ⟨r, hr, _⟩ => hno n r hr

/-- Keys that stand are apart as before. -/
theorem State.KeysApart.stand {s t : State} (h : s.KeysApart) (hk : s.KeysStand t) : t.KeysApart := by
  refine State.KeysApart_mono h fun n a ha => ?_
  rw [State.mem_keysAt] at ha ⊢
  have hdata := Slot.data_of_onward (hk.slots n)
  obtain ha | ⟨r, hr, rfl⟩ | ⟨r, hr, rfl⟩ := ha
  · exact .inl (hdata ▸ ha)
  · exact .inr (.inl ⟨r, hk.records ▸ hr, rfl⟩)
  · obtain heq | ⟨-, hnew⟩ := hk.action
    · exact .inr (.inr ⟨r, heq ▸ hr, rfl⟩)
    · exact .inl (hdata ▸ hnew n r hr)

theorem State.RecordsFollow.stand {s t : State} (h : s.RecordsFollow) (hk : s.KeysStand t) : t.RecordsFollow := by
  obtain ⟨hrec, hact⟩ := h
  refine ⟨fun n r hr => ?_, fun n r hr => ?_⟩
  · rw [hk.records] at hr
    obtain ⟨st, hb, hst⟩ := hrec n r hr
    exact Slot.held_of_onward (hk.slots n) hb hst
  · obtain heq | ⟨-, hnew⟩ := hk.action
    · rw [Slot.data_of_onward (hk.slots n)]
      exact hact n r (heq ▸ hr)
    · exact hnew n r hr

end Sys2Proof.Machine
end

section
/-! Proofs for the key slots: the operations on the lanes, the unit and the arbiter carry on what is in hand and let the keys stand
(R63, R68, R154). -/

namespace Sys2Proof.Machine

/-! ### What is carried on -/

/-- No job is in flight, no LOAD waits and every context is FREE (R7, R123, R154). -/
def State.Idle (s : State) : Prop :=
  s.kfu.job = none ∧ s.station.load = none ∧ ∀ (l : LaneNo) (c : CtxNo), (s.ctx l c).body = .free

/-- What a station request's place in the queue says of it, but for its answer: its kind, and whether it executes (R154). -/
def StationEntry.mark (e : StationEntry) : StationKind × Bool := (e.kind, e.executing)

/-- The keys stand, and the service state with them. -/
structure State.Stands (s t : State) : Prop where
  keys : s.KeysStand t
  service : t.service = s.service
  loaded : t.loaded = s.loaded

/-- The keys and the service state stand, and the station's queue but for the answers produced; the LOAD in hand is the same one,
waiting or in flight; and a module at rest in STARTING stays at rest. -/
structure State.Carries (s t : State) : Prop extends s.Stands t where
  queue : t.station.queue.map StationEntry.mark = s.station.queue.map StationEntry.mark
  requests : t.loadRequests = s.loadRequests
  idle : s.service = .starting → s.Idle → t.Idle

theorem State.Stands.trans {s t u : State} (h : s.Stands t) (h' : t.Stands u) : s.Stands u :=
  ⟨h.keys.trans h'.keys, h'.service.trans h.service, h'.loaded.trans h.loaded⟩

theorem Station.isExecuting_eq (st : Station) (k : StationKind) :
    st.isExecuting k = (st.queue.map StationEntry.mark).head?.any fun x => x.2 && x.1 == k := by
  unfold Station.isExecuting
  cases st.queue <;> rfl

theorem State.Carries.trans {s t u : State} (h : s.Carries t) (h' : t.Carries u) : s.Carries u where
  toStands := h.toStands.trans h'.toStands
  queue := h'.queue.trans h.queue
  requests := h'.requests.trans h.requests
  idle := fun hs hi => h'.idle (h.service.trans hs) (h.idle hs hi)

/-- Slots, store, unit and station as they were, and no FREE context taken. -/
theorem State.Carries.of_same {s t : State} (hslots : t.slots = s.slots) (hstore : t.store = s.store)
    (hservice : t.service = s.service) (hloaded : t.loaded = s.loaded) (hqueue : t.station.queue = s.station.queue)
    (hload : t.station.load = s.station.load) (hjob : t.kfu.job = s.kfu.job)
    (hfree : ∀ l c, (s.ctx l c).body = .free → (t.ctx l c).body = .free) : s.Carries t where
  keys := .of_eq hslots (by rw [hstore]) (by rw [hstore])
  service := hservice
  loaded := hloaded
  queue := by rw [hqueue]
  requests := State.loadRequests_congr hload hjob
  idle := fun _ ⟨hj, hl, hb⟩ => ⟨hjob.trans hj, hload.trans hl, fun l c => hfree l c (hb l c)⟩

/-- The lanes stand too. -/
theorem State.Carries.of_lanes {s t : State} (hlanes : t.lanes = s.lanes) (hslots : t.slots = s.slots)
    (hstore : t.store = s.store) (hservice : t.service = s.service) (hloaded : t.loaded = s.loaded)
    (hqueue : t.station.queue = s.station.queue) (hload : t.station.load = s.station.load)
    (hjob : t.kfu.job = s.kfu.job) : s.Carries t :=
  .of_same hslots hstore hservice hloaded hqueue hload hjob fun l c hf => by rwa [State.ctx_of_lanes hlanes]

/-- The keys alone move. -/
theorem State.Carries.of_keys {s t : State} (hk : s.KeysStand t) (hlanes : t.lanes = s.lanes) (hservice : t.service = s.service)
    (hloaded : t.loaded = s.loaded) (hstation : t.station = s.station) (hkfu : t.kfu = s.kfu) : s.Carries t where
  keys := hk
  service := hservice
  loaded := hloaded
  queue := by rw [hstation]
  requests := State.loadRequests_congr (by rw [hstation]) (by rw [hkfu])
  idle := fun _ ⟨hj, hl, hb⟩ => ⟨hkfu ▸ hj, hstation ▸ hl, fun l c => by rw [State.ctx_of_lanes hlanes]; exact hb l c⟩

theorem State.Carries.refl (s : State) : s.Carries s := .of_lanes rfl rfl rfl rfl rfl rfl rfl rfl

/-- A fold carries on what each of its steps does. -/
theorem State.Carries.foldl {α : Type} {f : State → α → State} (step : ∀ (s : State) (a : α), s.Carries (f s a)) (as : List α)
    (s : State) : s.Carries (as.foldl f s) :=
  foldl_keeps (P := s.Carries) (fun t a ht => ht.trans (step t a)) as s (.refl s)

theorem State.Carries.startSound {s t : State} (hc : s.Carries t) (h : s.StartSound) : t.StartSound := by
  obtain ⟨hloaded, hstart⟩ := h
  refine ⟨fun hl => hc.service.trans (hloaded (hc.loaded ▸ hl)), fun hs => ?_⟩
  have hs' : s.service = .starting := hc.service.symm.trans hs
  obtain ⟨hj, hq, hl, hf⟩ := hstart hs'
  obtain ⟨hj', hl', hf'⟩ := hc.idle hs' ⟨hj, hl, hf⟩
  exact ⟨hj', List.map_eq_nil_iff.mp (by rw [hc.queue, hq]; rfl), hl', hf'⟩

theorem State.Carries.loadingSlots {s t : State} (hc : s.Carries t) : t.loadingSlots = s.loadingSlots :=
  hc.keys.slots.loadingSlots

/-- No LOAD in hand: none after. -/
theorem State.Carries.noLoad {s t : State} (hc : s.Carries t) (h : s.NoLoad) : t.NoLoad :=
  ⟨hc.requests.trans h.1, hc.loadingSlots.trans h.2⟩

/-- What a LOAD in hand was checked against stands. -/
theorem State.LoadsFresh.stand {s t : State} (h : s.LoadsFresh) (hk : s.SlotsStand t)
    (hreq : t.loadRequests = s.loadRequests) : t.LoadsFresh := by
  intro q hq
  rw [hreq] at hq
  obtain ⟨hempty, hfresh⟩ := h q hq
  exact ⟨(Slot.empty_of_onward (hk q.slot)).mpr hempty, fun n d hd => hfresh n d (Slot.data_of_onward (hk n) ▸ hd)⟩

theorem State.Carries.generationsSound {s t : State} (hc : s.Carries t) (h : s.GenerationsSound) : t.GenerationsSound := by
  obtain ⟨hstart, hload, hapart, hrest⟩ := h
  refine ⟨hc.startSound hstart, ?_, hapart.stand hc.keys, fun hl => ?_⟩
  · simpa only [State.LoadSound, hc.loaded, hc.requests, hc.loadingSlots, Station.isExecuting_eq, hc.queue] using hload
  · obtain ⟨hfresh, hfollow⟩ := hrest (hc.loaded ▸ hl)
    exact ⟨hfresh.stand hc.keys.slots hc.requests, hfollow.stand hc.keys⟩

/-! ### Operations that leave the keys alone -/

variable (s : State)

theorem State.carries_onLane {s : State} {l : LaneNo} {f : Lane → Lane}
    (hf : ∀ c : CtxNo, s.lanes[l].contexts[c].body = .free → (f s.lanes[l]).contexts[c].body = .free) :
    s.Carries (s.onLane l f) := by
  refine .of_same rfl rfl rfl rfl rfl rfl rfl fun k c hc => ?_
  by_cases hk : k = l
  · subst hk
    rw [State.ctx, State.onLane_same]
    exact hf c hc
  · rwa [State.ctx, State.onLane_other s l k f hk]

/-- A lane replaced by one of the same contexts. -/
theorem State.carries_onLane_same {s : State} {l : LaneNo} {f : Lane → Lane}
    (hf : (f s.lanes[l]).contexts = s.lanes[l].contexts) : s.Carries (s.onLane l f) :=
  State.carries_onLane fun c hc => by rwa [hf]

theorem State.carries_onCtx {s : State} {l : LaneNo} {c : CtxNo} {f : Context → Context}
    (hf : (s.ctx l c).body = .free → (f (s.ctx l c)).body = .free) : s.Carries (s.onCtx l c f) := by
  refine .of_same rfl rfl rfl rfl rfl rfl rfl fun k d hd => ?_
  by_cases hkd : k = l ∧ d = c
  · obtain ⟨rfl, rfl⟩ := hkd
    rw [State.ctx_onCtx_same]
    exact hf hd
  · by_cases hk : k = l
    · subst hk
      rwa [State.ctx_onCtx_other _ _ _ _ _ fun hx => hkd ⟨rfl, hx⟩]
    · rwa [State.ctx_onCtx_lane _ _ _ _ _ _ hk]

theorem State.carries_latch (f : Flag) : s.Carries (s.latch f) := .of_lanes rfl rfl rfl rfl rfl rfl rfl rfl

theorem State.carries_setClock (k : Clock) : s.Carries { s with clock := k } := .of_lanes rfl rfl rfl rfl rfl rfl rfl rfl

theorem State.carries_setKfu {k : Kfu} (hk : k.job = s.kfu.job) : s.Carries { s with kfu := k } :=
  .of_lanes (t := { s with kfu := k }) rfl rfl rfl rfl rfl rfl rfl hk

theorem State.carries_driveAlerts : s.Carries s.driveAlerts :=
  .of_same (by simp) (by simp) (by simp) (by simp) (by simp) (by simp) (by simp) fun l c hc => by
    rw [State.ctx, State.driveAlerts_lane]
    exact hc

theorem State.carries_onPort (p : Port) (f : PortState → PortState) : s.Carries (s.onPort p f) := by
  cases p with
  | lane l => exact State.carries_onLane_same (f := fun ln => { ln with port := f ln.port }) rfl
  | station => exact .of_lanes rfl rfl rfl rfl rfl rfl rfl rfl

theorem State.carries_produce (p : Port) (a : Answer) : s.Carries (s.produce p a) := s.carries_onPort p _

theorem State.carries_answerWaiting (l : LaneNo) (pick : Entry → Bool) (r : Reply) : s.Carries (s.answerWaiting l pick r) := by
  rw [State.answerWaiting_eq]
  exact State.carries_onLane_same rfl

theorem State.carries_answerRunning (l : LaneNo) (c : CtxNo) (r : Reply) : s.Carries (s.answerRunning l c r) := by
  rw [State.answerRunning_eq]
  exact State.carries_onLane_same rfl

theorem State.carries_releaseClaim (l : LaneNo) (c : CtxNo) : s.Carries (s.releaseClaim l c) :=
  .of_lanes (by simp) (by simp) (by simp) (by simp) (by simp) (by simp) (by simp) (by simp)

theorem State.carries_sealClaim (l : LaneNo) (c : CtxNo) (k : Counter) (t : Seconds) : s.Carries (s.sealClaim l c k t) :=
  .of_lanes (by simp) (by simp) (by simp) (by simp) (by simp) (by simp) (by simp) (by simp)

theorem State.carries_classify (l : LaneNo) (c : CtxNo) (id : TagId) (k : Counter) (strict : Bool) :
    s.Carries (s.classify l c id k strict).1 := by
  rw [State.classify_frame]
  exact .of_lanes rfl rfl rfl rfl rfl rfl rfl rfl

/-! ### Store requests, references and evaluations -/

/-- An action that begins writes its slot's key (R173). -/
theorem State.data_of_actionOf {s : State} {q : StoreReq} {n : SlotNo} {r : SlotRecord} (h : s.actionOf q = .writeSlot n r) :
    s.slots[n].data = some r.data := by
  unfold State.actionOf at h
  split at h
  · split at h
    · next hr =>
      cases h
      exact Slot.data_of_record hr
    · cases h
  all_goals cases h

theorem State.keysStand_requestStore (q : StoreReq) : s.KeysStand (s.requestStore q) := by
  unfold State.requestStore
  split
  · exact .of_eq rfl rfl rfl
  · split
    · next hidle =>
      exact ⟨.of_eq rfl, rfl, .inr ⟨hidle.1, fun n r hr => State.data_of_actionOf (Option.some.inj hr)⟩⟩
    · exact .of_eq rfl rfl rfl

theorem State.carries_requestStore (q : StoreReq) : s.Carries (s.requestStore q) :=
  .of_keys (s.keysStand_requestStore q) (by simp) (by simp) (by simp) (by simp) (by simp)

theorem State.carries_beginNext : s.Carries s.beginNext := by
  refine .of_keys ?_ (by simp) (by simp) (by simp) (by simp) (by simp)
  unfold State.beginNext
  split
  · next hnone _ => exact ⟨.of_eq rfl, rfl, .inr ⟨hnone, fun n r hr => State.data_of_actionOf (Option.some.inj hr)⟩⟩
  · exact .of_eq rfl rfl rfl

theorem State.slotsStand_onSlot {s : State} {n : SlotNo} {f : Slot → Slot} (hf : s.slots[n].body.Onward (f s.slots[n]).body) :
    s.SlotsStand (s.onSlot n f) := by
  intro k
  by_cases hk : k = n
  · subst hk
    rw [State.onSlot_same]
    exact hf
  · rw [State.onSlot_other _ _ _ _ hk]
    exact .refl _

/-- One slot moves on. -/
theorem State.carries_onSlot {s : State} {n : SlotNo} {f : Slot → Slot} (hf : s.slots[n].body.Onward (f s.slots[n]).body) :
    s.Carries (s.onSlot n f) :=
  .of_keys ⟨State.slotsStand_onSlot hf, rfl, .inl rfl⟩ rfl rfl rfl rfl rfl

theorem State.carries_eraseIfUnused (n : SlotNo) : s.Carries (s.eraseIfUnused n) := by
  unfold State.eraseIfUnused
  split
  · next d hd =>
    split
    · refine (State.carries_onSlot ?_).trans (State.carries_requestStore _ _)
      rw [hd]
      exact .held d (by decide) (by decide)
    · exact .refl s
  · exact .refl s

theorem State.carries_reference (n : SlotNo) : s.Carries (s.reference n) := State.carries_onSlot (.refl _)

theorem State.carries_release (n : SlotNo) : s.Carries (s.release n) :=
  (State.carries_onSlot (.refl _)).trans (State.carries_eraseIfUnused _ n)

/-- An evaluation moves STAGED and ACTIVE slots on (R72). -/
theorem Slot.onward_evaluated (sl : Slot) (sec : Seconds) : sl.body.Onward (sl.evaluated sec).body := by
  unfold Slot.evaluated
  split
  · next hb =>
    split
    · rw [hb]
      split
      · exact .held _ (by decide) (by decide)
      · exact .held _ (by decide) (by decide)
    · exact .refl _
  · next hb =>
    split
    · rw [hb]
      exact .held _ (by decide) (by decide)
    · exact .refl _
  · exact .refl _

theorem State.carries_evaluate : s.Carries s.evaluate := by
  have hslots : s.Carries s.evaluateSlots := by
    refine .of_keys ⟨fun n => ?_, by simp, .inl (by simp)⟩ (by simp) (by simp) (by simp) (by simp) (by simp)
    rw [show s.evaluateSlots.slots[n] = s.slots[n].evaluated s.clock.seconds by simp]
    exact Slot.onward_evaluated _ _
  have hwrites := hslots.trans (State.Carries.foldl (fun t n => t.carries_requestStore (.writeSlot n)) s.evaluationChanges _)
  unfold State.evaluate
  split
  · dsimp only
    split
    · exact hwrites.trans (State.carries_latch _ _)
    · exact hwrites
  · exact .refl s

/-! ### Endings (R5, R6, R29, R30, R32, R34) -/

theorem State.carries_freeContext (l : LaneNo) (c : CtxNo) (cause : EndCause) : s.Carries (s.freeContext l c cause) := by
  refine .of_same (by simp) (by simp) (by simp) (by simp) (by simp) (by simp) (by simp) fun k d hd => ?_
  rw [State.ctx_freeContext]
  by_cases hkd : k = l ∧ d = c
  · obtain ⟨rfl, rfl⟩ := hkd
    rw [State.ctx_onCtx_same]
  · rwa [State.ctx_onCtx_ne _ _ hkd]

theorem State.carries_endContext (l : LaneNo) (c : CtxNo) (cause : EndCause) : s.Carries (s.endContext l c cause) := by
  have hend (t : State) (ht : s.Carries t) :
      s.Carries ((if (s.ctx l c).body.hasClaim then t.releaseClaim l c else t).freeContext l c cause) := by
    refine ht.trans (State.Carries.trans ?_ (State.carries_freeContext _ l c cause))
    split
    · exact t.carries_releaseClaim l c
    · exact .refl t
  unfold State.endContext
  dsimp only
  cases (s.ctx l c).body.master with
  | none => exact hend s (.refl s)
  | some n => exact hend _ (s.carries_release n)

theorem State.carries_recordPending (l : LaneNo) (c : CtxNo) (p : PendingEnd) : s.Carries (s.recordPending l c p) :=
  State.carries_onCtx id

theorem State.carries_clearMark (l : LaneNo) (c : CtxNo) : s.Carries (s.clearMark l c) := State.carries_onCtx id

theorem State.carries_reachEnd (l : LaneNo) (c : CtxNo) (p : PendingEnd) : s.Carries (s.reachEnd l c p) := by
  unfold State.reachEnd
  split
  · exact .refl s
  · split
    · exact s.carries_recordPending l c p
    · exact s.carries_endContext l c p.cause

theorem State.carries_applyPending (l : LaneNo) (c : CtxNo) : s.Carries (s.applyPending l c) := by
  unfold State.applyPending
  split
  · exact .refl s
  · split
    · exact .refl s
    · exact s.carries_endContext l c _

theorem State.carries_resetContexts (l : LaneNo) : s.Carries (s.resetContexts l) :=
  .foldl (fun t c => t.carries_reachEnd l c _) _ s

theorem State.carries_addServiceChanged (l : LaneNo) : s.Carries (s.addServiceChanged l) := State.carries_onLane_same rfl

/-- Every waiting entry of a lane is answered and every context of it is reached (R30, R34). -/
theorem State.carries_emptied (l : LaneNo) (r : Reply) :
    s.Carries (((s.answerWaiting l (fun _ => true) r).resetContexts l).addServiceChanged l) :=
  ((s.carries_answerWaiting l _ r).trans (State.carries_resetContexts _ l)).trans (State.carries_addServiceChanged _ l)

theorem State.carries_linkDown (l : LaneNo) : s.Carries (s.linkDown l) :=
  (State.Carries.trans (State.carries_onLane_same (f := Lane.cleared) rfl) (State.carries_resetContexts _ l)).trans
    (State.carries_latch _ _)

theorem State.carries_withdrawContext (n : SlotNo) (l : LaneNo) (c : CtxNo) : s.Carries (s.withdrawContext n l c) := by
  unfold State.withdrawContext
  split
  · split
    · exact s.carries_endContext l c _
    · exact .refl s
  · split
    · exact s.carries_recordPending l c _
    · exact .refl s
  · split
    · exact s.carries_endContext l c _
    · exact .refl s
  · exact .refl s

theorem State.carries_withdrawMaster (n : SlotNo) : s.Carries (s.withdrawMaster n) :=
  .foldl (fun t l => (t.carries_answerWaiting l _ _).trans (.foldl (fun u c => u.carries_withdrawContext n l c) _ _)) _ s

/-! ### Notices and signing (R26, R78, R157) -/

theorem State.carries_serviceChangedAll : s.Carries s.serviceChangedAll :=
  .foldl (fun t l => t.carries_addServiceChanged l) _ s

theorem State.carries_reformSigning : s.Carries s.reformSigning := by
  unfold State.reformSigning
  split
  · exact .refl s
  · refine State.Carries.trans (t := { s with signing := s.formSigning }) (.of_lanes rfl rfl rfl rfl rfl rfl rfl rfl) ?_
    refine .foldl (fun t l => ?_) _ _
    split
    · exact State.carries_onLane_same rfl
    · exact .refl t

/-- A mark cleared leaves every context's state. -/
theorem State.body_clearMark (l k : LaneNo) (c d : CtxNo) : ((s.clearMark l c).ctx k d).body = (s.ctx k d).body := by
  by_cases hkd : k = l ∧ d = c
  · obtain ⟨rfl, rfl⟩ := hkd
    rw [State.clearMark, State.ctx_onCtx_same]
  · rw [State.clearMark, State.ctx_onCtx_ne _ _ hkd]

/-! ### Jobs (R15, R17, R20, R21, R115, R119) -/

theorem State.carries_discardEntry (l : LaneNo) (e : Entry) : s.Carries (s.discardEntry l e) := State.carries_onLane_same rfl

/-- A lane job goes in flight for a context that is not FREE. -/
theorem State.carries_run {s : State} {l : LaneNo} {e : Entry} {j : Job} (hfree : s.kfu.job = none)
    (ho : j.origin = some (l, e.ctx)) (hb : (s.ctx l e.ctx).body ≠ .free) : s.Carries ((s.setRunning l e).setJob j) where
  keys := .of_eq rfl rfl rfl
  service := rfl
  loaded := rfl
  queue := rfl
  requests := by
    rw [State.loadRequests_lane (s := (s.setRunning l e).setJob j) rfl (by rw [ho]; exact nofun), State.loadRequests_free hfree]
    rfl
  idle := fun _ hi => absurd (hi.2.2 l e.ctx) hb

theorem State.carries_startEntry {s : State} (hfree : s.kfu.job = none) (l : LaneNo) (e : Entry) :
    s.Carries (s.startEntry l e) := by
  have hans (code : Code) : s.Carries (s.answerAtStart l e code) := s.carries_answerWaiting l _ _
  unfold State.startEntry
  split
  · unfold State.startOpen
    split
    · next hb =>
      split
      · exact State.carries_run hfree rfl (by rw [hb]; exact nofun)
      · exact (hans _).trans (State.carries_endContext _ l e.ctx _)
      · exact (hans _).trans (State.carries_endContext _ l e.ctx _)
    · exact s.carries_discardEntry l e
  · unfold State.startProve
    split
    · next hb => exact State.carries_run hfree rfl (by rw [hb]; exact nofun)
    · exact s.carries_discardEntry l e
  · unfold State.startSeal
    split
    · next o p v hb =>
      split
      · refine (hans _).trans (State.carries_onCtx fun hf => ?_)
        rw [State.answerAtStart, State.ctx_answerWaiting, hb] at hf
        cases hf
      · next g _ =>
        have hrun := (s.carries_reference g.slot).trans (State.carries_run (s := s.reference g.slot) (l := l) (e := e)
          (j := .sealJob l e.ctx g.slot g.key g.generation g.holdover ‹_› ‹_›) hfree rfl
          (by rw [State.ctx_reference, hb]; exact nofun))
        dsimp only
        split
        · exact hrun.trans (State.carries_latch _ _)
        · exact hrun
    · exact s.carries_discardEntry l e

/-- The LOAD that waited goes in flight. -/
theorem State.carries_startLoad {s : State} {req : LoadReq} {queued : Nat} (hload : s.station.load = some (req, queued))
    (hfree : s.kfu.job = none) (key : Block) :
    s.Carries (State.setJob { s with station := { s.station with load := none } } (.loadJob req key)) where
  keys := .of_eq rfl rfl rfl
  service := rfl
  loaded := rfl
  queue := rfl
  requests := by
    rw [State.loadRequests_free hfree, hload]
    rfl
  idle := fun _ hi => by
    rw [hi.2.1] at hload
    cases hload

theorem State.carries_startChoice {s : State} {ch : Choice} (hch : ch.Present s) (hfree : s.kfu.job = none) :
    s.Carries (s.startChoice ch) := by
  have hmoved (k : Kfu) (hk : k.job = s.kfu.job) (l : LaneNo) (e : Entry) :
      s.Carries (State.startEntry { s with kfu := k } l e) :=
    (s.carries_setKfu hk).trans
      (State.carries_startEntry (s := { s with kfu := k }) (hk.trans hfree) l e)
  cases ch with
  | step l e => exact hmoved { s.kfu with stepPointer := movedPointer s.config.items.mode s.kfu.stepPointer l } rfl l e
  | admitting l e => exact hmoved { s.kfu with admitPointer := movedPointer s.config.items.mode s.kfu.admitPointer l } rfl l e
  | load req =>
    obtain ⟨queued, hload⟩ := hch
    exact State.carries_startLoad hload hfree _

theorem State.carries_arbitrate : s.Carries s.arbitrate := by
  unfold State.arbitrate
  generalize s.waitingCount + 1 = n
  induction n generalizing s with
  | zero => exact .refl s
  | succ n ih =>
    unfold State.arbitrateFor
    split
    · exact .refl s
    · next hjob =>
      split
      · exact .refl s
      · next ch hch =>
        exact (State.carries_startChoice (State.choose_present hch) (Option.not_isSome_iff_eq_none.mp hjob)).trans (ih _)

/-- A lane job leaves the unit. -/
theorem State.carries_freeUnit {s : State} {j : Job} (hj : s.kfu.job = some j) (ho : j.origin ≠ none) :
    s.Carries s.freeUnit where
  keys := .of_eq rfl rfl rfl
  service := rfl
  loaded := rfl
  queue := rfl
  requests := by
    rw [State.loadRequests_lane hj ho, State.loadRequests_free (s := s.freeUnit) rfl]
    rfl
  idle := fun _ hi => ⟨rfl, hi.2⟩

theorem State.carries_advanceSequence : s.Carries s.advanceSequence := by
  unfold State.advanceSequence
  split
  · exact .of_lanes rfl rfl rfl rfl rfl rfl rfl rfl
  · split
    · exact .of_lanes rfl rfl rfl rfl rfl rfl rfl rfl
    · dsimp only
      refine State.Carries.trans ?_ (State.carries_requestStore _ _)
      exact .of_lanes rfl rfl rfl rfl rfl rfl rfl rfl

theorem State.carries_applyOpen (l : LaneNo) (c : CtxNo) (key : Block) (ch : Mac) : s.Carries (s.applyOpen l c key ch) := by
  unfold State.applyOpen
  split
  · next o m hb =>
    refine ((s.carries_clearMark l c).trans (State.carries_onCtx fun hf => ?_)).trans
      ((State.carries_answerRunning _ l c _).trans (State.carries_applyPending _ l c))
    rw [State.body_clearMark, hb] at hf
    cases hf
  · exact .refl s

theorem State.carries_applyMatch {s : State} {l : LaneNo} {c : CtxNo} (hb : (s.ctx l c).body ≠ .free) (o : Occupancy)
    (p : TagProof) : s.Carries (s.applyMatch l c o p) := by
  have hans (r : Reply) : s.Carries ((s.classify l c o.tagId o.counter o.strict).1.answerRunning l c r) :=
    (s.carries_classify l c _ _ _).trans (State.carries_answerRunning _ l c r)
  unfold State.applyMatch
  dsimp only
  split
  · refine (hans _).trans ((State.carries_onCtx fun hf => ?_).trans (State.carries_applyPending _ l c))
    rw [State.ctx_answerRunning, State.ctx_classify] at hf
    exact absurd hf hb
  · exact (hans _).trans (State.carries_freeContext _ l c _)

theorem State.carries_applyProve (l : LaneNo) (c : CtxNo) (same : Bool) : s.Carries (s.applyProve l c same) := by
  unfold State.applyProve
  split
  · next o m p hb =>
    have hbase : s.Carries ((s.clearMark l c).release m) :=
      (s.carries_clearMark l c).trans (State.carries_release _ m)
    dsimp only
    split
    · refine hbase.trans (State.carries_applyMatch ?_ o p)
      rw [State.ctx_release, State.body_clearMark, hb]
      exact nofun
    · exact hbase.trans ((State.carries_answerRunning _ l c _).trans (State.carries_freeContext _ l c _))
  · exact .refl s

theorem State.carries_applySeal (l : LaneNo) (c : CtxNo) (n : SlotNo) (key : Block) (g : Gen) (holdover : Bool)
    (cls : BitVec 4) (ref : BitVec 16) : s.Carries (s.applySeal l c n key g holdover cls ref) := by
  unfold State.applySeal
  split
  · exact State.Carries.trans (((s.carries_sealClaim l c _ _).trans (State.carries_release _ n)).trans
      (State.carries_clearMark _ l c))
      ((State.carries_freeContext _ l c _).trans (State.carries_answerRunning _ l c _))
  · exact .refl s

end Sys2Proof.Machine
end

section
/-! Proofs for the key slots: the lane requests carry on what is in hand, and so does every execution of a station request but that of a
LOAD_KEY that passes its checks, which is then the one in hand (R68, R154, R156). -/

namespace Sys2Proof.Machine

/-! ### The lane requests (R11 to R14, R16, R19, R22, R27) -/

section
variable (s : State)

/-- Outside STARTING a context may be taken. -/
theorem State.carries_take {s : State} (hs : s.service ≠ .starting) (l : LaneNo) (c : CtxNo) (f : Context → Context) :
    s.Carries (s.onCtx l c f) :=
  ⟨⟨.of_eq rfl rfl rfl, rfl, rfl⟩, rfl, rfl, fun hx => absurd hx hs⟩

theorem State.carries_appendEntry (l : LaneNo) (req : LaneReq) (tag : Byte) (c : CtxNo) :
    s.Carries (s.appendEntry l req tag c) := State.carries_onLane_same rfl

theorem State.carries_openRequest (l : LaneNo) (tag : Byte) (body : List Byte) : s.Carries (s.openRequest l tag body) := by
  have hrefuse (c : Code) : s.Carries (s.laneReply l LaneKind.openReq.code tag (.code c)) := s.carries_produce _ _
  unfold State.openRequest
  split
  · exact hrefuse _
  next hcheck =>
  have hs : s.service ≠ .starting := fun hx => by
    rw [State.openServiceCheck, if_pos hx] at hcheck
    cases hcheck
  split
  · exact hrefuse _
  split
  · exact hrefuse _
  split
  · exact hrefuse _
  split
  · exact hrefuse _
  · exact ((State.carries_take hs l _ _).trans ((State.carries_reference _ _).trans (State.carries_appendEntry _ l _ _ _))).trans
      (State.carries_arbitrate _)

theorem State.carries_proveRequest (l : LaneNo) (tag : Byte) (body : List Byte) : s.Carries (s.proveRequest l tag body) := by
  have hrefuse (c : Code) : s.Carries (s.laneReply l LaneKind.proveReq.code tag (.code c)) := s.carries_produce _ _
  unfold State.proveRequest
  split
  · exact hrefuse _
  next hcheck =>
  split
  · exact hrefuse _
  split
  · exact hrefuse _
  split
  · exact hrefuse _
  split
  · exact ((State.carries_take (State.not_starting_of_laneServiceCheck hcheck) l _ _).trans
      (State.carries_appendEntry _ l _ _ _)).trans (State.carries_arbitrate _)
  · exact .refl s

theorem State.carries_sealRequest (l : LaneNo) (tag : Byte) (body : List Byte) : s.Carries (s.sealRequest l tag body) := by
  have hrefuse (c : Code) : s.Carries (s.laneReply l LaneKind.sealReq.code tag (.code c)) := s.carries_produce _ _
  unfold State.sealRequest
  split
  · exact hrefuse _
  next hcheck =>
  split
  · exact hrefuse _
  split
  · exact hrefuse _
  split
  · exact hrefuse _
  split
  · exact ((State.carries_take (State.not_starting_of_laneServiceCheck hcheck) l _ _).trans
      (State.carries_appendEntry _ l _ _ _)).trans (State.carries_arbitrate _)
  · exact .refl s

theorem State.carries_removeAndEnd (l : LaneNo) (c : CtxNo) (p : PendingEnd) (code : Code) :
    s.Carries (s.removeAndEnd l c p code) :=
  (s.carries_answerWaiting l _ _).trans (State.carries_reachEnd _ l c p)

theorem State.carries_dropRequest (l : LaneNo) (tag : Byte) (body : List Byte) : s.Carries (s.dropRequest l tag body) := by
  have hreply (t : State) (c : Code) : t.Carries (t.laneReply l LaneKind.dropReq.code tag (.code c)) := t.carries_produce _ _
  unfold State.dropRequest
  dsimp only
  split
  · exact hreply s _
  split
  · exact hreply s _
  split
  · exact hreply s _
  · exact (s.carries_removeAndEnd l _ _ _).trans (hreply _ _)

theorem State.carries_pollRequest (l : LaneNo) (tag : Byte) (body : List Byte) : s.Carries (s.pollRequest l tag body) := by
  have hreply (t : State) (r : Reply) : t.Carries (t.laneReply l LaneKind.pollReq.code tag r) := t.carries_produce _ _
  unfold State.pollRequest
  dsimp only
  split
  · exact hreply s _
  split
  · exact hreply s _
  · exact State.Carries.trans (State.carries_onLane_same (f := fun ln => { ln with notices := ln.notices.take.2 }) rfl)
      (hreply _ _)

theorem State.carries_handLane (l : LaneNo) (f : Frame) : s.Carries (s.handLane l f) := by
  unfold State.handLane
  split
  · exact s.carries_produce _ _
  split
  · exact s.carries_produce _ _
  · exact s.carries_openRequest l _ _
  · exact s.carries_proveRequest l _ _
  · exact s.carries_sealRequest l _ _
  · exact s.carries_dropRequest l _ _
  · exact s.carries_pollRequest l _ _

theorem State.carries_laneFrame (l : LaneNo) {deal : State → State} (hd : ∀ t : State, t.Carries (deal t)) :
    s.Carries (s.laneFrame l deal) := by
  have harr : s.Carries (s.laneFrameArrives l) := State.carries_onLane_same rfl
  unfold State.laneFrame
  dsimp only
  split
  · exact harr.trans (State.carries_latch _ _)
  · exact harr.trans (hd _)

/-! ### The executions (R156) -/

theorem State.carries_withdraw {s : State} {n : SlotNo} {st : HeldState} {d : KeyData} (hb : s.slots[n].body = .held st d)
    (hpos : 0 < st.age) (hlt : st.age < 4) : s.Carries (s.withdraw n d) := by
  have hslot : s.Carries (s.onSlot n fun sl => { sl with body := .held .withdrawn d }) := by
    refine State.carries_onSlot ?_
    rw [hb]
    exact .held d hpos hlt
  unfold State.withdraw
  dsimp only
  refine (hslot.trans (State.carries_requestStore _ (.writeSlot n))).trans (State.Carries.trans ?_
    ((State.carries_eraseIfUnused _ n).trans (State.carries_reformSigning _)))
  split
  · exact State.carries_withdrawMaster _ n
  · exact .refl _

theorem State.carries_applyEnabled (l : LaneNo) (before after : Bool) : s.Carries (s.applyEnabled l before after) := by
  unfold State.applyEnabled
  split
  · exact .refl s
  · split
    · exact s.carries_addServiceChanged l
    · exact s.carries_emptied l _

theorem State.carries_applyTimeout (l : LaneNo) (timeout : BitVec 16) : s.Carries (s.applyTimeout l timeout) := by
  unfold State.applyTimeout
  split
  · have htime : s.Carries (s.onLane l fun ln => { ln with
        linkDeadline := if timeout = 0 then none else some (s.lastFrameTick l + ticksOf timeout) }) :=
      State.carries_onLane_same rfl
    dsimp only
    generalize s.onLane l _ = t at htime ⊢
    split
    · exact htime.trans (t.carries_linkDown l)
    · exact htime
  · exact .refl s

theorem State.carries_runSetLane (body : List Byte) : s.Carries (s.runSetLane body).1 := by
  unfold State.runSetLane
  split
  · exact .refl s
  · exact State.Carries.trans (t := s.setSettings _ _) (.of_lanes rfl rfl rfl rfl rfl rfl rfl rfl)
      ((State.carries_applyEnabled _ _ _ _).trans (State.carries_applyTimeout _ _ _))

theorem State.carries_runSetConfig (body : List Byte) : s.Carries (s.runSetConfig body).1 := by
  unfold State.runSetConfig
  split
  · exact .refl s
  · next a _ =>
    have hset : s.Carries { s with config := { s.config with items := a.items } } := .of_lanes rfl rfl rfl rfl rfl rfl rfl rfl
    dsimp only
    split
    · exact hset
    · exact hset.trans (State.carries_reformSigning _)

theorem State.carries_runSaveConfig (body : List Byte) : s.Carries (s.runSaveConfig body).1 := by
  unfold State.runSaveConfig
  split
  · exact .refl s
  · exact s.carries_requestStore _

theorem State.carries_runReseed (body : List Byte) : s.Carries (s.runReseed body).1 := by
  unfold State.runReseed
  split
  · exact .refl s
  · split
    · exact .refl s
    · exact s.carries_requestStore _

/-- The RESET produces its answer and stays in the queue (R169). -/
theorem State.carries_runReset (tag : Byte) (body : List Byte) : s.Carries (s.runReset tag body).1 := by
  unfold State.runReset
  split
  · exact .refl s
  · dsimp only
    refine State.Carries.trans ?_ (State.carries_produce _ _ _)
    refine ⟨⟨.of_eq rfl rfl rfl, rfl, rfl⟩, ?_, rfl, fun _ hi => hi⟩
    rw [List.map_map]
    refine List.map_congr_left fun e _ => ?_
    rw [Function.comp_apply]
    split <;> rfl

theorem State.carries_runWithdrawKey (body : List Byte) : s.Carries (s.runWithdrawKey body).1 := by
  unfold State.runWithdrawKey
  split
  · exact .refl s
  split
  · exact .refl s
  split
  case h_5 _ st d hload hwith heras hb =>
    cases st with
    | loading x => exact absurd rfl (hload x)
    | withdrawn => exact absurd rfl hwith
    | erasing => exact absurd rfl heras
    | staged => exact State.carries_withdraw hb (by decide) (by decide)
    | active => exact State.carries_withdraw hb (by decide) (by decide)
    | expired => exact State.carries_withdraw hb (by decide) (by decide)
  all_goals exact .refl s

theorem State.carries_runListSlot (body : List Byte) : s.Carries (s.runListSlot body).1 := by
  unfold State.runListSlot
  split
  · exact .refl s
  · split <;> exact .refl s

theorem State.carries_runSetRoute (body : List Byte) : s.Carries (s.runSetRoute body).1 := by
  unfold State.runSetRoute
  split
  · exact .refl s
  · split
    · exact .refl s
    · exact .of_lanes rfl rfl rfl rfl rfl rfl rfl rfl

theorem State.carries_runClearRoute (body : List Byte) : s.Carries (s.runClearRoute body).1 := by
  unfold State.runClearRoute
  split
  · exact .refl s
  · split
    · exact .refl s
    · exact .of_lanes rfl rfl rfl rfl rfl rfl rfl rfl

theorem State.carries_runQueryPassage (body : List Byte) : s.Carries (s.runQueryPassage body).1 := by
  unfold State.runQueryPassage
  split <;> exact .refl s

theorem State.carries_runSetTime (body : List Byte) : s.Carries (s.runSetTime body).1 := by
  unfold State.runSetTime
  split
  · exact .refl s
  · exact (s.carries_setClock _).trans ((State.carries_evaluate _).trans (State.carries_reformSigning _))

theorem State.carries_runSetTrim (body : List Byte) : s.Carries (s.runSetTrim body).1 := by
  unfold State.runSetTrim
  split
  · exact .refl s
  · exact s.carries_setClock _

theorem State.carries_runReadTime (body : List Byte) : s.Carries (s.runReadTime body).1 := by
  unfold State.runReadTime
  split <;> exact .refl s

/-- The LOAD job of a request that has passed its checks, for a slot. -/
def LoadArgs.request (a : LoadArgs) (n : SlotNo) : LoadReq :=
  { slot := n, issuer := a.issuer, role := a.role, generation := a.generation, activation := a.activation, expiry := a.expiry
    wrapped := a.wrapped, check := a.check }

/-- A LOAD job waits from the present tick (R114). -/
def State.withLoad (s : State) (q : LoadReq) : State := { s with station := { s.station with load := some (q, s.now) } }

/-- A LOAD_KEY is refused, or its job waits and the arbiter looks (R67, R68). -/
theorem State.runLoadKey_cases (body : List Byte) :
    s.Carries (s.runLoadKey body).1 ∨ ∃ n a, s.loadCheck n a = none ∧
      s.runLoadKey body = ((s.withLoad (a.request n)).arbitrate, none) := by
  unfold State.runLoadKey
  split
  · exact .inl (.refl s)
  split
  · exact .inl (.refl s)
  split
  · exact .inl (.refl s)
  · next hcheck => exact .inr ⟨_, _, hcheck, rfl⟩

/-- What the execution of a station request does: it carries on what is in hand, or brings in a LOAD_KEY (R156). -/
theorem State.execute_cases (e : StationEntry) :
    s.Carries (s.execute e).1 ∨ e.kind = .loadKey ∧ ∃ n a, s.loadCheck n a = none ∧
      s.execute e = ((s.withLoad (a.request n)).arbitrate, none) := by
  unfold State.execute
  split
  case h_1 => exact .inl (s.carries_runSetLane _)
  case h_2 => exact .inl (s.carries_runSetConfig _)
  case h_3 => exact .inl (s.carries_runSaveConfig _)
  case h_4 => exact .inl (s.carries_runReseed _)
  case h_5 => exact .inl (s.carries_runReset _ _)
  case h_6 hk => exact (s.runLoadKey_cases _).imp_right fun hx => ⟨hk, hx⟩
  case h_7 => exact .inl (s.carries_runWithdrawKey _)
  case h_8 => exact .inl (s.carries_runListSlot _)
  case h_9 => exact .inl (s.carries_runSetRoute _)
  case h_10 => exact .inl (s.carries_runClearRoute _)
  case h_11 => exact .inl (s.carries_runQueryPassage _)
  case h_12 => exact .inl (s.carries_runSetTime _)
  case h_13 => exact .inl (s.carries_runSetTrim _)
  case h_14 => exact .inl (s.carries_runReadTime _)

/-! ### The queue runs (R154, R155, R156) -/

theorem State.Stands.refl (s : State) : s.Stands s := (State.Carries.refl s).toStands

/-- The station alone changes: the keys and the service state stand. -/
theorem State.stands_setStation (st : Station) : s.Stands { s with station := st } := ⟨.of_eq rfl rfl rfl, rfl, rfl⟩

theorem State.stands_execute (e : StationEntry) : s.Stands (s.execute e).1 := by
  obtain hc | ⟨-, n, a, -, hx⟩ := s.execute_cases e
  · exact hc.toStands
  · rw [hx]
    exact (s.stands_setStation _).trans (State.carries_arbitrate _).toStands

theorem State.stands_answerExecuting (r : Reply) : s.Stands (s.answerExecuting r) := by
  unfold State.answerExecuting
  split
  · exact .refl s
  · exact (s.stands_setStation _).trans (State.carries_produce _ _ _).toStands

theorem State.stands_runStationFor (n : Nat) : s.Stands (s.runStationFor n) := by
  induction n generalizing s with
  | zero => exact .refl s
  | succ n ih =>
    unfold State.runStationFor
    split
    · exact .refl s
    · next e rest _ =>
      have hx : s.Stands ((s.withQueue ({ e with executing := true } :: rest)).execute e).1 :=
        (s.stands_setStation _).trans (State.stands_execute _ e)
      dsimp only
      split
      · exact (hx.trans (State.stands_answerExecuting _ _)).trans (ih _)
      · exact hx

theorem State.stands_finishExecuting (r : Reply) : s.Stands (s.finishExecuting r) :=
  (s.stands_answerExecuting r).trans (State.stands_runStationFor _ _)

theorem State.stands_stationRequest (k : StationKind) (tag : Byte) (body : List Byte) :
    s.Stands (s.stationRequest k tag body) := by
  unfold State.stationRequest
  split
  · exact (s.carries_produce _ _).toStands
  split
  · exact (s.carries_produce _ _).toStands
  dsimp only
  split
  · exact (s.stands_setStation _).trans (State.stands_runStationFor _ _)
  · exact s.stands_setStation _

end

/-! ### The LOAD in hand through the queue (R68, R154) -/

/-- Outside STARTING the records are loaded. -/
theorem State.StartSound.loaded_of_not_starting {s : State} (h : s.StartSound) (hs : s.service ≠ .starting) :
    s.loaded = true := by
  rw [← Bool.not_eq_false]
  exact fun hno => hs (h.1 hno)

theorem State.StartSound.not_starting_of_queue {s : State} (h : s.StartSound) (hq : s.station.queue ≠ []) :
    s.service ≠ .starting := fun hs => hq (h.2 hs).2.1

theorem State.StartSound.not_starting_of_job {s : State} (h : s.StartSound) {j : Job} (hj : s.kfu.job = some j) :
    s.service ≠ .starting := fun hs => by
  rw [(h.2 hs).1] at hj
  cases hj

/-- Outside STARTING, with the records loaded, the start asks for nothing. -/
theorem State.startSound_of_loaded {s : State} (hl : s.loaded = true) (hs : s.service ≠ .starting) : s.StartSound :=
  ⟨fun hno => (Bool.false_ne_true (hno.symm.trans hl)).elim, fun hx => absurd hx hs⟩

/-- A start that is over stays over where the service state stands. -/
theorem State.Stands.startSound {s t : State} (hst : s.Stands t) (h : s.StartSound) (hs : s.service ≠ .starting) :
    t.StartSound :=
  State.startSound_of_loaded (hst.loaded.trans (h.loaded_of_not_starting hs)) (hst.service ▸ hs)

theorem State.StartSound.runStationFor {s : State} (h : s.StartSound) (n : Nat) : (s.runStationFor n).StartSound := by
  cases hq : s.station.queue with
  | nil =>
    cases n with
    | zero => exact h
    | succ n =>
      unfold State.runStationFor
      rw [hq]
      exact h
  | cons e rest =>
    exact (s.stands_runStationFor n).startSound h (h.not_starting_of_queue (by rw [hq]; exact List.cons_ne_nil e rest))

theorem State.StartSound.answerExecuting {s : State} (h : s.StartSound) (r : Reply) : (s.answerExecuting r).StartSound := by
  cases hq : s.station.queue with
  | nil =>
    unfold State.answerExecuting
    rw [hq]
    exact h
  | cons e rest =>
    exact (s.stands_answerExecuting r).startSound h (h.not_starting_of_queue (by rw [hq]; exact List.cons_ne_nil e rest))

theorem State.StartSound.finishExecuting {s : State} (h : s.StartSound) (r : Reply) : (s.finishExecuting r).StartSound :=
  (h.answerExecuting r).runStationFor _

theorem State.StartSound.stationRequest {s : State} (h : s.StartSound) (k : StationKind) (tag : Byte) (body : List Byte) :
    (s.stationRequest k tag body).StartSound := by
  by_cases hs : s.service = .starting
  · unfold State.stationRequest
    rw [if_pos hs]
    exact (s.carries_produce _ _).startSound h
  · exact (s.stands_stationRequest k tag body).startSound h hs

/-- With no LOAD_KEY in hand nothing is asked of the queue. -/
theorem State.loadSound_of_noLoad {s : State} (hno : s.NoLoad) : s.LoadSound := by
  intro _
  rw [hno.1, hno.2]
  exact ⟨Nat.zero_le 1, fun hx => hx.elim (absurd rfl) (absurd rfl)⟩

theorem State.loadsFresh_of_noLoad {s : State} (hno : s.NoLoad) : s.LoadsFresh := by
  intro q hq
  rw [hno.1] at hq
  cases hq

section
variable {s : State} (h : s.GenerationsSound)
include h

/-- While no LOAD_KEY executes none is in hand. -/
theorem State.GenerationsSound.noLoad (hl : s.loaded = true) (hx : s.station.isExecuting .loadKey = false) : s.NoLoad := by
  obtain ⟨-, hload, -⟩ := h
  obtain ⟨-, hexec⟩ := hload hl
  rw [hx] at hexec
  exact ⟨by_contra fun hne => Bool.false_ne_true (hexec (.inl hne)), by_contra fun hne => Bool.false_ne_true (hexec (.inr hne))⟩

/-- The queue changes with no LOAD_KEY in hand. -/
theorem State.GenerationsSound.withQueue (hs : s.service ≠ .starting) (hno : s.NoLoad) (q : List StationEntry) :
    (s.withQueue q).GenerationsSound := by
  obtain ⟨hstart, -, hapart, hrest⟩ := h
  have hst := s.stands_setStation { s.station with queue := q }
  exact ⟨hst.startSound hstart hs, State.loadSound_of_noLoad (s := s.withQueue q) hno, hapart.stand hst.keys, hrest⟩

theorem State.GenerationsSound.answerExecuting (hs : s.service ≠ .starting) (hno : s.NoLoad) (r : Reply) :
    (s.answerExecuting r).GenerationsSound ∧ (s.answerExecuting r).NoLoad := by
  unfold State.answerExecuting
  split
  · exact ⟨h, hno⟩
  · next e rest _ =>
    have hc := (s.withQueue rest).carries_produce .station { kind := e.kind.code, tag := e.tag, reply := r, serial := none }
    exact ⟨hc.generationsSound (h.withQueue hs hno rest), hc.noLoad hno⟩

/-- A load that has passed its checks is the one in hand, for an EMPTY slot, its generation in no slot (R64, R67). -/
theorem State.GenerationsSound.withLoad (hs : s.service ≠ .starting) (hno : s.NoLoad)
    (hx : s.station.isExecuting .loadKey = true) {n : SlotNo} {a : LoadArgs} (hcheck : s.loadCheck n a = none) :
    (s.withLoad (a.request n)).GenerationsSound := by
  obtain ⟨hstart, -, hapart, hrest⟩ := h
  have hst : s.Stands (s.withLoad (a.request n)) := s.stands_setStation _
  have hreq : (s.withLoad (a.request n)).loadRequests = [a.request n] := by
    obtain ⟨-, hjob⟩ := List.append_eq_nil_iff.mp hno.1
    exact congrArg ([a.request n] ++ ·) hjob
  refine ⟨hst.startSound hstart hs, fun _ => ⟨?_, fun _ => hx⟩, hapart.stand hst.keys, fun hl => ⟨?_, (hrest hl).2⟩⟩
  · rw [hreq, show (s.withLoad (a.request n)).loadingSlots = [] from hno.2]
    exact Nat.le_refl 1
  · intro q hq
    rw [hreq, List.mem_singleton] at hq
    subst hq
    unfold State.loadCheck at hcheck
    split at hcheck
    · cases hcheck
    next hempty =>
    split at hcheck
    · cases hcheck
    next hgen =>
    refine ⟨?_, fun k d hd hsame => hgen ?_⟩
    · have hbody : s.slots[n].body = .empty := by simpa [Slot.occupied] using hempty
      exact hbody
    · refine List.any_eq_true.mpr ⟨k, List.mem_finRange k, ?_⟩
      rw [show s.slots[k].data = some d from hd]
      simpa [LoadArgs.request, and_assoc] using hsame

end

/-- The queue runs with no LOAD_KEY in hand: the one that a run leaves in hand executes (R154). -/
theorem State.GenerationsSound.runStationFor (n : Nat) : ∀ {s : State}, s.GenerationsSound → s.service ≠ .starting → s.NoLoad →
    (s.runStationFor n).GenerationsSound := by
  induction n with
  | zero => exact fun h _ _ => h
  | succ n ih =>
    intro s h hs hno
    unfold State.runStationFor
    split
    · exact h
    next e rest hq =>
    have hhead := h.withQueue hs hno ({ e with executing := true } :: rest)
    have hno' : (s.withQueue ({ e with executing := true } :: rest)).NoLoad := hno
    have hs' : (s.withQueue ({ e with executing := true } :: rest)).service ≠ .starting := hs
    have hexec : e.kind = .loadKey → (s.withQueue ({ e with executing := true } :: rest)).station.isExecuting .loadKey = true :=
      fun hk => by
        show (true && e.kind == .loadKey) = true
        rw [hk]
        rfl
    dsimp only
    generalize s.withQueue ({ e with executing := true } :: rest) = u at hhead hno' hs' hexec ⊢
    obtain hc | ⟨hk, m, a, hcheck, hx⟩ := u.execute_cases e
    · have hx := hc.generationsSound hhead
      have hsx : (u.execute e).1.service ≠ .starting := hc.service ▸ hs'
      split
      · next r _ =>
        obtain ⟨hans, hnone⟩ := hx.answerExecuting hsx (hc.noLoad hno') r
        exact ih hans (by rwa [(State.stands_answerExecuting _ r).service]) hnone
      · exact hx
    · rw [hx]
      exact (State.carries_arbitrate _).generationsSound (hhead.withLoad hs' hno' (hexec hk) hcheck)

section
variable {s : State} (h : s.GenerationsSound)
include h

theorem State.GenerationsSound.finishExecuting (hno : s.NoLoad) (r : Reply) : (s.finishExecuting r).GenerationsSound := by
  by_cases hs : s.service = .starting
  · have hq := (h.1.2 hs).2.1
    have hsame : s.answerExecuting r = s := by
      unfold State.answerExecuting
      rw [hq]
    rw [State.finishExecuting, hsame, State.runStation, hq]
    exact h
  · obtain ⟨hans, hnone⟩ := h.answerExecuting hs hno r
    exact .runStationFor _ hans ((s.stands_answerExecuting r).service ▸ hs) hnone

theorem State.GenerationsSound.stationRequest (k : StationKind) (tag : Byte) (body : List Byte) :
    (s.stationRequest k tag body).GenerationsSound := by
  unfold State.stationRequest
  split
  · exact (s.carries_produce _ _).generationsSound h
  next hs =>
  split
  · exact (s.carries_produce _ _).generationsSound h
  dsimp only
  split
  · next hq =>
    have hno := h.noLoad (h.1.loaded_of_not_starting hs) (by rw [Station.isExecuting, hq])
    exact .runStationFor _ (h.withQueue hs hno _) hs hno
  · next hq =>
    obtain ⟨hstart, hload, hapart, hrest⟩ := h
    have hst := s.stands_setStation { s.station with
      queue := s.station.queue ++ [{ kind := k, tag := tag, body := body, executing := false, answered := false }] }
    refine ⟨hst.startSound hstart hs, ?_, hapart.stand hst.keys, hrest⟩
    cases hqueue : s.station.queue with
    | nil => exact absurd hqueue hq
    | cons e rest => simpa only [State.LoadSound, State.loadRequests, State.loadingSlots, State.withQueue, Station.isExecuting,
        hqueue, List.cons_append] using hload

end

end Sys2Proof.Machine
end

section
/-! Proofs for the key slots: the commands that advance the module. All but the LOAD completion, the ends of store actions, the power
events and START_UP let the keys stand, keep the start sound and keep the generations apart. -/

namespace Sys2Proof.Machine

/-! ### What an ordinary command keeps -/

/-- The keys stand, and the start and the generations stay sound. -/
structure State.Advances (s t : State) : Prop where
  keys : s.KeysStand t
  start : s.StartSound → t.StartSound
  sound : s.GenerationsSound → t.GenerationsSound

theorem State.Advances.trans {s t u : State} (h : s.Advances t) (h' : t.Advances u) : s.Advances u :=
  ⟨h.keys.trans h'.keys, fun x => h'.start (h.start x), fun x => h'.sound (h.sound x)⟩

theorem State.Carries.advances {s t : State} (h : s.Carries t) : s.Advances t := ⟨h.keys, h.startSound, h.generationsSound⟩

section
variable (s : State)

theorem State.Advances.refl : s.Advances s := (State.Carries.refl s).advances

theorem State.advances_stationRequest (k : StationKind) (tag : Byte) (body : List Byte) :
    s.Advances (s.stationRequest k tag body) :=
  ⟨(s.stands_stationRequest k tag body).keys, fun h => h.stationRequest k tag body, fun h => h.stationRequest k tag body⟩

theorem State.carries_statusRequest (tag : Byte) (body : List Byte) : s.Carries (s.statusRequest tag body) := by
  unfold State.statusRequest
  split
  · exact s.carries_produce _ _
  · next mask _ =>
    exact State.Carries.trans (t := s.clearFlags mask) (.of_lanes rfl rfl rfl rfl rfl rfl rfl rfl) (State.carries_produce _ _ _)

theorem State.advances_handStation (f : Frame) : s.Advances (s.handStation f) := by
  unfold State.handStation
  split
  · exact (s.carries_produce _ _).advances
  split
  · exact (s.carries_statusRequest _ _).advances
  split
  · exact (s.carries_produce _ _).advances
  · exact s.advances_stationRequest _ _ _

theorem State.advances_stationFrame {deal : State → State} (hd : ∀ t : State, t.Advances (deal t)) :
    s.Advances (s.stationFrame deal) := by
  have harr : s.Carries s.stationFrameArrives := .of_lanes rfl rfl rfl rfl rfl rfl rfl rfl
  obtain heq | ⟨-, heq⟩ := s.stationFrame_cases deal <;> rw [heq]
  · exact harr.advances
  · exact harr.advances.trans (hd _)

theorem State.advances_portFrame (p : Port) (f : Frame) : s.Advances (s.portFrame p f) := by
  cases p with
  | lane l => exact (s.carries_laneFrame l fun t => t.carries_handLane l f).advances
  | station => exact s.advances_stationFrame fun t => t.advances_handStation f

theorem State.advances_receive (p : Port) (c : LineChar) : s.Advances (s.receive p c) := by
  have hrx (rx : Rx) : s.Carries (s.onPort p fun ps => { ps with rx := rx }) := s.carries_onPort p _
  unfold State.receive
  dsimp only
  split
  · exact (hrx _).advances
  · exact ((hrx _).trans (State.carries_latch _ _)).advances
  · exact (hrx _).advances.trans (State.advances_portFrame _ p _)

theorem State.advances_receiveAll (p : Port) (cs : List LineChar) : s.Advances (s.receiveAll p cs) :=
  foldl_keeps (P := s.Advances) (fun t c ht => ht.trans (t.advances_receive p c)) cs s (.refl s)

/-- The store changes, its slot records and the action in progress apart. -/
theorem State.carries_setStore {st : Store} (hr : st.slots = s.store.slots) (ha : st.action = s.store.action) :
    s.Carries { s with store := st } :=
  .of_keys (t := { s with store := st }) (.of_eq rfl hr ha) rfl rfl rfl rfl rfl

/-! ### The service state moves (R157) -/

/-- The service state leaves STARTING once the records are loaded. -/
theorem State.Advances.setService {s u : State} (h : s.Advances u) {v : Service} (hv : v ≠ .starting)
    (hl : s.StartSound → u.loaded = true) : s.Advances { u with service := v } where
  keys := h.keys.trans (.of_eq rfl rfl rfl)
  start := fun hs => State.startSound_of_loaded (hl hs) hv
  sound := fun hs => by
    obtain ⟨-, hload, hapart, hrest⟩ := h.sound hs
    exact ⟨State.startSound_of_loaded (hl hs.1) hv, hload, hapart, hrest⟩

theorem State.Advances.leaveService {s u : State} (h : s.Advances u) (hl : s.StartSound → u.loaded = true) :
    s.Advances u.leaveService :=
  (h.setService (by decide) hl).trans (State.Carries.foldl (fun t l => t.carries_emptied l _) _ _).advances

theorem State.Advances.enterServing {s u : State} (h : s.Advances u) (hl : s.StartSound → u.loaded = true) :
    s.Advances u.enterServing :=
  (h.setService (by decide) hl).trans (State.carries_serviceChangedAll _).advances

/-! ### The completions of lane jobs -/

/-- The arbiter looks and the alert outputs are driven, as at the end of a completion. -/
theorem State.carries_settle : s.Carries s.arbitrate.driveAlerts := s.carries_arbitrate.trans (State.carries_driveAlerts _)

theorem State.advances_execOpenCompletion {t : State} (hx : execOpenCompletion s = .next t) : s.Advances t := by
  unfold execOpenCompletion at hx
  split at hx <;> cases hx
  · next l c mk id g i hj =>
    have hopen := ((State.carries_freeUnit hj nofun).trans (State.carries_advanceSequence _)).trans
      (State.carries_applyOpen _ l c (derive mk id g i)
        (challenge s.kfu.challengeKey s.kfu.bootCount s.kfu.sequence l c))
    refine State.Advances.trans ?_ (State.carries_settle _).advances
    split
    · exact hopen.advances.leaveService fun h =>
        hopen.loaded.trans (h.loaded_of_not_starting (h.not_starting_of_job hj))
    · exact hopen.advances
  · exact .refl s

theorem State.advances_execProveCompletion {t : State} (hx : execProveCompletion s = .next t) : s.Advances t := by
  unfold execProveCompletion at hx
  split at hx <;> cases hx
  · next hj =>
    exact (((State.carries_freeUnit hj nofun).trans (State.carries_applyProve _ _ _ _)).trans (State.carries_settle _)).advances
  · exact .refl s

theorem State.advances_execSealCompletion {t : State} (hx : execSealCompletion s = .next t) : s.Advances t := by
  unfold execSealCompletion at hx
  split at hx <;> cases hx
  · next hj =>
    exact (((State.carries_freeUnit hj nofun).trans (State.carries_applySeal _ _ _ _ _ _ _ _ _)).trans
      (State.carries_settle _)).advances
  · exact .refl s

/-! ### The other events -/

theorem State.carries_execSecondEvent {t : State} (hx : execSecondEvent s = .next t) : s.Carries t := by
  unfold execSecondEvent at hx
  split at hx
  · cases hx
    exact .refl s
  · have ht := s.carries_setClock { s.clock with secondEvents := s.clock.secondEvents - 1 }
    dsimp only at hx
    split at hx <;> cases hx
    · exact ht.trans ((State.carries_evaluate _).trans ((State.carries_reformSigning _).trans (State.carries_driveAlerts _)))
    · exact ht

theorem State.carries_execContextExpiry {l : LaneNo} {c : CtxNo} {t : State} (hx : execContextExpiry l c s = .next t) :
    s.Carries t := by
  unfold execContextExpiry at hx
  split at hx <;> cases hx
  · exact (s.carries_removeAndEnd l c _ _).trans (State.carries_driveAlerts _)
  · exact .refl s

theorem State.carries_execEntryExpiry {id : TagId} {t : State} (hx : execEntryExpiry id s = .next t) : s.Carries t := by
  unfold execEntryExpiry at hx
  split at hx
  · split at hx
    · split at hx <;> cases hx
      · exact .of_lanes rfl rfl rfl rfl rfl rfl rfl rfl
      · exact .refl s
    · cases hx
      exact .refl s
  · cases hx
    exact .refl s

theorem State.carries_execLinkExpiry {l : LaneNo} {t : State} (hx : execLinkExpiry l s = .next t) : s.Carries t := by
  unfold execLinkExpiry at hx
  split at hx <;> cases hx
  · exact (s.carries_linkDown l).trans (State.carries_driveAlerts _)
  · exact .refl s

theorem State.carries_execOscillatorStop {t : State} (hx : execOscillatorStop s = .next t) : s.Carries t := by
  unfold execOscillatorStop at hx
  split at hx <;> cases hx
  · exact (s.carries_setClock _).trans ((State.carries_latch _ _).trans (State.carries_driveAlerts _))
  · exact .refl s

theorem State.carries_answerSent (p : Port) (a : Answer) : s.Carries (s.answerSent p a) := by
  have hport := s.carries_onPort p fun ps => ps.sent (s.rateOfPort p)
  unfold State.answerSent
  dsimp only
  split
  · refine hport.trans (State.carries_onLane_same ?_)
    cases a.serial <;> rfl
  · exact hport

/-- A start begins: the generations stay apart, and nothing else is asked of the keys until the records are loaded. -/
theorem State.generationsSound_of_unloaded {s : State} (h : s.QueuesSound) (hapart : s.KeysApart) (hl : s.loaded = false) :
    s.GenerationsSound := by
  obtain ⟨-, -, -, hstart, hload⟩ := h
  exact ⟨hstart, hload, hapart, fun hx => (Bool.false_ne_true (hl.symm.trans hx)).elim⟩

theorem State.advances_warmReset : s.Advances s.warmReset where
  keys := .of_eq rfl rfl rfl
  start := fun _ => by
    obtain ⟨-, -, -, hstart, -⟩ := s.queuesSound_warmReset
    exact hstart
  sound := fun ⟨_, _, hapart, _⟩ =>
    State.generationsSound_of_unloaded s.queuesSound_warmReset (hapart.stand (.of_eq rfl rfl rfl)) rfl

theorem State.advances_execAnswerTransmitted {p : Port} {t : State} (hx : execAnswerTransmitted p s = .next t) :
    s.Advances t := by
  unfold execAnswerTransmitted at hx
  split at hx <;> cases hx
  · exact .refl s
  · next a _ _ =>
    refine State.Advances.trans ?_ (State.carries_driveAlerts _).advances
    split
    · exact (s.carries_answerSent p a).advances.trans (State.advances_warmReset _)
    · exact (s.carries_answerSent p a).advances

/-- A command heard only with main power present. -/
theorem State.advances_powered {f : State → State} {t : State} (hx : s.powered f = .next t) (hf : s.Advances (f s)) :
    s.Advances t := by
  obtain ⟨-, rfl⟩ | ⟨-, rfl⟩ := State.powered_cases hx
  · exact hf.trans (State.carries_driveAlerts _).advances
  · exact .refl t

end

/-- The commands that load keys, end store actions, or begin and load a start. -/
def touchesKeys : Instr → Bool
  | .loadCompletion | .mainPowerFail _ | .powerOn _ | .startUp | .storeActionComplete | .storeActionFailed _ => true
  | _ => false

/-- Every other command lets the keys stand and keeps the start and the generations sound. -/
theorem State.exec_advances {s t : State} {i : Instr} (hi : touchesKeys i = false) (hx : exec i s = .next t) : s.Advances t := by
  have lane (l : LaneNo) (deal : State → State) (hx : (s.powered fun s => s.laneFrame l deal) = .next t)
      (hd : ∀ u : State, u.Carries (deal u)) : s.Advances t :=
    s.advances_powered hx (s.carries_laneFrame l hd).advances
  have station (k : StationKind) (tag : Byte) (body : List Byte)
      (hx : (s.powered fun s => s.stationFrame fun t => t.stationRequest k tag body) = .next t) : s.Advances t :=
    s.advances_powered hx (s.advances_stationFrame fun u => u.advances_stationRequest k tag body)
  cases i
  case openReq l tag body => exact lane l (fun t => t.openRequest l tag body) hx fun u => u.carries_openRequest l tag body
  case proveReq l tag body => exact lane l (fun t => t.proveRequest l tag body) hx fun u => u.carries_proveRequest l tag body
  case sealReq l tag body => exact lane l (fun t => t.sealRequest l tag body) hx fun u => u.carries_sealRequest l tag body
  case dropReq l tag body => exact lane l (fun t => t.dropRequest l tag body) hx fun u => u.carries_dropRequest l tag body
  case pollReq l tag body => exact lane l (fun t => t.pollRequest l tag body) hx fun u => u.carries_pollRequest l tag body
  case statusReq tag body =>
    exact s.advances_powered (f := fun s => s.stationFrame fun t => t.statusRequest tag body) hx
      (s.advances_stationFrame fun u => (u.carries_statusRequest tag body).advances)
  case setLane tag body => exact station .setLane tag body hx
  case setConfig tag body => exact station .setConfig tag body hx
  case saveConfig tag body => exact station .saveConfig tag body hx
  case reseed tag body => exact station .reseed tag body hx
  case resetReq tag body => exact station .reset tag body hx
  case loadKey tag body => exact station .loadKey tag body hx
  case withdrawKey tag body => exact station .withdrawKey tag body hx
  case listSlot tag body => exact station .listSlot tag body hx
  case setRoute tag body => exact station .setRoute tag body hx
  case clearRoute tag body => exact station .clearRoute tag body hx
  case queryPassage tag body => exact station .queryPassage tag body hx
  case setTime tag body => exact station .setTime tag body hx
  case setTrim tag body => exact station .setTrim tag body hx
  case readTime tag body => exact station .readTime tag body hx
  case malformedFrame p kind tag length body =>
    exact s.advances_powered (f := fun s => s.portFrame p _) hx (s.advances_portFrame p _)
  case frameDiscarded p cs => exact s.advances_powered (f := fun s => s.receiveAll p cs) hx (s.advances_receiveAll p cs)
  case abortSequence p =>
    exact s.advances_powered (f := fun s => s.onPort p fun ps => { ps with rx := Rx.opened }) hx (s.carries_onPort p _).advances
  case openCompletion => exact s.advances_execOpenCompletion hx
  case proveCompletion => exact s.advances_execProveCompletion hx
  case sealCompletion => exact s.advances_execSealCompletion hx
  case fractionTick | backupLowChange | oscillatorStopWhileOff =>
    simp only [exec, execFractionTick, execBackupLowChange, execOscillatorStopWhileOff] at hx
    split at hx <;> cases hx
    · exact (s.carries_setClock _).advances
    · exact .refl s
  case oscillatorRestart =>
    simp only [exec, execOscillatorRestart] at hx
    split at hx <;> cases hx
    · exact .refl s
    · exact (s.carries_setClock _).advances
  case storeVerifyRetry =>
    simp only [exec, execStoreVerifyRetry] at hx
    split at hx <;> cases hx
    · exact (s.carries_setStore (st := { s.store with second := true }) rfl rfl).advances
    · exact .refl s
  case periodStart =>
    cases hx
    exact (s.carries_setClock _).advances
  case secondEvent => exact (s.carries_execSecondEvent hx).advances
  case contextExpiry l c => exact (s.carries_execContextExpiry hx).advances
  case entryExpiry id => exact (s.carries_execEntryExpiry hx).advances
  case linkExpiry l => exact (s.carries_execLinkExpiry hx).advances
  case oscillatorStop => exact (s.carries_execOscillatorStop hx).advances
  case answerTransmitted p => exact s.advances_execAnswerTransmitted hx
  all_goals cases hi

end Sys2Proof.Machine
end

section
/-! Proofs for the key slots: the ends of store actions and the LOAD completion (R68 to R71, R86, R174, R175). -/

namespace Sys2Proof.Machine

/-! ### The store when an action has ended (R170, R174, R176) -/

/-- No action is in progress, and an intact slot record is one of before or what the action was writing. -/
structure Store.Ended (old st : Store) : Prop where
  idle : st.action = none
  record : ∀ (n : SlotNo) (r : SlotRecord), st.slots[n] = .intact r →
    old.slots[n] = .intact r ∨ old.action = some (.writeSlot n r)

/-- One record replaced. -/
theorem vector_set_cases {α : Type} {v : Vector α 24} {n k : SlotNo} {x y : α} (h : (v.set n x)[k] = y) :
    k = n ∧ x = y ∨ v[k] = y := by
  by_cases hk : k = n
  · subst hk
    exact .inl ⟨rfl, by simpa using h⟩
  · have hne : n.val ≠ k.val := fun e => hk (Fin.ext e.symm)
    exact .inr (by simpa [hne] using h)

theorem Store.ended_former (st : Store) : st.Ended st.idle := ⟨rfl, fun _ _ h => .inl h⟩

theorem Store.ended_applied {st : Store} {a : StoreAct} (ha : st.action = some a) : st.Ended (st.applied a).idle := by
  refine ⟨by cases a <;> rfl, fun n r h => ?_⟩
  cases a with
  | writeSlot k c =>
    obtain ⟨rfl, hx⟩ | hx := vector_set_cases h
    · cases hx
      exact .inr ha
    · exact .inl hx
  | eraseSlot k =>
    obtain ⟨-, hx⟩ | hx := vector_set_cases h
    · cases hx
    · exact .inl hx
  | writeImage i => exact .inl h
  | writeBoot b => exact .inl h

theorem Store.ended_torn (st : Store) (a : StoreAct) : st.Ended (st.torn a).idle := by
  refine ⟨by cases a <;> rfl, fun n r h => ?_⟩
  cases a with
  | writeSlot k c =>
    obtain ⟨-, hx⟩ | hx := vector_set_cases h
    · cases hx
    · exact .inl hx
  | eraseSlot k =>
    obtain ⟨-, hx⟩ | hx := vector_set_cases h
    · cases hx
    · exact .inl hx
  | writeImage i => exact .inl h
  | writeBoot b => exact .inl h

theorem Store.ended_left {st : Store} {a : StoreAct} (ha : st.action = some a) (x : AttemptLeft) :
    st.Ended (st.left a x).idle := by
  cases x with
  | former => exact st.ended_former
  | new => exact Store.ended_applied ha
  | failing => exact st.ended_torn a

/-- Keys apart stay apart at the end of an action, slots giving up keys at most. -/
theorem State.KeysApart.ended {s t : State} (h : s.KeysApart) (he : s.store.Ended t.store)
    (hd : ∀ (n : SlotNo) (a : KeyData), t.slots[n].data = some a → s.slots[n].data = some a) : t.KeysApart := by
  refine State.KeysApart_mono h fun n a ha => ?_
  rw [State.mem_keysAt] at ha ⊢
  obtain ha | ⟨r, hr, rfl⟩ | ⟨r, hr, rfl⟩ := ha
  · exact .inl (hd n a ha)
  · exact .inr ((he.record n r hr).imp (fun hx => ⟨r, hx, rfl⟩) fun hx => ⟨r, hx, rfl⟩)
  · rw [he.idle] at hr
    cases hr

/-- A slot with a key, past its loading. -/
theorem Slot.held_of_data {sl : Slot} {d : KeyData} (hd : sl.data = some d) (hl : sl.state ≠ .loading) :
    ∃ st, sl.body = .held st d ∧ ∀ x, st ≠ .loading x := by
  obtain ⟨body, refs⟩ := sl
  cases body with
  | empty => cases hd
  | held st d' =>
    cases hd
    exact ⟨st, rfl, fun x hx => hl (by rw [hx]; rfl)⟩

theorem State.StartSound.setStore {s : State} (h : s.StartSound) (st : Store) : State.StartSound { s with store := st } :=
  State.StartSound_congr h rfl rfl rfl rfl rfl fun _ _ => rfl

theorem State.StartSound.onSlot {s : State} (h : s.StartSound) (n : SlotNo) (f : Slot → Slot) : (s.onSlot n f).StartSound :=
  State.StartSound_congr h rfl rfl rfl rfl rfl fun _ _ => rfl

/-- A slot past its loading, or one whose record does not hold what was being written, lets its record follow it. -/
theorem State.GenerationsSound.ended {s : State} (h : s.GenerationsSound) {st : Store} (he : s.store.Ended st)
    (hload : s.loaded = true → ∀ k r, s.store.action = some (.writeSlot k r) → s.slots[k].state = .loading →
      ∀ r', st.slots[k] ≠ .intact r') : State.GenerationsSound { s with store := st } := by
  obtain ⟨hstart, hsound, hapart, hrest⟩ := h
  refine ⟨hstart.setStore st, hsound, hapart.ended (t := { s with store := st }) he fun _ _ hx => hx, fun hl => ?_⟩
  obtain ⟨hfresh, hrec, hact⟩ := hrest hl
  refine ⟨hfresh, fun k r hr => ?_, fun k r hr => ?_⟩
  · obtain hold | hnew := he.record k r hr
    · exact hrec k r hold
    · exact Slot.held_of_data (hact k r hnew) fun hx => hload hl k r hnew hx r hr
  · rw [show State.store { s with store := st } = st from rfl, he.idle] at hr
    cases hr

/-! ### A slot leaves LOADING (R70, R71) -/

/-- While a slot is in LOADING it is the only one, and no LOAD waits or runs. -/
theorem State.LoadSound.loading_alone {s : State} (h : s.LoadSound) (hl : s.loaded = true) {n : SlotNo}
    (hn : s.slots[n].state = .loading) : s.loadRequests = [] ∧ ∀ k : SlotNo, s.slots[k].state = .loading → k = n := by
  obtain ⟨hone, -⟩ := h hl
  have hmem := (State.mem_loadingSlots n).mpr hn
  have hpos := List.length_pos_of_mem hmem
  refine ⟨List.eq_nil_of_length_eq_zero (by omega), fun k hk => ?_⟩
  obtain ⟨m, hm⟩ := List.length_eq_one_iff.mp (show s.loadingSlots.length = 1 by omega)
  have hk' := (State.mem_loadingSlots k).mpr hk
  rw [hm, List.mem_singleton] at hk' hmem
  rw [hk', hmem]

/-- The slot in LOADING leaves it at the end of its first write: no LOAD_KEY is in hand, and what its record then holds is its own
key. -/
theorem State.GenerationsSound.leaveLoading {s : State} (h : s.GenerationsSound) (hl : s.loaded = true) {n : SlotNo}
    (hn : s.slots[n].state = .loading) {st : Store} (he : s.store.Ended st) {f : Slot → Slot}
    (hf : (f s.slots[n]).state ≠ .loading) (hd : ∀ a, (f s.slots[n]).data = some a → s.slots[n].data = some a)
    (hrecord : ∀ r, st.slots[n] = .intact r → (f s.slots[n]).data = some r.data) :
    (State.onSlot { s with store := st } n f).GenerationsSound ∧ (State.onSlot { s with store := st } n f).NoLoad := by
  obtain ⟨hstart, hsound, hapart, hrest⟩ := h
  obtain ⟨hreq, halone⟩ := hsound.loading_alone hl hn
  obtain ⟨-, hrec, hact⟩ := hrest hl
  have hsame : (State.onSlot { s with store := st } n f).slots[n] = f s.slots[n] := State.onSlot_same _ n f
  have hother (k : SlotNo) (hk : k ≠ n) : (State.onSlot { s with store := st } n f).slots[k] = s.slots[k] :=
    State.onSlot_other _ n k f hk
  have hno : (State.onSlot { s with store := st } n f).NoLoad := by
    refine ⟨hreq, List.eq_nil_iff_forall_not_mem.mpr fun k hk => ?_⟩
    rw [State.mem_loadingSlots] at hk
    by_cases hkn : k = n
    · subst hkn
      exact hf (hsame ▸ hk)
    · exact hkn (halone k (hother k hkn ▸ hk))
  refine ⟨⟨(hstart.setStore st).onSlot n f, State.loadSound_of_noLoad hno,
    hapart.ended (t := State.onSlot { s with store := st } n f) he fun k a ha => ?_, fun _ =>
      ⟨State.loadsFresh_of_noLoad hno, fun k r hr => ?_, fun k r hr => ?_⟩⟩, hno⟩
  · by_cases hkn : k = n
    · subst hkn
      rw [hsame] at ha
      exact hd a ha
    · rwa [hother k hkn] at ha
  · by_cases hkn : k = n
    · subst hkn
      rw [hsame]
      exact Slot.held_of_data (hrecord r hr) hf
    · rw [hother k hkn]
      obtain hold | hnew := he.record k r hr
      · exact hrec k r hold
      · exact Slot.held_of_data (hact k r hnew) fun hx => hkn (halone k hx)
  · rw [show (State.onSlot { s with store := st } n f).store = st from rfl, he.idle] at hr
    cases hr

/-- An ERASING slot becomes EMPTY, its record holding no key and no write being in progress (R86). -/
theorem State.GenerationsSound.erased {s : State} (h : s.GenerationsSound) {n : SlotNo} {d : KeyData}
    (hb : s.slots[n].body = .held .erasing d) (hr : ∀ r, s.store.slots[n] ≠ .intact r)
    (ha : s.store.action = none) : (s.onSlot n fun sl => { sl with body := .empty }).GenerationsSound := by
  obtain ⟨hstart, hsound, hapart, hrest⟩ := h
  have hloading : (s.onSlot n fun sl => { sl with body := .empty }).loadingSlots = s.loadingSlots :=
    State.loadingSlots_onSlot (iff_of_false nofun (by rw [Slot.state_of_body hb]; exact nofun))
  have hsame : (s.onSlot n fun sl => { sl with body := .empty }).slots[n].body = .empty := by rw [State.onSlot_same]
  have hother (k : SlotNo) (hk : k ≠ n) : (s.onSlot n fun sl => { sl with body := .empty }).slots[k] = s.slots[k] :=
    State.onSlot_other _ n k _ hk
  have hdata (k : SlotNo) (a : KeyData) (hk : (s.onSlot n fun sl => { sl with body := .empty }).slots[k].data = some a) :
      s.slots[k].data = some a := by
    by_cases hkn : k = n
    · subst hkn
      rw [Slot.data, hsame] at hk
      cases hk
    · rwa [hother k hkn] at hk
  refine ⟨hstart.onSlot n _, ?_, hapart.ended ⟨ha, fun _ _ hx => .inl hx⟩ hdata, fun hl => ?_⟩
  · rw [State.LoadSound, hloading]
    exact hsound
  obtain ⟨hfresh, hrec, -⟩ := hrest hl
  refine ⟨fun q hq => ⟨?_, fun k a hk => (hfresh q hq).2 k a (hdata k a hk)⟩, fun k r hk => ?_, fun k r hk => ?_⟩
  · by_cases hqn : q.slot = n
    · subst hqn
      exact hsame
    · rw [hother q.slot hqn]
      exact (hfresh q hq).1
  · by_cases hkn : k = n
    · subst hkn
      exact absurd hk (hr r)
    · rw [hother k hkn]
      exact hrec k r hk
  · rw [show (s.onSlot n fun sl => { sl with body := .empty }).store = s.store from rfl, ha] at hk
    cases hk

/-! ### Image and boot record writes end (R113, R166, R168, R175, R181) -/

/-- A request other than LOAD_KEY is answered: no LOAD_KEY is in hand. -/
theorem State.advances_finishExecuting {s : State} {k : StationKind} (hx : s.station.isExecuting k = true)
    (hk : k ≠ .loadKey) (r : Reply) : s.Advances (s.finishExecuting r) where
  keys := (s.stands_finishExecuting r).keys
  start := fun h => h.finishExecuting r
  sound := fun h => by
    refine h.finishExecuting ?_ r
    unfold Station.isExecuting at hx
    split at hx
    · next e rest hq =>
      simp only [Bool.and_eq_true, beq_iff_eq] at hx
      have hs := h.1.not_starting_of_queue (by rw [hq]; exact List.cons_ne_nil e rest)
      refine h.noLoad (h.1.loaded_of_not_starting hs) ?_
      rw [Station.isExecuting, hq]
      simp [hx.2, hk]
    · cases hx

section
variable (s : State)

theorem State.advances_imageWriteEnds (ok : Bool) : s.Advances (s.imageWriteEnds ok) := by
  unfold State.imageWriteEnds
  split
  · next hx => exact State.advances_finishExecuting hx (by decide) _
  · exact .refl s

theorem State.advances_reseedBootEnds (hl : s.StartSound → s.loaded = true) (b : BitVec 32) (ok : Bool) :
    s.Advances (s.reseedBootEnds b ok) := by
  unfold State.reseedBootEnds
  split
  · next hx =>
    split
    · have hserving := (s.carries_setKfu (k := { s.kfu with boot := some b, sequence := 0 }) rfl).advances.enterServing hl
      exact hserving.trans (State.advances_finishExecuting (by simpa using hx) (by decide) _)
    · exact State.advances_finishExecuting hx (by decide) _
  · exact .refl s

theorem State.advances_bootWriteEnds (hl : s.StartSound → s.loaded = true) (b : BitVec 32) (ok : Bool) :
    s.Advances (s.bootWriteEnds b ok) := by
  have hknown : s.Carries (if ok then { s with station := { s.station with knownBoot := some b } } else s) ∧
      (if ok then { s with station := { s.station with knownBoot := some b } } else s : State).loaded = s.loaded := by
    split
    · exact ⟨.of_lanes rfl rfl rfl rfl rfl rfl rfl rfl, rfl⟩
    · exact ⟨.refl s, rfl⟩
  unfold State.bootWriteEnds
  dsimp only
  generalize (if ok then { s with station := { s.station with knownBoot := some b } } else s : State) = t at hknown ⊢
  obtain ⟨hc, heq⟩ := hknown
  have ht : s.StartSound → t.loaded = true := fun h => heq.trans (hl h)
  split
  case h_1 =>
    unfold State.startBootEnds
    split
    · exact hc.advances.enterServing ht
    · exact hc.advances.setService (by decide) ht
  case h_2 =>
    have hhold : t.Carries t.clearHold := t.carries_setKfu rfl
    unfold State.exhaustionBootEnds
    split
    · exact (hc.trans (hhold.trans (State.carries_arbitrate _))).advances
    · exact (hc.trans hhold).advances.leaveService ht
  case h_3 hs =>
    refine hc.advances.trans (t.advances_reseedBootEnds (fun h => h.loaded_of_not_starting ?_) b ok)
    rw [hc.service, hs]
    exact nofun

end

end Sys2Proof.Machine
end

section
/-! Proofs for the key slots: slots move forward (R63), and the start stays sound, through every command. -/

namespace Sys2Proof.Machine

/-! ### The end of a slot's first write (R70, R71) -/

/-- After a first write the slot enters a state past LOADING, the table evaluates, and the LOAD_KEY is answered. -/
theorem State.firstWriteDone_eq (s : State) (n : SlotNo) (stored : LoadState) (d : KeyData) :
    ∃ st r, (∀ x, st ≠ .loading x) ∧ s.firstWriteDone n stored d =
      (s.onSlot n fun sl => { sl with body := .held st d }).evaluate.reformSigning.finishExecuting r := by
  cases stored with
  | staged => exact ⟨.staged, _, nofun, rfl⟩
  | active => exact ⟨.active, _, nofun, rfl⟩

/-- What becomes of a slot when its record's write has ended. -/
theorem State.slotWriteEnds_cases (s : State) (n : SlotNo) (ok : Bool) :
    s.slotWriteEnds n ok = s ∧ s.slots[n].state ≠ .loading ∨ ∃ stored d, s.slots[n].body = .held (.loading stored) d ∧
      s.slotWriteEnds n ok = if ok then s.firstWriteDone n stored d else s.firstWriteFailed n := by
  unfold State.slotWriteEnds
  split
  · next stored d hb => exact .inr ⟨stored, d, hb, rfl⟩
  · next hno =>
    refine .inl ⟨rfl, fun hl => ?_⟩
    unfold Slot.state at hl
    split at hl
    case h_2 x d hb => exact hno x d hb
    all_goals cases hl

/-- What becomes of a slot when its record's erase has ended. -/
theorem State.slotEraseEnds_cases (s : State) (n : SlotNo) (ok : Bool) :
    s.slotEraseEnds n ok = s ∨ ok = true ∧ (∃ d, s.slots[n].body = .held .erasing d) ∧
      s.slotEraseEnds n ok = s.onSlot n fun sl => { sl with body := .empty } := by
  unfold State.slotEraseEnds
  split
  · next d hb =>
    cases ok with
    | true => exact .inr ⟨rfl, ⟨d, hb⟩, rfl⟩
    | false => exact .inl rfl
  · exact .inl rfl

theorem State.keysStand_firstWriteFailed (s : State) (n : SlotNo) :
    (s.onSlot n fun sl => { sl with body := .empty }).KeysStand (s.firstWriteFailed n) :=
  (State.keysStand_requestStore _ _).trans (State.stands_finishExecuting _ _).keys

theorem State.carries_afterFirstWrite (s : State) : s.Carries s.evaluate.reformSigning :=
  s.carries_evaluate.trans (State.carries_reformSigning _)

/-! ### Slots move forward (R63) -/

/-- Every slot shows a state that R63 allows later. -/
def State.Forward (s t : State) : Prop := ∀ n : SlotNo, SlotState.forward s.slots[n].state t.slots[n].state = true

theorem State.SlotsStand.forward {s t : State} (h : s.SlotsStand t) : s.Forward t := fun n => Slot.forward_of_onward (h n)

theorem State.Forward.of_slots {s t u : State} (h : s.Forward t) (hu : u.slots = t.slots) : s.Forward u := fun n => by
  rw [hu]
  exact h n

/-- One slot moves forward, then all slots stand or move on. -/
theorem State.forward_onSlot {s t : State} {n : SlotNo} {f : Slot → Slot} (h : (s.onSlot n f).SlotsStand t)
    (hn : SlotState.forward s.slots[n].state t.slots[n].state = true) : s.Forward t := by
  intro k
  by_cases hk : k = n
  · subst hk
    exact hn
  · have hf := h.forward k
    rwa [State.onSlot_other _ _ _ _ hk] at hf

/-- From LOADING a slot may show any state. -/
theorem SlotState.forward_loading {a b : SlotState} (h : a = .loading) : SlotState.forward a b = true := by
  subst h
  rfl

theorem State.forward_slotWriteEnds (s : State) (n : SlotNo) (ok : Bool) : s.Forward (s.slotWriteEnds n ok) := by
  obtain ⟨heq, -⟩ | ⟨stored, d, hb, heq⟩ := s.slotWriteEnds_cases n ok <;> rw [heq]
  · exact (State.SlotsStand.refl s).forward
  · have hl : s.slots[n].state = .loading := by rw [Slot.state_of_body hb]; rfl
    split
    · obtain ⟨st, r, -, hdone⟩ := s.firstWriteDone_eq n stored d
      rw [hdone]
      exact State.forward_onSlot ((State.carries_afterFirstWrite _).keys.trans (State.stands_finishExecuting _ r).keys).slots
        (SlotState.forward_loading hl)
    · exact State.forward_onSlot (s.keysStand_firstWriteFailed n).slots (SlotState.forward_loading hl)

theorem State.forward_slotEraseEnds (s : State) (n : SlotNo) (ok : Bool) : s.Forward (s.slotEraseEnds n ok) := by
  obtain heq | ⟨-, ⟨d, hb⟩, heq⟩ := s.slotEraseEnds_cases n ok <;> rw [heq]
  · exact (State.SlotsStand.refl s).forward
  · refine State.forward_onSlot (.refl _) ?_
    rw [State.onSlot_same, Slot.state_of_body hb]
    rfl

/-- The end of a store action moves slots forward only; before the records are loaded it moves none (R175, R177). -/
theorem State.forward_actionEnds (s : State) (a : StoreAct) (ok : Bool) : s.Forward (s.actionEnds a ok) := by
  unfold State.actionEnds
  split
  · exact (State.SlotsStand.refl s).forward
  · next hstart =>
    have hl (h : s.StartSound) : s.loaded = true := by
      by_contra hno
      exact hstart ⟨h.1 (Bool.eq_false_iff.mpr hno), hno⟩
    split
    · exact s.forward_slotWriteEnds _ ok
    · exact s.forward_slotEraseEnds _ ok
    · exact (s.advances_imageWriteEnds ok).keys.slots.forward
    · exact (s.advances_bootWriteEnds hl _ ok).keys.slots.forward

/-- A LOAD completion lets every slot but its own stand or move on. -/
theorem State.onward_execLoadCompletion {s t : State} (hx : execLoadCompletion s = .next t) {n : SlotNo}
    (hn : ∀ q k, s.kfu.job = some (.loadJob q k) → q.slot ≠ n) : s.slots[n].body.Onward t.slots[n].body := by
  unfold execLoadCompletion at hx
  split at hx <;> cases hx
  · next q k hj =>
    have hsettle (u : State) : u.SlotsStand u.arbitrate.driveAlerts := u.carries_settle.keys.slots
    split
    · refine .trans ?_ (((State.keysStand_requestStore _ (.writeSlot q.slot)).slots.trans (hsettle _)) n)
      rw [State.onSlot_other _ _ _ _ (hn q k hj).symm]
      exact .refl _
    · exact ((State.stands_finishExecuting s.freeUnit _).keys.slots.trans (hsettle _)) n
  · exact .refl _

/-- Settles O9: a slot stands or moves on in the order of its states, but for the end of its first write, which finds it LOADING,
and the end of its erase, which finds it ERASING. -/
theorem slotsMoveForward : Obligations.SlotsMoveForward := by
  intro c s t n hx hps hpt hc hn
  by_cases hi : touchesKeys c = false
  · exact (State.exec_advances hi hx).keys.slots.forward n
  cases c
  case loadCompletion => exact Slot.forward_of_onward (State.onward_execLoadCompletion hx hn)
  case mainPowerFail p =>
    simp only [exec, execMainPowerFail, hps, if_true] at hx
    cases hx
    rw [State.driveAlerts_power] at hpt
    cases hpt
  case powerOn low =>
    simp only [exec, execPowerOn, hps, if_true] at hx
    cases hx
    exact (State.SlotsStand.refl s).forward n
  case startUp => exact absurd rfl hc
  case storeActionComplete =>
    simp only [exec, execStoreActionComplete] at hx
    split at hx <;> cases hx
    · exact (State.SlotsStand.refl s).forward n
    · next a _ =>
      exact State.Forward.of_slots (State.forward_actionEnds { s with store := (s.store.applied a).idle } a true) (by simp) n
  case storeActionFailed left =>
    simp only [exec, execStoreActionFailed] at hx
    split at hx <;> cases hx
    · next a _ _ =>
      exact State.Forward.of_slots
        (State.forward_actionEnds (State.latch { s with store := (s.store.left a left).idle } .storeFault) a false) (by simp) n
    · exact (State.SlotsStand.refl s).forward n
  all_goals exact absurd rfl hi

/-! ### The start through every command (R7, R123, R154, R177) -/

theorem State.StartSound.actionEnds {s : State} (h : s.StartSound) (a : StoreAct) (ok : Bool) :
    (s.actionEnds a ok).StartSound := by
  unfold State.actionEnds
  split
  · exact h
  · next hstart =>
    have hl : s.loaded = true := by
      by_contra hno
      exact hstart ⟨h.1 (Bool.eq_false_iff.mpr hno), hno⟩
    split
    · next n _ =>
      obtain ⟨heq, -⟩ | ⟨stored, d, -, heq⟩ := s.slotWriteEnds_cases n ok <;> rw [heq]
      · exact h
      · split
        · obtain ⟨st, r, -, hdone⟩ := s.firstWriteDone_eq n stored d
          rw [hdone]
          exact ((State.carries_afterFirstWrite _).startSound (h.onSlot n _)).finishExecuting r
        · exact ((State.carries_requestStore _ _).startSound (h.onSlot n _)).finishExecuting _
    · next n =>
      obtain heq | ⟨-, -, heq⟩ := s.slotEraseEnds_cases n ok <;> rw [heq]
      · exact h
      · exact h.onSlot n _
    · exact (s.advances_imageWriteEnds ok).start h
    · exact (s.advances_bootWriteEnds (fun _ => hl) _ ok).start h

theorem State.StartSound.execLoadCompletion {s t : State} (h : s.StartSound) (hx : execLoadCompletion s = .next t) :
    t.StartSound := by
  unfold Machine.execLoadCompletion at hx
  split at hx <;> cases hx
  · next q k hj =>
    have hs := h.not_starting_of_job hj
    have hfree : s.freeUnit.StartSound := State.startSound_of_loaded (s := s.freeUnit) (h.loaded_of_not_starting hs) hs
    refine (State.carries_settle _).startSound ?_
    split
    · exact (State.carries_requestStore _ _).startSound (hfree.onSlot _ _)
    · exact hfree.finishExecuting _
  · exact h

end Sys2Proof.Machine
end

section
/-! Proofs for the key slots: the LOAD completion, the ends of store actions and the starts keep the generations apart (R64, R65,
R67 to R71), and with them every command. -/

namespace Sys2Proof.Machine

/-! ### The LOAD completion (R68, R69) -/

section
variable {s : State} (h : s.GenerationsSound)
include h

/-- A LOAD job leaves the unit: its request was the one in hand, for an EMPTY slot and of a generation in no slot. -/
theorem State.GenerationsSound.freeUnit_load {q : LoadReq} {k : Block} (hj : s.kfu.job = some (.loadJob q k)) :
    s.freeUnit.GenerationsSound ∧ s.freeUnit.NoLoad ∧ s.station.isExecuting .loadKey = true ∧ s.slots[q.slot].body = .empty ∧
      ∀ (n : SlotNo) (d : KeyData), s.slots[n].data = some d →
        ¬ (d.issuer = q.issuer ∧ d.role = q.role ∧ d.generation = q.generation) := by
  obtain ⟨hstart, hload, hapart, hrest⟩ := h
  have hserv := hstart.not_starting_of_job hj
  have hloaded := hstart.loaded_of_not_starting hserv
  obtain ⟨hone, hex⟩ := hload hloaded
  obtain ⟨hfresh, hfollow⟩ := hrest hloaded
  have hreq : s.loadRequests = (s.station.load.map Prod.fst).toList ++ [q] := by rw [State.loadRequests, hj]
  have hmem : q ∈ s.loadRequests := by rw [hreq]; exact List.mem_append_right _ (List.mem_singleton_self q)
  obtain ⟨hempty, hgen⟩ := hfresh q hmem
  rw [hreq, List.length_append, List.length_singleton] at hone
  have hno : s.freeUnit.NoLoad := by
    constructor
    · rw [State.loadRequests_free (s := s.freeUnit) rfl]
      exact List.eq_nil_of_length_eq_zero (by rw [show s.freeUnit.station = s.station from rfl]; omega)
    · exact List.eq_nil_of_length_eq_zero (by rw [show s.freeUnit.loadingSlots = s.loadingSlots from rfl]; omega)
  exact ⟨⟨State.startSound_of_loaded (s := s.freeUnit) hloaded hserv, State.loadSound_of_noLoad hno, hapart, fun _ =>
    ⟨State.loadsFresh_of_noLoad hno, hfollow⟩⟩, hno, hex (.inl (List.ne_nil_of_mem hmem)), hempty, hgen⟩

/-- From the loading of the records on, a key found with a slot is the slot's own. -/
theorem State.GenerationsSound.data_of_mem_keysAt (hl : s.loaded = true) {n : SlotNo} {a : KeyData} (ha : a ∈ s.keysAt n) :
    s.slots[n].data = some a := by
  obtain ⟨-, -, -, hrest⟩ := h
  obtain ⟨-, hrec, hact⟩ := hrest hl
  obtain ha | ⟨r, hr, rfl⟩ | ⟨r, hr, rfl⟩ := State.mem_keysAt.mp ha
  · exact ha
  · obtain ⟨st, hb, -⟩ := hrec n r hr
    rw [Slot.data, hb]
  · exact hact n r hr

/-- An EMPTY slot enters LOADING with a key whose generation no slot holds, with no LOAD waiting or running (R64, R69). -/
theorem State.GenerationsSound.enterLoading (hl : s.loaded = true) (hno : s.NoLoad)
    (hx : s.station.isExecuting .loadKey = true) {n : SlotNo} (hempty : s.slots[n].body = .empty) {d : KeyData}
    (hgen : ∀ (k : SlotNo) (a : KeyData), s.slots[k].data = some a → ¬ a.sameGeneration d) (stored : LoadState) :
    (s.onSlot n fun sl => { sl with body := .held (.loading stored) d }).GenerationsSound := by
  have hown := @State.GenerationsSound.data_of_mem_keysAt s h hl
  obtain ⟨hstart, -, hapart, hrest⟩ := h
  obtain ⟨-, hrec, hact⟩ := hrest hl
  have hnone (k : SlotNo) (r : SlotRecord) (hr : s.store.slots[k] = .intact r ∨ s.store.action = some (.writeSlot k r)) :
      k ≠ n := by
    rintro rfl
    have hd := hown (State.mem_keysAt.mpr (.inr (hr.imp (⟨r, ·, rfl⟩) (⟨r, ·, rfl⟩))))
    rw [Slot.data, hempty] at hd
    cases hd
  have hsame : (s.onSlot n fun sl => { sl with body := .held (.loading stored) d }).slots[n].body =
      .held (.loading stored) d := by rw [State.onSlot_same]
  have hother (k : SlotNo) (hk : k ≠ n) :
      (s.onSlot n fun sl => { sl with body := .held (.loading stored) d }).slots[k] = s.slots[k] :=
    State.onSlot_other _ n k _ hk
  have hkeys (k : SlotNo) (a : KeyData) (ha : a ∈ (s.onSlot n fun sl => { sl with body := .held (.loading stored) d }).keysAt k) :
      k = n ∧ a = d ∨ a ∈ s.keysAt k := by
    obtain ha | ha := State.mem_keysAt.mp ha
    · by_cases hkn : k = n
      · subst hkn
        rw [Slot.data, hsame] at ha
        exact .inl ⟨rfl, (Option.some.inj ha).symm⟩
      · rw [hother k hkn] at ha
        exact .inr (State.mem_keysAt.mpr (.inl ha))
    · exact .inr (State.mem_keysAt.mpr (.inr ha))
  refine ⟨hstart.onSlot n _, fun _ => ⟨?_, fun _ => hx⟩, fun k m a ha b hb hab => ?_, fun _ =>
    ⟨?_, fun k r hr => ?_, fun k r hr => ?_⟩⟩
  · rw [show (s.onSlot n fun sl => { sl with body := .held (.loading stored) d }).loadRequests = [] from hno.1]
    have hslots : (s.onSlot n fun sl => { sl with body := .held (.loading stored) d }).loadingSlots.Sublist
        ((List.finRange 24).filter (· == n)) := by
      refine List.monotone_filter_right _ fun k hk => ?_
      by_cases hkn : k = n
      · simpa using hkn
      · rw [hother k hkn] at hk
        have hmem := (State.mem_loadingSlots k).mpr (by simpa using hk)
        rw [hno.2] at hmem
        cases hmem
    simp only [List.length_nil, Nat.zero_add]
    refine hslots.length_le.trans ?_
    rw [← List.countP_eq_length_filter]
    exact List.nodup_iff_count_le_one.mp (List.nodup_finRange 24) n
  · obtain ⟨hk, had⟩ | hka := hkeys k a ha <;> obtain ⟨hm, hbd⟩ | hmb := hkeys m b hb
    · exact hk.trans hm.symm
    · obtain ⟨hi, hr, hg⟩ := hab
      exact absurd (had ▸ ⟨hi.symm, hr.symm, hg.symm⟩) (hgen m b (hown hmb))
    · exact absurd (hbd ▸ hab) (hgen k a (hown hka))
    · exact hapart k m a hka b hmb hab
  · intro q hq
    rw [show (s.onSlot n fun sl => { sl with body := .held (.loading stored) d }).loadRequests = [] from hno.1] at hq
    cases hq
  · rw [hother k (hnone k r (.inl hr))]
    exact hrec k r hr
  · rw [hother k (hnone k r (.inr hr))]
    exact hact k r hr

theorem State.GenerationsSound.execLoadCompletion {t : State} (hx : execLoadCompletion s = .next t) : t.GenerationsSound := by
  unfold Machine.execLoadCompletion at hx
  split at hx <;> cases hx
  · next q k hj =>
    have hl := h.1.loaded_of_not_starting (h.1.not_starting_of_job hj)
    obtain ⟨hfree, hno, hex, hempty, hgen⟩ := h.freeUnit_load hj
    refine (State.carries_settle _).generationsSound ?_
    split
    · exact (State.carries_requestStore _ (.writeSlot q.slot)).generationsSound
        (hfree.enterLoading hl hno hex hempty (d := ⟨q.issuer, q.role, q.generation, q.activation, q.expiry, _, q.check⟩) hgen _)
    · exact hfree.finishExecuting hno _
  · exact h

/-! ### The ends of store actions (R70, R71, R86, R174, R175) -/

/-- The end of a write of a slot record. A first write that fails must not leave the slot's key in the record. -/
theorem State.GenerationsSound.slotWriteEnds (hl : s.loaded = true) {n : SlotNo} {r : SlotRecord}
    (ha : s.store.action = some (.writeSlot n r)) {st : Store} (he : s.store.Ended st) {ok : Bool}
    (hfail : ok = false → s.slots[n].state = .loading → ∀ r', st.slots[n] ≠ .intact r') :
    (State.slotWriteEnds { s with store := st } n ok).GenerationsSound := by
  obtain ⟨heq, hn⟩ | ⟨stored, d, hb, heq⟩ := State.slotWriteEnds_cases { s with store := st } n ok <;> rw [heq]
  · refine h.ended he fun _ k r' hk hload => ?_
    rw [ha] at hk
    cases hk
    exact absurd hload hn
  have hloading : s.slots[n].state = .loading := by rw [Slot.state_of_body hb]; rfl
  have hdata : s.slots[n].data = some d := by rw [Slot.data, hb]
  have hrecord (r' : SlotRecord) (hr : st.slots[n] = .intact r') : some d = some r'.data := by
    rw [← hdata]
    obtain ⟨-, -, -, hrest⟩ := h
    obtain ⟨-, hrec, hact⟩ := hrest hl
    obtain hold | hnew := he.record n r' hr
    · obtain ⟨hs, hb', -⟩ := hrec n r' hold
      rw [Slot.data, hb']
    · exact hact n r' hnew
  cases ok with
  | true =>
    obtain ⟨hs, reply, hpast, hdone⟩ := State.firstWriteDone_eq { s with store := st } n stored d
    rw [if_pos rfl, hdone]
    have hf (sl : Slot) : Slot.state { sl with body := .held hs d } ≠ .loading := by
      cases hs with
      | loading x => exact absurd rfl (hpast x)
      | _ => exact nofun
    obtain ⟨hleft, hno⟩ := h.leaveLoading hl hloading he (f := fun sl => { sl with body := .held hs d })
      (hf _) (fun a hx => hdata.trans hx) hrecord
    have hc := State.carries_afterFirstWrite (State.onSlot { s with store := st } n fun sl => { sl with body := .held hs d })
    exact (hc.generationsSound hleft).finishExecuting (hc.noLoad hno) reply
  | false =>
    rw [if_neg Bool.false_ne_true]
    obtain ⟨hleft, hno⟩ := h.leaveLoading hl hloading he (f := fun sl => { sl with body := .empty }) nofun nofun
      fun r' hr => absurd hr (hfail rfl hloading r')
    have hc := State.carries_requestStore (State.onSlot { s with store := st } n fun sl => { sl with body := .empty })
      (.eraseSlot n)
    exact (hc.generationsSound hleft).finishExecuting (hc.noLoad hno) _

/-- The end of an action. A completed erase leaves no key in its record. -/
theorem State.GenerationsSound.actionEnds {a : StoreAct} (ha : s.store.action = some a) {st : Store} (he : s.store.Ended st)
    {ok : Bool} (herase : ok = true → ∀ n, a = .eraseSlot n → ∀ r, st.slots[n] ≠ .intact r)
    (hfail : s.loaded = true → ok = false → ∀ n r, a = .writeSlot n r → s.slots[n].state = .loading →
      ∀ r', st.slots[n] ≠ .intact r') :
    (State.actionEnds { s with store := st } a ok).GenerationsSound := by
  have hother (hw : ∀ n r, a ≠ .writeSlot n r) : State.GenerationsSound { s with store := st } :=
    h.ended he fun _ k r hk => absurd (Option.some.inj (ha.symm.trans hk)) (hw k r)
  unfold State.actionEnds
  split
  · next hstart => exact h.ended he fun hl => absurd hl hstart.2
  · next hstart =>
    have hl : s.loaded = true := by
      by_contra hno
      exact hstart ⟨h.1.1 (Bool.eq_false_iff.mpr hno), hno⟩
    split
    · next n r => exact h.slotWriteEnds hl ha he fun hok => hfail hl hok n r rfl
    · next n =>
      have hend := hother nofun
      obtain heq | ⟨hok, ⟨d, hb⟩, heq⟩ := State.slotEraseEnds_cases { s with store := st } n ok <;> rw [heq]
      · exact hend
      · exact hend.erased hb (herase hok n rfl) he.idle
    · exact (State.advances_imageWriteEnds { s with store := st } ok).sound (hother nofun)
    · exact (State.advances_bootWriteEnds { s with store := st } (fun _ => hl) _ ok).sound (hother nofun)

theorem State.GenerationsSound.execStoreActionComplete {t : State} (hx : execStoreActionComplete s = .next t) :
    t.GenerationsSound := by
  unfold Machine.execStoreActionComplete at hx
  split at hx <;> cases hx
  · exact h
  · next a ha =>
    refine (State.carries_driveAlerts _).generationsSound ((State.carries_beginNext _).generationsSound ?_)
    refine h.actionEnds ha (Store.ended_applied ha) (fun _ n hn r hr => ?_) nofun
    subst hn
    simp [Store.applied, Store.idle] at hr

/-- A failed action keeps the generations apart, unless it was the first write of a LOADING slot and left the new content. -/
theorem State.GenerationsSound.execStoreActionFailed {left : AttemptLeft} {t : State}
    (hx : execStoreActionFailed left s = .next t)
    (hno : ¬ (s.loaded = true ∧ left = .new ∧ ∃ n r, s.store.action = some (.writeSlot n r) ∧ s.slots[n].state = .loading)) :
    t.GenerationsSound := by
  unfold Machine.execStoreActionFailed at hx
  split at hx <;> cases hx
  · next a ha _ =>
    refine (State.carries_driveAlerts _).generationsSound ((State.carries_beginNext _).generationsSound ?_)
    refine ((s.carries_latch .storeFault).generationsSound h).actionEnds ha (Store.ended_left ha left) nofun
      fun hl _ n r hw hload r' hr => ?_
    subst hw
    cases left with
    | former =>
      obtain ⟨-, -, -, hrest⟩ := h
      obtain ⟨st, hb, hst⟩ := (hrest hl).2.1 n r' hr
      have hload' : s.slots[n].state = .loading := hload
      rw [Slot.state, hb] at hload'
      cases st with
      | loading x => exact hst x rfl
      | _ => cases hload'
    | new => exact hno ⟨hl, rfl, n, r, ha, hload⟩
    | failing => simp [Store.left, Store.torn, Store.idle] at hr
  · exact h

end

/-- In the case shut out the slots still hold each generation once: the LOADING slot gives up its key. -/
theorem State.KeysApart.execStoreActionFailed {s t : State} (h : s.KeysApart) {left : AttemptLeft}
    (hx : execStoreActionFailed left s = .next t) (hl : s.loaded = true) {n : SlotNo} {r : SlotRecord}
    (ha : s.store.action = some (.writeSlot n r)) (hn : s.slots[n].state = .loading) : t.KeysApart := by
  unfold Machine.execStoreActionFailed at hx
  split at hx <;> cases hx
  · next a ha' _ =>
    rw [ha] at ha'
    cases ha'
    refine ((State.KeysApart.stand ?_ (State.carries_beginNext _).keys).stand (State.carries_driveAlerts _).keys)
    rw [State.actionEnds, if_neg fun hx => hx.2 hl]
    obtain ⟨-, hno⟩ | ⟨stored, d, -, heq⟩ := State.slotWriteEnds_cases
      (State.latch { s with store := (s.store.left (.writeSlot n r) left).idle } .storeFault) n false
    · exact absurd hn hno
    rw [heq]
    refine State.KeysApart.stand ?_ (State.keysStand_firstWriteFailed _ n)
    refine h.ended (Store.ended_left ha left) fun k a hk => ?_
    by_cases hkn : k = n
    · subst hkn
      rw [State.onSlot_same] at hk
      cases hk
    · rwa [State.onSlot_other _ _ _ _ hkn] at hk
  · exact h

end Sys2Proof.Machine
end

section
/-! Proofs for the key slots: the loss of main power, power-on and the loading of the records (R65, R151, R176 to R181), and the start
and the generations through every command. -/

namespace Sys2Proof.Machine

/-! ### Main power (R151, R176, R177) -/

theorem Store.ended_powerLost (st : Store) (p : ActionPoint) : st.Ended (st.powerLost p).idle := by
  unfold Store.powerLost
  split
  · exact st.ended_former
  · exact st.ended_former
  · exact st.ended_torn _
  · next ha => exact Store.ended_applied ha

theorem State.startSound_mainLost (s : State) : s.mainLost.StartSound := s.queuesSound_mainLost.2.2.2.1

/-- A module without its slots holds its keys in the records alone. -/
theorem State.KeysApart.mainLost {s t : State} (h : s.KeysApart) (he : s.store.Ended t.store)
    (ht : ∀ n : SlotNo, t.slots[n].data = none) : t.KeysApart :=
  h.ended he fun n a hd => by
    rw [ht n] at hd
    cases hd

theorem State.data_mainLost (s : State) (n : SlotNo) : s.mainLost.slots[n].data = none := by
  simp [State.mainLost, State.reset, Slot.fresh, Slot.data]

theorem State.carries_powerOn (s : State) (low : Bool) :
    ∃ c, State.Carries { s.mainLost with power := true, clock := c } (s.powerOn low) := by
  refine ⟨s.mainLost.clock.powerOn low, ?_⟩
  unfold State.powerOn
  dsimp only
  split
  · exact State.carries_latch _ _
  · exact .refl _

/-! ### The records are loaded (R65, R178, R179) -/

/-- The module with the slot records read into the slot table and nothing else of the start done. -/
def State.withRecords (s : State) : State :=
  { s.loadConfig with slots := Vector.ofFn fun n : SlotNo => slotFrom s.loadConfig.store.slots[n], loaded := true }

theorem State.loadConfig_store (s : State) : s.loadConfig.store = s.store := by
  unfold State.loadConfig
  dsimp only
  split <;> rfl

theorem State.slots_withRecords (s : State) (n : SlotNo) : s.withRecords.slots[n] = slotFrom s.store.slots[n] := by
  simp [State.withRecords, s.loadConfig_store]

theorem State.store_withRecords (s : State) : s.withRecords.store = s.store := s.loadConfig_store

/-- A slot filled from a record holds the record's key, past its loading. -/
theorem slotFrom_intact (r : SlotRecord) :
    ∃ st, (slotFrom (.intact r)).body = .held st r.data ∧ ∀ x, st ≠ .loading x := by
  obtain ⟨d, st⟩ := r
  cases st <;> exact ⟨_, rfl, nofun⟩

/-- Only an intact record gives a slot a key. -/
theorem slotFrom_data {x : Rec SlotRecord} {d : KeyData} (h : (slotFrom x).data = some d) : ∃ r, x = .intact r ∧ d = r.data := by
  cases x with
  | blank => cases h
  | failing => cases h
  | intact r =>
    obtain ⟨st, hb, -⟩ := slotFrom_intact r
    rw [Slot.data, hb] at h
    exact ⟨r, rfl, (Option.some.inj h).symm⟩

theorem State.Carries.setLoaded {s t : State} (h : s.Carries t) :
    State.Carries { s with loaded := true } { t with loaded := true } :=
  ⟨⟨⟨h.keys.slots, h.keys.records, h.keys.action⟩, h.service, rfl⟩, h.queue, h.requests, h.idle⟩

theorem State.carries_loadSlotRecord (s : State) (n : SlotNo) : s.Carries (s.loadSlotRecord n) := by
  have hlatch : s.Carries (if s.store.slots[n] == .failing then s.latch .slotLost else s) := by
    split
    · exact s.carries_latch _
    · exact .refl s
  unfold State.loadSlotRecord
  dsimp only
  split
  · exact hlatch.trans (State.carries_requestStore _ _)
  · exact hlatch

/-- Beyond the slots read, the loading of the slot records carries on what is in hand (R179). -/
theorem State.carries_loadSlots (s : State) :
    State.Carries { s with slots := Vector.ofFn fun n : SlotNo => slotFrom s.store.slots[n] } s.loadSlots :=
  .foldl (fun t n => t.carries_loadSlotRecord n) _ _

/-- So does the evaluation that follows (R180). -/
theorem State.carries_startSlots (s : State) :
    State.Carries { s with slots := Vector.ofFn fun n : SlotNo => slotFrom s.store.slots[n] } s.startSlots := by
  have hslots := s.carries_loadSlots.trans (State.carries_evaluate _)
  unfold State.startSlots
  dsimp only
  generalize s.loadSlots.evaluate = t at hslots ⊢
  exact hslots.trans (.of_lanes rfl rfl rfl rfl rfl rfl rfl rfl)

theorem State.carries_withRecords (s : State) : s.withRecords.Carries { s.loadConfig.startSlots with loaded := true } :=
  s.loadConfig.carries_startSlots.setLoaded

theorem State.StartSound.withRecords {s : State} (h : s.StartSound) (hs : s.service = .starting) : s.withRecords.StartSound := by
  obtain ⟨hservice, hstation, hkfu, -, hctx⟩ := s.loadConfig_frame
  obtain ⟨hj, hq, hl, hf⟩ := h.2 hs
  refine ⟨nofun, fun _ => ⟨?_, ?_, ?_, fun l c => ?_⟩⟩
  · exact (congrArg Kfu.job hkfu).trans hj
  · exact (congrArg Station.queue hstation).trans hq
  · exact (congrArg Station.load hstation).trans hl
  · exact (congrArg Context.body (hctx l c)).trans (hf l c)

/-- The records read fill no two slots with one generation, and nothing is in hand (R64, R65). -/
theorem State.GenerationsSound.withRecords {s : State} (h : s.GenerationsSound) (hs : s.service = .starting)
    (ha : s.store.action = none) : s.withRecords.GenerationsSound := by
  obtain ⟨hstart, -, hapart, -⟩ := h
  have hstart' := hstart.withRecords hs
  obtain ⟨hservice, -, -, -, -⟩ := s.loadConfig_frame
  obtain ⟨hj, -, hl, -⟩ := hstart'.2 (hservice.trans hs)
  have hno : s.withRecords.NoLoad := by
    refine ⟨by rw [State.loadRequests, hj, hl]; rfl, List.eq_nil_iff_forall_not_mem.mpr fun n hn => ?_⟩
    rw [State.mem_loadingSlots, State.slots_withRecords] at hn
    exact slotFrom_not_loading _ hn
  refine ⟨hstart', State.loadSound_of_noLoad hno, ?_, fun _ =>
    ⟨State.loadsFresh_of_noLoad hno, fun n r hr => ?_, fun n r hr => ?_⟩⟩
  · refine State.KeysApart_mono hapart fun n a hk => ?_
    rw [State.mem_keysAt, State.store_withRecords, State.slots_withRecords] at hk
    rw [State.mem_keysAt]
    obtain hd | hk := hk
    · exact .inr (.inl (slotFrom_data hd))
    · exact .inr hk
  · rw [State.store_withRecords] at hr
    rw [State.slots_withRecords, hr]
    exact slotFrom_intact r
  · rw [State.store_withRecords, ha] at hr
    cases hr

theorem State.advances_loadBoot (s : State) (hl : s.loaded = true) : s.Advances s.loadBoot := by
  have hread (b : Option (BitVec 32)) (k : Option (BitVec 32)) : s.Carries
      { s with station := { s.station with knownBoot := b }, kfu := { s.kfu with boot := k } } :=
    .of_lanes rfl rfl rfl rfl rfl rfl rfl rfl
  unfold State.loadBoot
  split
  · next b _ =>
    dsimp only
    split
    · exact (hread (some b) (some lastCount)).advances.setService (by decide) fun _ => hl
    · exact ((hread (some b) (some (b + 1))).trans (State.carries_requestStore _ _)).advances
  · exact ((hread none none).advances.setService (by decide) fun _ => hl).trans (State.carries_latch _ _).advances

/-- START_UP goes on in STARTING, with the records not loaded and no store action in progress. -/
theorem State.startReady_iff {s : State} :
    s.startReady = true ↔ s.power = true ∧ s.service = .starting ∧ s.loaded = false ∧ s.store.busy = false := by
  simp only [State.startReady, Bool.and_eq_true, beq_iff_eq, Bool.not_eq_true', and_assoc]

/-- START_UP reads the records, or changes nothing. -/
theorem execStartUp_cases {s t : State} (hx : execStartUp s = .next t) :
    s.withRecords.Advances t ∧ s.service = .starting ∧ s.loaded = false ∧ s.store.action = none ∨ t = s := by
  unfold execStartUp at hx
  split at hx <;> rw [Host.Outcome.next.injEq] at hx <;> subst hx
  · next hready =>
    obtain ⟨-, hs, hno, hbusy⟩ := State.startReady_iff.mp hready
    refine .inl ⟨?_, hs, hno, ?_⟩
    · exact (s.carries_withRecords.advances.trans (State.advances_loadBoot _ rfl)).trans (State.carries_driveAlerts _).advances
    · simp only [Store.busy, Bool.or_eq_false_iff, Option.isSome_eq_false_iff, Option.isNone_iff_eq_none] at hbusy
      exact hbusy.1
  · exact .inr rfl

/-! ### Every command -/

/-- The start stays sound through every command (R7, R123, R154, R177). -/
theorem State.StartSound.exec {i : Instr} {s t : State} (h : s.StartSound) (hx : exec i s = .next t) : t.StartSound := by
  by_cases hi : touchesKeys i = false
  · exact (State.exec_advances hi hx).start h
  cases i
  case loadCompletion => exact h.execLoadCompletion hx
  case mainPowerFail p =>
    simp only [Machine.exec, execMainPowerFail] at hx
    split at hx <;> cases hx
    · exact (State.carries_driveAlerts _).startSound (State.startSound_mainLost _)
    · exact h
  case powerOn low =>
    simp only [Machine.exec, execPowerOn] at hx
    split at hx <;> cases hx
    · exact h
    · exact (State.carries_driveAlerts _).startSound (s.queuesSound_powerOn low).2.2.2.1
  case startUp =>
    obtain ⟨hadv, hs, -, -⟩ | rfl := execStartUp_cases hx
    · exact hadv.start (h.withRecords hs)
    · exact h
  case storeActionComplete =>
    simp only [Machine.exec, execStoreActionComplete] at hx
    split at hx <;> cases hx
    · exact h
    · exact (State.carries_driveAlerts _).startSound ((State.carries_beginNext _).startSound ((h.setStore _).actionEnds _ _))
  case storeActionFailed left =>
    simp only [Machine.exec, execStoreActionFailed] at hx
    split at hx <;> cases hx
    · exact (State.carries_driveAlerts _).startSound ((State.carries_beginNext _).startSound
        (((State.carries_latch _ _).startSound (h.setStore _)).actionEnds _ _))
    · exact h
  all_goals exact absurd rfl hi

/-- The generations stay sound through every command but the failed first write that leaves its content. -/
theorem State.GenerationsSound.exec {i : Instr} {s t : State} (h : s.GenerationsSound) (hx : exec i s = .next t)
    (hno : ¬ (s.loaded = true ∧ i = .storeActionFailed .new ∧
      ∃ n r, s.store.action = some (.writeSlot n r) ∧ s.slots[n].state = .loading)) : t.GenerationsSound := by
  by_cases hi : touchesKeys i = false
  · exact (State.exec_advances hi hx).sound h
  cases i
  case loadCompletion => exact h.execLoadCompletion hx
  case mainPowerFail p =>
    simp only [Machine.exec, execMainPowerFail] at hx
    split at hx <;> cases hx
    · refine (State.carries_driveAlerts _).generationsSound ?_
      refine State.generationsSound_of_unloaded (State.queuesSound_mainLost _) ?_ rfl
      exact h.2.2.1.mainLost ⟨rfl, (s.store.ended_powerLost p).record⟩ (State.data_mainLost _)
    · exact h
  case powerOn low =>
    simp only [Machine.exec, execPowerOn] at hx
    split at hx <;> cases hx
    · exact h
    · obtain ⟨c, hc⟩ := s.carries_powerOn low
      refine ((hc.trans (State.carries_driveAlerts _))).generationsSound ?_
      refine State.generationsSound_of_unloaded (s.queuesSound_mainLost.same ⟨rfl, rfl, rfl, rfl, rfl, rfl, rfl⟩ rfl) ?_ rfl
      exact h.2.2.1.mainLost ⟨rfl, s.store.ended_former.record⟩ s.data_mainLost
  case startUp =>
    obtain ⟨hadv, hs, -, ha⟩ | rfl := execStartUp_cases hx
    · exact hadv.sound (h.withRecords hs ha)
    · exact h
  case storeActionComplete => exact h.execStoreActionComplete hx
  case storeActionFailed left =>
    refine h.execStoreActionFailed hx fun ⟨hl, hnew, hw⟩ => hno ⟨hl, ?_, hw⟩
    rw [hnew]
  all_goals exact absurd rfl hi

/-- Settles O34: the generations stay sound through every command; in the one shut out the keys of slots, records and the write in
progress are still apart. -/
theorem generationsKept : Obligations.GenerationsKept := by
  intro s t h hx
  unfold step at hx
  split at hx
  · cases hx
    exact ⟨h.2.2.1.oneSlot, fun _ => h⟩
  next i rest hp =>
  have hrest : State.GenerationsSound { s with pending := rest } :=
    (State.Carries.of_lanes (t := { s with pending := rest }) rfl rfl rfl rfl rfl rfl rfl rfl).generationsSound h
  by_cases hleft : s.FailedLoadLeft
  · refine ⟨?_, fun hno => absurd hleft hno⟩
    obtain ⟨hl, hhead, n, r, ha, hn⟩ := hleft
    rw [hp] at hhead
    cases hhead
    exact (hrest.2.2.1.execStoreActionFailed hx hl ha hn).oneSlot
  · have ht := hrest.exec hx fun ⟨hl, hi, hw⟩ => hleft ⟨hl, by rw [hp, hi]; rfl, hw⟩
    exact ⟨ht.2.2.1.oneSlot, fun _ => ht⟩

end Sys2Proof.Machine
end

section
/-! Proofs for the key slots: the reference counts as an account (R83). What the operations on slots and contexts leave of the uses of
a slot, and how a context and the job in flight take a use over or give one back. -/

namespace Sys2Proof.Machine

/-! ### The account -/

/-- The marks stand for the job in flight (R2), and the counts equal the uses from the loading of the records on (R83). -/
def State.Counted (s : State) : Prop := s.JobSound ∧ (s.loaded = true → ∀ n : SlotNo, s.slots[n].refs = s.usesOf n)

/-- The use of a slot by one context. -/
def State.namedBy (s : State) (l : LaneNo) (c : CtxNo) (n : SlotNo) : Nat := if (s.ctx l c).body.master = some n then 1 else 0

/-- The use of a slot by the job in flight. -/
def State.signedWith (s : State) (n : SlotNo) : Nat := if s.kfu.job.bind Job.signer = some n then 1 else 0

theorem State.signedWith_of_none {s : State} (hs : s.kfu.job.bind Job.signer = none) (n : SlotNo) : s.signedWith n = 0 := by
  rw [State.signedWith, hs]
  rfl

theorem countP_eq_sum {α : Type} (p : α → Bool) (as : List α) : as.countP p = (as.map fun a => if p a then 1 else 0).sum := by
  induction as with
  | nil => rfl
  | cons a as ih =>
    rw [List.countP_cons, List.map_cons, List.sum_cons, ih]
    omega

/-- The uses of a slot, context by context. -/
theorem State.usesOf_eq_sum (s : State) (n : SlotNo) :
    s.usesOf n = (∑ p : LaneNo × CtxNo, s.namedBy p.1 p.2 n) + s.signedWith n := by
  rw [State.usesOf, Fintype.sum_prod_type, Fin.sum_univ_def]
  congr 2
  refine List.map_congr_left fun l _ => ?_
  rw [Fin.sum_univ_def, countP_eq_sum]
  simp only [beq_iff_eq, State.namedBy]

/-- Where all contexts but one stand, the uses differ by that context and the job in flight alone. -/
theorem State.usesOf_exchange {s t : State} {l : LaneNo} {c : CtxNo}
    (hother : ∀ k d, ¬ (k = l ∧ d = c) → (t.ctx k d).body = (s.ctx k d).body) (n : SlotNo) :
    t.usesOf n + (s.namedBy l c n + s.signedWith n) = s.usesOf n + (t.namedBy l c n + t.signedWith n) := by
  have hrest : ∑ p ∈ Finset.univ.erase (l, c), t.namedBy p.1 p.2 n = ∑ p ∈ Finset.univ.erase (l, c), s.namedBy p.1 p.2 n := by
    refine Finset.sum_congr rfl fun p hp => ?_
    rw [State.namedBy, State.namedBy, hother p.1 p.2 fun hx => Finset.ne_of_mem_erase hp (Prod.ext hx.1 hx.2)]
  have hs := Finset.add_sum_erase Finset.univ (fun p : LaneNo × CtxNo => s.namedBy p.1 p.2 n) (Finset.mem_univ (l, c))
  have ht := Finset.add_sum_erase Finset.univ (fun p : LaneNo × CtxNo => t.namedBy p.1 p.2 n) (Finset.mem_univ (l, c))
  dsimp only at hs ht
  rw [State.usesOf_eq_sum, State.usesOf_eq_sum]
  omega

/-- A use of one context is one of the slot's. -/
theorem State.namedBy_add_signedWith_le (s : State) (l : LaneNo) (c : CtxNo) (n : SlotNo) :
    s.namedBy l c n + s.signedWith n ≤ s.usesOf n := by
  have hs := Finset.add_sum_erase Finset.univ (fun p : LaneNo × CtxNo => s.namedBy p.1 p.2 n) (Finset.mem_univ (l, c))
  dsimp only at hs
  rw [State.usesOf_eq_sum]
  omega

/-! ### The same account -/

/-- The contexts' states and marks, the job in flight and the counts stand. -/
structure State.SameUses (s t : State) : Prop where
  loaded : t.loaded = s.loaded
  job : t.kfu.job = s.kfu.job
  body : ∀ l c, (t.ctx l c).body = (s.ctx l c).body
  mark : ∀ l c, (t.ctx l c).inFlight = (s.ctx l c).inFlight
  refs : ∀ n : SlotNo, t.slots[n].refs = s.slots[n].refs

theorem State.SameUses.trans {s t u : State} (h : s.SameUses t) (h' : t.SameUses u) : s.SameUses u :=
  ⟨h'.loaded.trans h.loaded, h'.job.trans h.job, fun l c => (h'.body l c).trans (h.body l c),
    fun l c => (h'.mark l c).trans (h.mark l c), fun n => (h'.refs n).trans (h.refs n)⟩

/-- The contexts and the slots stand. -/
theorem State.SameUses.of_ctx {s t : State} (hc : ∀ l c, t.ctx l c = s.ctx l c) (hs : t.slots = s.slots)
    (hj : t.kfu.job = s.kfu.job) (hl : t.loaded = s.loaded) : s.SameUses t :=
  ⟨hl, hj, fun l c => by rw [hc], fun l c => by rw [hc], fun n => by rw [hs]⟩

theorem State.SameUses.of_lanes {s t : State} (hc : t.lanes = s.lanes) (hs : t.slots = s.slots) (hj : t.kfu.job = s.kfu.job)
    (hl : t.loaded = s.loaded) : s.SameUses t := .of_ctx (fun l c => State.ctx_of_lanes hc l c) hs hj hl

/-- The lanes stand, and the counts. -/
theorem State.SameUses.of_refs {s t : State} (hc : t.lanes = s.lanes) (hj : t.kfu.job = s.kfu.job)
    (hl : t.loaded = s.loaded) (hr : ∀ n : SlotNo, t.slots[n].refs = s.slots[n].refs) : s.SameUses t :=
  ⟨hl, hj, fun l c => by rw [State.ctx_of_lanes hc], fun l c => by rw [State.ctx_of_lanes hc], hr⟩

theorem State.SameUses.refl (s : State) : s.SameUses s := .of_lanes rfl rfl rfl rfl

theorem State.SameUses.foldl {α : Type} {f : State → α → State} (step : ∀ (s : State) (a : α), s.SameUses (f s a)) (as : List α)
    (s : State) : s.SameUses (as.foldl f s) :=
  foldl_keeps (P := s.SameUses) (fun t a ht => ht.trans (step t a)) as s (.refl s)

section
variable (s : State)

theorem State.sameUses_onLane {s : State} {l : LaneNo} {f : Lane → Lane} (hf : (f s.lanes[l]).contexts = s.lanes[l].contexts) :
    s.SameUses (s.onLane l f) := .of_ctx (State.ctx_onLane hf) rfl rfl rfl

/-- A context replaced by one of the same state and mark. -/
theorem State.sameUses_onCtx {s : State} {l : LaneNo} {c : CtxNo} {f : Context → Context}
    (hb : (f (s.ctx l c)).body = (s.ctx l c).body) (hm : (f (s.ctx l c)).inFlight = (s.ctx l c).inFlight) :
    s.SameUses (s.onCtx l c f) := by
  have hctx (k : LaneNo) (d : CtxNo) : ((s.onCtx l c f).ctx k d).body = (s.ctx k d).body ∧
      ((s.onCtx l c f).ctx k d).inFlight = (s.ctx k d).inFlight := by
    by_cases hkd : k = l ∧ d = c
    · obtain ⟨rfl, rfl⟩ := hkd
      rw [State.ctx_onCtx_same]
      exact ⟨hb, hm⟩
    · rw [State.ctx_onCtx_ne _ _ hkd]
      exact ⟨rfl, rfl⟩
  exact ⟨rfl, rfl, fun k d => (hctx k d).1, fun k d => (hctx k d).2, fun _ => rfl⟩

theorem State.sameUses_latch (f : Flag) : s.SameUses (s.latch f) := .of_lanes rfl rfl rfl rfl

theorem State.sameUses_setClock (k : Clock) : s.SameUses { s with clock := k } := .of_lanes rfl rfl rfl rfl

theorem State.sameUses_setStation (st : Station) : s.SameUses { s with station := st } := .of_lanes rfl rfl rfl rfl

theorem State.sameUses_setStore (st : Store) : s.SameUses { s with store := st } := .of_lanes rfl rfl rfl rfl

theorem State.sameUses_setService (v : Service) : s.SameUses { s with service := v } := .of_lanes rfl rfl rfl rfl

theorem State.sameUses_setKfu {k : Kfu} (hk : k.job = s.kfu.job) : s.SameUses { s with kfu := k } := .of_lanes rfl rfl hk rfl

theorem State.sameUses_driveAlerts : s.SameUses s.driveAlerts :=
  .of_ctx (fun l c => by rw [State.ctx, State.driveAlerts_lane]; rfl) (by simp) (by simp) (by simp)

theorem State.sameUses_onPort (p : Port) (f : PortState → PortState) : s.SameUses (s.onPort p f) := by
  cases p with
  | lane l => exact State.sameUses_onLane (l := l) (f := fun ln => { ln with port := f ln.port }) rfl
  | station => exact .of_lanes rfl rfl rfl rfl

theorem State.sameUses_produce (p : Port) (a : Answer) : s.SameUses (s.produce p a) := s.sameUses_onPort p _

theorem State.sameUses_answerWaiting (l : LaneNo) (pick : Entry → Bool) (r : Reply) : s.SameUses (s.answerWaiting l pick r) :=
  .of_ctx (fun _ _ => State.ctx_answerWaiting ..) (by simp) (by simp) (by simp)

theorem State.sameUses_answerRunning (l : LaneNo) (c : CtxNo) (r : Reply) : s.SameUses (s.answerRunning l c r) :=
  .of_ctx (fun _ _ => State.ctx_answerRunning ..) (by simp) (by simp) (by simp)

theorem State.sameUses_sealClaim (l : LaneNo) (c : CtxNo) (k : Counter) (t : Seconds) : s.SameUses (s.sealClaim l c k t) :=
  .of_lanes (by simp) (by simp) (by simp) (by simp)

theorem State.sameUses_classify (l : LaneNo) (c : CtxNo) (id : TagId) (k : Counter) (strict : Bool) :
    s.SameUses (s.classify l c id k strict).1 := by
  rw [State.classify_frame]
  exact .of_lanes rfl rfl rfl rfl

theorem State.sameUses_requestStore (q : StoreReq) : s.SameUses (s.requestStore q) :=
  .of_lanes (by simp) (by simp) (by simp) (by simp)

theorem State.sameUses_beginNext : s.SameUses s.beginNext := .of_lanes (by simp) (by simp) (by simp) (by simp)

/-- A slot changed without its count. -/
theorem State.sameUses_onSlot {s : State} {n : SlotNo} {f : Slot → Slot} (hf : (f s.slots[n]).refs = s.slots[n].refs) :
    s.SameUses (s.onSlot n f) := by
  refine .of_refs rfl rfl rfl fun k => ?_
  by_cases hk : k = n
  · subst hk
    rw [State.onSlot_same, hf]
  · rw [State.onSlot_other _ _ _ _ hk]

theorem State.sameUses_eraseIfUnused (n : SlotNo) : s.SameUses (s.eraseIfUnused n) := by
  unfold State.eraseIfUnused
  split
  · split
    · exact (State.sameUses_onSlot rfl).trans (State.sameUses_requestStore _ _)
    · exact .refl s
  · exact .refl s

theorem State.sameUses_addServiceChanged (l : LaneNo) : s.SameUses (s.addServiceChanged l) := State.sameUses_onLane rfl

theorem State.sameUses_serviceChangedAll : s.SameUses s.serviceChangedAll :=
  .foldl (fun t l => t.sameUses_addServiceChanged l) _ s

theorem State.sameUses_reformSigning : s.SameUses s.reformSigning := by
  unfold State.reformSigning
  split
  · exact .refl s
  · refine State.SameUses.trans (t := { s with signing := s.formSigning }) (.of_lanes rfl rfl rfl rfl) (.foldl (fun t l => ?_) _ _)
    split
    · exact State.sameUses_onLane rfl
    · exact .refl t

theorem State.sameUses_recordPending (l : LaneNo) (c : CtxNo) (p : PendingEnd) : s.SameUses (s.recordPending l c p) :=
  State.sameUses_onCtx rfl rfl

theorem State.sameUses_advanceSequence : s.SameUses s.advanceSequence := by
  unfold State.advanceSequence
  split
  · exact .of_lanes rfl rfl rfl rfl
  · split
    · exact .of_lanes rfl rfl rfl rfl
    · have hkfu := s.sameUses_setKfu
        (k := { s.kfu with boot := some (s.kfu.bootCount + 1), sequence := 0, admitHold := true }) rfl
      exact hkfu.trans (State.sameUses_requestStore _ _)

/-- A context freed is a context replaced by a FREE one with the same mark. -/
theorem State.sameUses_freeContext (l : LaneNo) (c : CtxNo) (cause : EndCause) :
    (s.onCtx l c fun x => { x with body := .free }).SameUses (s.freeContext l c cause) := by
  have hfree : (s.onCtx l c fun x => { x with body := .free }).SameUses
      (s.onCtx l c fun x => { x with body := .free, pendingEnd := none, endCause := cause }) := by
    refine ⟨rfl, rfl, fun k d => ?_, fun k d => ?_, fun _ => rfl⟩ <;> by_cases hkd : k = l ∧ d = c
    · obtain ⟨rfl, rfl⟩ := hkd
      rw [State.ctx_onCtx_same, State.ctx_onCtx_same]
    · rw [State.ctx_onCtx_ne _ _ hkd, State.ctx_onCtx_ne _ _ hkd]
    · obtain ⟨rfl, rfl⟩ := hkd
      rw [State.ctx_onCtx_same, State.ctx_onCtx_same]
    · rw [State.ctx_onCtx_ne _ _ hkd, State.ctx_onCtx_ne _ _ hkd]
  exact hfree.trans (.of_ctx (fun k d => s.ctx_freeContext l k c d cause) (by simp) (by simp) (by simp))

/-- The evaluation of a slot leaves its count. -/
theorem Slot.refs_evaluated (sl : Slot) (sec : Seconds) : (sl.evaluated sec).refs = sl.refs := by
  unfold Slot.evaluated
  split
  · split <;> rfl
  · split <;> rfl
  · rfl

theorem State.sameUses_evaluate : s.SameUses s.evaluate := by
  have hslots : s.SameUses s.evaluateSlots := by
    refine .of_refs (by simp) (by simp) (by simp) fun n => ?_
    rw [show s.evaluateSlots.slots[n] = s.slots[n].evaluated s.clock.seconds by simp]
    exact Slot.refs_evaluated _ _
  have hwrites := hslots.trans (.foldl (fun t n => t.sameUses_requestStore (.writeSlot n)) s.evaluationChanges _)
  unfold State.evaluate
  split
  · dsimp only
    split
    · exact hwrites.trans (.of_lanes rfl rfl rfl rfl)
    · exact hwrites
  · exact .refl s

end

/-- A release lowers its slot's count by one. -/
theorem State.refs_release (s : State) (n k : SlotNo) :
    (s.release n).slots[k].refs = s.slots[k].refs - if n = k then 1 else 0 := by
  rw [State.release, ((s.onSlot n fun sl => { sl with refs := sl.refs - 1 }).sameUses_eraseIfUnused n).refs k]
  split
  · next hk =>
    subst hk
    rw [State.onSlot_same]
  · next hk => rw [State.onSlot_other _ _ _ _ (Ne.symm hk), Nat.sub_zero]

theorem State.refs_reference (s : State) (n k : SlotNo) :
    (s.reference n).slots[k].refs = s.slots[k].refs + if n = k then 1 else 0 := by
  rw [State.reference]
  split
  · next hk =>
    subst hk
    rw [State.onSlot_same]
  · next hk => rw [State.onSlot_other _ _ _ _ (Ne.symm hk), Nat.add_zero]

/-! ### The account kept -/

theorem State.Counted.same {s t : State} (h : s.Counted) (hu : s.SameUses t) : t.Counted := by
  obtain ⟨⟨hmark, hfits⟩, hrefs⟩ := h
  refine ⟨⟨fun l c => ?_, fun j l c hj ho => ?_⟩, fun hl n => ?_⟩
  · rw [hu.mark, hu.job]
    exact hmark l c
  · rw [hu.body]
    exact hfits j l c (hu.job ▸ hj) ho
  · rw [hu.refs, hrefs (hu.loaded ▸ hl)]
    simp only [State.usesOf, hu.body, hu.job]

section
variable {s : State} (h : s.Counted) {l : LaneNo} {c : CtxNo}
include h

/-- One context and the job in flight change, the job being the same or one without another context; what the counts give the
two before and after balances. -/
theorem State.Counted.exchange {t : State} (hl : t.loaded = s.loaded)
    (hbody : ∀ k d, ¬ (k = l ∧ d = c) → (t.ctx k d).body = (s.ctx k d).body)
    (hinflight : ∀ k d, ¬ (k = l ∧ d = c) → (t.ctx k d).inFlight = (s.ctx k d).inFlight)
    (hjob : t.kfu.job = s.kfu.job ∨ ∀ j, s.kfu.job = some j ∨ t.kfu.job = some j → ∀ o, j.origin = some o → o = (l, c))
    (hmark : (t.ctx l c).inFlight = true ↔ t.kfu.job.bind Job.origin = some (l, c))
    (hfits : ∀ j, t.kfu.job = some j → j.origin = some (l, c) → j.fits (t.ctx l c).body = true)
    (hrefs : s.loaded = true → ∀ n : SlotNo, t.slots[n].refs + (s.namedBy l c n + s.signedWith n) =
      s.slots[n].refs + (t.namedBy l c n + t.signedWith n)) : t.Counted := by
  obtain ⟨⟨hmark', hfits'⟩, hrefs'⟩ := h
  have hnone {u : State} (hu : ∀ j, u.kfu.job = some j → ∀ o, j.origin = some o → o = (l, c)) {k : LaneNo} {d : CtxNo}
      (hkd : ¬ (k = l ∧ d = c)) : ¬ u.kfu.job.bind Job.origin = some (k, d) := fun hx => by
    obtain ⟨j, hj, ho⟩ := Option.bind_eq_some_iff.mp hx
    cases hu j hj _ ho
    exact hkd ⟨rfl, rfl⟩
  refine ⟨⟨fun k d => ?_, fun j k d hj ho => ?_⟩, fun hloaded n => ?_⟩
  · by_cases hkd : k = l ∧ d = c
    · obtain ⟨rfl, rfl⟩ := hkd
      exact hmark
    · rw [hinflight k d hkd, hmark' k d]
      obtain heq | hown := hjob
      · rw [heq]
      · exact iff_of_false (hnone (fun j hj => hown j (.inl hj)) hkd) (hnone (fun j hj => hown j (.inr hj)) hkd)
  · by_cases hkd : k = l ∧ d = c
    · obtain ⟨rfl, rfl⟩ := hkd
      exact hfits j hj ho
    · rw [hbody k d hkd]
      obtain heq | hown := hjob
      · exact hfits' j k d (heq ▸ hj) ho
      · cases hown j (.inr hj) _ ho
        exact absurd ⟨rfl, rfl⟩ hkd
  · have hex := State.usesOf_exchange hbody n
    have hbal := hrefs (hl ▸ hloaded) n
    have hcount := hrefs' (hl ▸ hloaded) n
    omega

/-- A context no job runs for changes. -/
theorem State.Counted.idleCtx {t : State} (hu : t.loaded = s.loaded) (hj : t.kfu.job = s.kfu.job)
    (hbody : ∀ k d, ¬ (k = l ∧ d = c) → (t.ctx k d).body = (s.ctx k d).body)
    (hmark : ∀ k d, (t.ctx k d).inFlight = (s.ctx k d).inFlight) (hf : (s.ctx l c).inFlight = false)
    (hrefs : s.loaded = true → ∀ n : SlotNo, t.slots[n].refs + s.namedBy l c n = s.slots[n].refs + t.namedBy l c n) :
    t.Counted := by
  have hno : ¬ s.kfu.job.bind Job.origin = some (l, c) := fun hx =>
    Bool.false_ne_true (hf.symm.trans ((h.1.1 l c).mpr hx))
  have hsigned (n : SlotNo) : t.signedWith n = s.signedWith n := by rw [State.signedWith, hj]; rfl
  refine h.exchange hu hbody (fun k d _ => hmark k d) (.inl hj) ?_ (fun j hj' ho => absurd ?_ hno) fun hl n => ?_
  · rw [hmark, hf, hj]
    exact iff_of_false Bool.false_ne_true hno
  · rw [← hj, hj', Option.bind_some, ho]
  · have := hrefs hl n
    rw [hsigned]
    omega

/-- A job starts for a context. -/
theorem State.Counted.started {t : State} {j : Job} (hu : t.loaded = s.loaded) (hfree : s.kfu.job = none)
    (hj : t.kfu.job = some j) (ho : j.origin = some (l, c))
    (hbody : ∀ k d, (t.ctx k d).body = (s.ctx k d).body)
    (hother : ∀ k d, ¬ (k = l ∧ d = c) → (t.ctx k d).inFlight = (s.ctx k d).inFlight)
    (hf : (t.ctx l c).inFlight = true) (hfits : j.fits (s.ctx l c).body = true)
    (hrefs : ∀ n : SlotNo, t.slots[n].refs = s.slots[n].refs + t.signedWith n) : t.Counted := by
  refine h.exchange hu (fun k d _ => hbody k d) hother (.inr fun j' hj' o ho' => ?_) ?_ (fun j' hj' _ => ?_) fun _ n => ?_
  · obtain hx | hx := hj'
    · rw [hfree] at hx
      cases hx
    · rw [hj] at hx
      cases hx
      exact Option.some.inj (ho'.symm.trans ho)
  · rw [hj, Option.bind_some, ho]
    exact iff_of_true hf rfl
  · rw [hj] at hj'
    cases hj'
    rwa [hbody]
  · have hnone : s.signedWith n = 0 := State.signedWith_of_none (by rw [hfree]; rfl) n
    have hnamed : t.namedBy l c n = s.namedBy l c n := by rw [State.namedBy, hbody]; rfl
    rw [hrefs, hnone, hnamed]
    omega

/-- The job of a context ends. -/
theorem State.Counted.completed {t : State} {j : Job} (hu : t.loaded = s.loaded) (hj : s.kfu.job = some j)
    (ho : j.origin = some (l, c)) (hfree : t.kfu.job = none)
    (hbody : ∀ k d, ¬ (k = l ∧ d = c) → (t.ctx k d).body = (s.ctx k d).body)
    (hother : ∀ k d, ¬ (k = l ∧ d = c) → (t.ctx k d).inFlight = (s.ctx k d).inFlight) (hf : (t.ctx l c).inFlight = false)
    (hrefs : s.loaded = true → ∀ n : SlotNo, t.slots[n].refs + (s.namedBy l c n + s.signedWith n) =
      s.slots[n].refs + t.namedBy l c n) : t.Counted := by
  refine h.exchange hu hbody hother (.inr fun j' hj' o ho' => ?_) ?_ (fun j' hj' _ => ?_) fun hl n => ?_
  · obtain hx | hx := hj'
    · rw [hj] at hx
      cases hx
      exact Option.some.inj (ho'.symm.trans ho)
    · rw [hfree] at hx
      cases hx
  · rw [hf, hfree]
    exact iff_of_false Bool.false_ne_true nofun
  · rw [hfree] at hj'
    cases hj'
  · have hnone : t.signedWith n = 0 := State.signedWith_of_none (by rw [hfree]; rfl) n
    rw [hrefs hl, hnone]
    omega

/-- With the unit free no mark is set. -/
theorem State.Counted.idle_of_free (hfree : s.kfu.job = none) (k : LaneNo) (d : CtxNo) : (s.ctx k d).inFlight = false := by
  rw [← Bool.not_eq_true, h.1.1 k d, hfree]
  exact nofun

/-- No job runs for a context in a state that no job runs in. -/
theorem State.Counted.idle_of_body (hb : ∀ j : Job, j.fits (s.ctx l c).body = false) : (s.ctx l c).inFlight = false := by
  rw [← Bool.not_eq_true, h.1.1 l c]
  intro hx
  obtain ⟨j, hj, ho⟩ := Option.bind_eq_some_iff.mp hx
  exact Bool.false_ne_true ((hb j).symm.trans (h.1.2 j l c hj ho))

end

end Sys2Proof.Machine
end

section
/-! Proofs for the key slots: the reference counts through the operations on lanes, the unit and the arbiter (R2, R83). -/

namespace Sys2Proof.Machine

/-! ### Endings (R5, R6, R29, R30, R32, R34) -/

theorem State.namedBy_of_none {s : State} {l : LaneNo} {c : CtxNo} (h : (s.ctx l c).body.master = none) (n : SlotNo) :
    s.namedBy l c n = 0 := by
  rw [State.namedBy, h]
  rfl

theorem State.namedBy_of_some {s : State} {l : LaneNo} {c : CtxNo} {m : SlotNo} (h : (s.ctx l c).body.master = some m)
    (n : SlotNo) : s.namedBy l c n = if m = n then 1 else 0 := by
  rw [State.namedBy, h]
  simp

/-- An ending gives the context's reference back. -/
theorem State.refs_endContext (s : State) (l : LaneNo) (c : CtxNo) (cause : EndCause) (n : SlotNo) :
    (s.endContext l c cause).slots[n].refs = s.slots[n].refs - s.namedBy l c n := by
  have hslots (t : State) :
      ((if (s.ctx l c).body.hasClaim then t.releaseClaim l c else t).freeContext l c cause).slots = t.slots := by
    rw [State.freeContext_slots]
    split
    · rw [State.releaseClaim_slots]
    · rfl
  unfold State.endContext
  dsimp only
  rw [hslots]
  cases hm : (s.ctx l c).body.master with
  | none => rw [State.namedBy_of_none hm, Nat.sub_zero]
  | some m => rw [State.refs_release, State.namedBy_of_some hm]

section
variable {s : State} (h : s.Counted)
include h

/-- The count of a slot covers the uses of one context and the job in flight. -/
theorem State.Counted.covers (hl : s.loaded = true) (l : LaneNo) (c : CtxNo) (n : SlotNo) :
    s.namedBy l c n + s.signedWith n ≤ s.slots[n].refs := by
  rw [h.2 hl n]
  exact s.namedBy_add_signedWith_le l c n

theorem State.Counted.endContext {l : LaneNo} {c : CtxNo} (hf : (s.ctx l c).inFlight = false) (cause : EndCause) :
    (s.endContext l c cause).Counted := by
  have hctx (k : LaneNo) (d : CtxNo) := (s.ctx_endContext l k c d cause).trans (s.ctx_freeContext l k c d cause)
  refine h.idleCtx (c := c) (l := l) (by simp) (by simp) (fun k d hkd => ?_) (fun k d => ?_) hf fun hl n => ?_
  · rw [hctx, State.ctx_onCtx_ne _ _ hkd]
  · rw [hctx]
    by_cases hkd : k = l ∧ d = c
    · obtain ⟨rfl, rfl⟩ := hkd
      rw [State.ctx_onCtx_same]
    · rw [State.ctx_onCtx_ne _ _ hkd]
  · have hle := h.covers hl l c n
    rw [State.namedBy_of_none (s := s.endContext l c cause) (by rw [hctx, State.ctx_onCtx_same]; rfl), s.refs_endContext]
    omega

theorem State.Counted.reachEnd (l : LaneNo) (c : CtxNo) (p : PendingEnd) : (s.reachEnd l c p).Counted := by
  unfold State.reachEnd
  split
  · exact h
  · split
    · exact h.same (s.sameUses_recordPending l c p)
    · next hf => exact h.endContext (Bool.eq_false_iff.mpr hf) _

theorem State.Counted.applyPending {l : LaneNo} {c : CtxNo} (hf : (s.ctx l c).inFlight = false) :
    (s.applyPending l c).Counted := by
  unfold State.applyPending
  split
  · exact h
  · split
    · exact h
    · exact h.endContext hf _

theorem State.Counted.resetContexts (l : LaneNo) : (s.resetContexts l).Counted :=
  foldl_keeps (P := State.Counted) (fun _ c h => h.reachEnd l c .laneReset) _ s h

/-- The waiting entries of a lane are answered, its contexts reset and the change of service noted. -/
theorem State.Counted.emptied (l : LaneNo) (r : Reply) :
    (((s.answerWaiting l (fun _ => true) r).resetContexts l).addServiceChanged l).Counted :=
  ((h.same (s.sameUses_answerWaiting l _ r)).resetContexts l).same (State.sameUses_addServiceChanged _ l)

theorem State.Counted.leaveService : s.leaveService.Counted :=
  foldl_keeps (P := State.Counted) (fun _ l h => h.emptied l _) _ _
    (h.same (t := { s with service := .seedWait }) (.of_lanes rfl rfl rfl rfl))

theorem State.Counted.enterServing : s.enterServing.Counted :=
  (h.same (t := { s with service := .serving }) (.of_lanes rfl rfl rfl rfl)).same (State.sameUses_serviceChangedAll _)

theorem State.Counted.linkDown (l : LaneNo) : (s.linkDown l).Counted :=
  have hclear : (s.onLane l Lane.cleared).Counted := h.same (State.sameUses_onLane (f := Lane.cleared) rfl)
  (hclear.resetContexts l).same (State.sameUses_latch _ _)

theorem State.Counted.withdrawContext (n : SlotNo) (l : LaneNo) (c : CtxNo) : (s.withdrawContext n l c).Counted := by
  unfold State.withdrawContext
  split
  · next hb =>
    split
    · exact h.endContext (h.idle_of_body fun j => by rw [hb]; cases j <;> rfl) .revoked
    · exact h
  · split
    · exact h.same (s.sameUses_recordPending l c .revoked)
    · exact h
  · split
    · next hn => exact h.endContext (Bool.eq_false_iff.mpr hn.2) .revoked
    · exact h
  · exact h

theorem State.Counted.withdrawLane (n : SlotNo) (l : LaneNo) : (s.withdrawLane n l).Counted :=
  foldl_keeps (P := State.Counted) (fun _ c h => h.withdrawContext n l c) _ _ (h.same (s.sameUses_answerWaiting l _ _))

theorem State.Counted.withdrawMaster (n : SlotNo) : (s.withdrawMaster n).Counted :=
  foldl_keeps (P := State.Counted) (fun _ l h => h.withdrawLane n l) _ s h

end

/-! ### The start of the jobs (R15, R20, R115, R119) -/

section
variable {s : State} (h : s.Counted) (hfree : s.kfu.job = none)
include h hfree

/-- An entry runs as a job of its context, which signs with `signer` if at all, whose reference has been taken. -/
theorem State.Counted.run {l : LaneNo} {e : Entry} {j : Job} (ho : j.origin = some (l, e.ctx))
    (hfits : j.fits (s.ctx l e.ctx).body = true) {u : State} (hl : u.loaded = s.loaded) (hu : u.lanes = s.lanes)
    (hrefs : ∀ n : SlotNo, u.slots[n].refs = s.slots[n].refs + if j.signer = some n then 1 else 0) :
    ((u.setRunning l e).setJob j).Counted := by
  have hctx (k : LaneNo) (d : CtxNo) : ((u.setRunning l e).setJob j).ctx k d =
      (s.onCtx l e.ctx fun x => { x with inFlight := true }).ctx k d :=
    (State.ctx_setRunning u l k e d).trans (State.ctx_onCtx_of_lanes hu l e.ctx _ k d)
  refine h.started (l := l) (c := e.ctx) hl hfree (j := j) rfl ho (fun k d => ?_) (fun k d hkd => ?_) ?_ hfits hrefs
  · rw [hctx]
    by_cases hkd : k = l ∧ d = e.ctx
    · obtain ⟨rfl, rfl⟩ := hkd
      rw [State.ctx_onCtx_same]
    · rw [State.ctx_onCtx_ne _ _ hkd]
  · rw [hctx, State.ctx_onCtx_ne _ _ hkd]
  · rw [hctx, State.ctx_onCtx_same]

theorem State.Counted.startEntry (l : LaneNo) (e : Entry) : (s.startEntry l e).Counted := by
  have hdiscard : (s.discardEntry l e).Counted := h.same (State.sameUses_onLane rfl)
  have hended (c : Code) (cause : EndCause) : ((s.answerAtStart l e c).endContext l e.ctx cause).Counted :=
    have hans : (s.answerAtStart l e c).Counted := h.same (s.sameUses_answerWaiting l _ _)
    hans.endContext (hans.idle_of_free (by simpa [State.answerAtStart] using hfree) l e.ctx) cause
  unfold State.startEntry
  split
  · unfold State.startOpen
    split
    · next o m hb =>
      split
      · exact h.run hfree rfl (by rw [hb]; rfl) rfl rfl fun _ => rfl
      · exact hended _ _
      · exact hended _ _
    · exact hdiscard
  · unfold State.startProve
    split
    · next hb => exact h.run hfree rfl (by rw [hb]; rfl) rfl rfl fun _ => rfl
    · exact hdiscard
  · next cls ref _ =>
    unfold State.startSeal
    split
    · next o p v hb =>
      split
      · have hans := h.same (s.sameUses_answerWaiting l (fun q => q.serial == e.serial) (.code .noSigningKey))
        refine hans.idleCtx (l := l) (c := e.ctx) rfl rfl (fun k d hkd => ?_) (fun k d => ?_)
          (hans.idle_of_free (by simpa using hfree) l e.ctx) fun hl n => ?_
        · rw [State.ctx_onCtx_ne _ _ hkd]
          rfl
        · by_cases hkd : k = l ∧ d = e.ctx
          · obtain ⟨rfl, rfl⟩ := hkd
            rw [State.ctx_onCtx_same]
            rfl
          · rw [State.ctx_onCtx_ne _ _ hkd]
            rfl
        · rw [State.namedBy_of_none (by rw [State.ctx_answerWaiting, hb]; rfl),
            State.namedBy_of_none (by rw [State.ctx_onCtx_same]; rfl)]
          rfl
      · next g _ =>
        have hrun : (((s.reference g.slot).setRunning l e).setJob
            (.sealJob l e.ctx g.slot g.key g.generation g.holdover cls ref)).Counted :=
          h.run hfree rfl (by rw [hb]; rfl) rfl rfl fun n => by
            rw [State.refs_reference]
            simp [Job.signer]
        dsimp only
        split
        · exact hrun.same (State.sameUses_latch _ _)
        · exact hrun
    · exact hdiscard

theorem State.Counted.startChoice (ch : Choice) : (s.startChoice ch).Counted := by
  have hkfu (k : Kfu) (hk : k.job = s.kfu.job) : State.Counted { s with kfu := k } := h.same (.of_lanes rfl rfl hk rfl)
  cases ch with
  | step l e =>
    exact (hkfu { s.kfu with stepPointer := movedPointer s.config.items.mode s.kfu.stepPointer l } rfl).startEntry hfree l e
  | admitting l e =>
    exact (hkfu { s.kfu with admitPointer := movedPointer s.config.items.mode s.kfu.admitPointer l } rfl).startEntry hfree l e
  | load req =>
    refine h.exchange (l := 0) (c := 0) rfl (fun _ _ _ => rfl) (fun _ _ _ => rfl) (.inr fun j hj o ho => ?_) ?_
      (fun j hj ho => ?_) fun _ n => ?_
    · obtain hx | hx := hj
      · rw [hfree] at hx
        cases hx
      · cases hx
        cases ho
    · exact iff_of_false (by rw [show (s.startChoice (.load req)).ctx 0 0 = s.ctx 0 0 from rfl, h.idle_of_free hfree]; nofun) nofun
    · cases hj
      cases ho
    · rw [State.signedWith_of_none (by rw [hfree]; rfl)]
      rfl

end

theorem State.Counted.arbitrate {s : State} (h : s.Counted) : s.arbitrate.Counted := by
  unfold State.arbitrate
  generalize s.waitingCount + 1 = n
  induction n generalizing s with
  | zero => exact h
  | succ n ih =>
    unfold State.arbitrateFor
    split
    · exact h
    · next hfree =>
      split
      · exact h
      · exact ih (h.startChoice (by simpa using hfree) _)

/-! ### The completions of lane jobs (R15, R17, R21, R120) -/

/-- A completion under way: the unit is free, one context changes, and one reference at most has been given back. -/
structure State.Ends (s t : State) (l : LaneNo) (c : CtxNo) (given : Option SlotNo) : Prop where
  loaded : t.loaded = s.loaded
  free : t.kfu.job = none
  body : ∀ k d, ¬ (k = l ∧ d = c) → (t.ctx k d).body = (s.ctx k d).body
  mark : ∀ k d, ¬ (k = l ∧ d = c) → (t.ctx k d).inFlight = (s.ctx k d).inFlight
  refs : ∀ n : SlotNo, t.slots[n].refs = s.slots[n].refs - if given = some n then 1 else 0

theorem State.ends_freeUnit (s : State) (l : LaneNo) (c : CtxNo) : s.Ends s.freeUnit l c none :=
  ⟨rfl, rfl, fun _ _ _ => rfl, fun _ _ _ => rfl, fun _ => rfl⟩

section
variable {s t : State} {l : LaneNo} {c : CtxNo}

theorem State.Ends.same {u : State} {given : Option SlotNo} (h : s.Ends t l c given) (hu : t.SameUses u) : s.Ends u l c given :=
  ⟨hu.loaded.trans h.loaded, hu.job.trans h.free, fun k d hkd => (hu.body k d).trans (h.body k d hkd),
    fun k d hkd => (hu.mark k d).trans (h.mark k d hkd), fun n => (hu.refs n).trans (h.refs n)⟩

theorem State.Ends.onCtx {given : Option SlotNo} (h : s.Ends t l c given) (f : Context → Context) :
    s.Ends (t.onCtx l c f) l c given :=
  ⟨h.loaded, h.free, fun k d hkd => by rw [State.ctx_onCtx_ne _ _ hkd]; exact h.body k d hkd,
    fun k d hkd => by rw [State.ctx_onCtx_ne _ _ hkd]; exact h.mark k d hkd, h.refs⟩

theorem State.Ends.release (h : s.Ends t l c none) (n : SlotNo) : s.Ends (t.release n) l c (some n) := by
  have hctx (k : LaneNo) (d : CtxNo) : (t.release n).ctx k d = t.ctx k d := State.ctx_of_lanes (by simp) k d
  refine ⟨by simpa using h.loaded, by simpa using h.free, fun k d hkd => ?_, fun k d hkd => ?_, fun k => ?_⟩
  · rw [hctx]
    exact h.body k d hkd
  · rw [hctx]
    exact h.mark k d hkd
  · rw [State.refs_release, h.refs]
    simp

/-- The job of a context has ended, and gave back what it and the context used. -/
theorem State.Counted.finished (h : s.Counted) {j : Job} (hj : s.kfu.job = some j) (ho : j.origin = some (l, c))
    {given : Option SlotNo} (hend : s.Ends t l c given) (hf : (t.ctx l c).inFlight = false)
    (hgiven : ∀ n, (if given = some n then 1 else 0) + t.namedBy l c n = s.namedBy l c n + s.signedWith n) : t.Counted := by
  refine h.completed hend.loaded hj ho hend.free hend.body hend.mark hf fun hl n => ?_
  have hle := h.covers hl l c n
  have hg := hgiven n
  rw [hend.refs]
  omega

end

section
variable {s : State} (h : s.Counted) {l : LaneNo} {c : CtxNo}
include h

theorem State.Counted.applyOpen {mk : Block} {id : TagId} {g : Gen} {i : Byte}
    (hj : s.kfu.job = some (.openJob l c mk id g i)) (key : Block) (ch : Mac) :
    (s.freeUnit.advanceSequence.applyOpen l c key ch).Counted := by
  have hctx : s.freeUnit.advanceSequence.ctx l c = s.ctx l c := State.ctx_of_lanes (s := s) (by simp) l c
  have hfit := h.1.2 _ l c hj rfl
  rw [← hctx] at hfit
  have hu := (s.ends_freeUnit l c).same s.freeUnit.sameUses_advanceSequence
  generalize s.freeUnit.advanceSequence = u at hctx hfit hu ⊢
  unfold State.applyOpen
  split
  · next o m hb =>
    have hend (r : Reply) := ((hu.onCtx fun x => { x with inFlight := false }).onCtx fun x =>
      { x with body := .opened o m { tagKey := key, challenge := ch } }).same (State.sameUses_answerRunning _ l c r)
    have hmark (r : Reply) : ((((u.clearMark l c).onCtx l c fun x =>
        { x with body := .opened o m { tagKey := key, challenge := ch } }).answerRunning l c r).ctx l c).inFlight = false := by
      rw [State.ctx_answerRunning, State.ctx_onCtx_same, State.clearMark, State.ctx_onCtx_same]
    refine State.Counted.applyPending (h.finished hj rfl (hend _) (hmark _) fun n => ?_) (hmark _)
    rw [State.namedBy_of_some (m := m) (by rw [State.ctx_answerRunning, State.ctx_onCtx_same]; rfl),
      State.namedBy_of_some (m := m) (by rw [← hctx, hb]; rfl), State.signedWith_of_none (by rw [hj]; rfl)]
    simp
  · next hno => exact absurd hfit (by cases hx : (u.ctx l c).body <;> simp_all [Job.fits])

theorem State.Counted.applyProve {key : Block} {ch : Mac} {nonce : BitVec 32} {k : Counter} {id : TagId} {resp : Mac}
    (hj : s.kfu.job = some (.proveJob l c key ch nonce k id resp)) (same : Bool) :
    (s.freeUnit.applyProve l c same).Counted := by
  have hfit := h.1.2 _ l c hj rfl
  have hu := s.ends_freeUnit l c
  have hctx : s.freeUnit.ctx l c = s.ctx l c := rfl
  rw [← hctx] at hfit
  generalize s.freeUnit = u at hctx hfit hu ⊢
  unfold State.applyProve
  split
  · next o m p hb =>
    have hrel := (hu.onCtx fun x => { x with inFlight := false }).release m
    have hgiven (n : SlotNo) : (if some m = some n then 1 else 0) + 0 = s.namedBy l c n + s.signedWith n := by
      rw [State.namedBy_of_some (m := m) (by rw [← hctx, hb]; rfl), State.signedWith_of_none (by rw [hj]; rfl)]
      simp
    have hmark : (((u.clearMark l c).release m).ctx l c).inFlight = false := by
      rw [State.ctx_release, State.clearMark, State.ctx_onCtx_same]
    dsimp only
    generalize hv : (u.clearMark l c).release m = v at hmark ⊢
    have hrel : s.Ends v l c (some m) := hv ▸ hrel
    have hfreed {w : State} (hw : v.SameUses w) (cause : EndCause) : (w.freeContext l c cause).Counted := by
      have hsame := w.sameUses_freeContext l c cause
      refine h.finished hj rfl (((hrel.same hw).onCtx fun x => { x with body := .free }).same hsame) ?_ fun n => ?_
      · rw [hsame.mark, State.ctx_onCtx_same, hw.mark, hmark]
      · rw [State.namedBy_of_none (by rw [hsame.body, State.ctx_onCtx_same]; rfl)]
        exact hgiven n
    split
    · unfold State.applyMatch
      dsimp only
      have hw (r : Reply) := (v.sameUses_classify l c o.tagId o.counter o.strict).trans (State.sameUses_answerRunning _ l c r)
      split
      · next x _ =>
        have hidle {w : State} (hvw : v.SameUses w) :
            ((w.onCtx l c fun y => { y with body := .proved o p x }).ctx l c).inFlight = false := by
          rw [State.ctx_onCtx_same, hvw.mark, hmark]
        refine State.Counted.applyPending
          (h.finished hj rfl ((hrel.same (hw _)).onCtx _) (hidle (hw _)) fun n => ?_) (hidle (hw _))
        rw [State.namedBy_of_none (by rw [State.ctx_onCtx_same]; rfl)]
        exact hgiven n
      · exact hfreed (hw _) _
    · exact hfreed (State.sameUses_answerRunning _ _ _ _) _
  · next hno => exact absurd hfit (by cases hx : (u.ctx l c).body <;> simp_all [Job.fits])

theorem State.Counted.applySeal {n : SlotNo} {key : Block} {g : Gen} {ho : Bool} {cls : BitVec 4} {ref : BitVec 16}
    (hj : s.kfu.job = some (.sealJob l c n key g ho cls ref)) :
    (s.freeUnit.applySeal l c n key g ho cls ref).Counted := by
  have hfit := h.1.2 _ l c hj rfl
  have hu := s.ends_freeUnit l c
  have hctx : s.freeUnit.ctx l c = s.ctx l c := rfl
  rw [← hctx] at hfit
  generalize s.freeUnit = u at hctx hfit hu ⊢
  unfold State.applySeal
  split
  · next o p v hb =>
    dsimp only
    have hrel (k : Counter) (t : Seconds) := ((hu.same (u.sameUses_sealClaim l c k t)).release n).onCtx fun x =>
      { x with inFlight := false }
    generalize hw : ((u.sealClaim l c _ _).release n).clearMark l c = w
    have hmark : (w.ctx l c).inFlight = false := by rw [← hw, State.clearMark, State.ctx_onCtx_same]
    have hsame := (w.sameUses_freeContext l c .sealed).trans (State.sameUses_answerRunning (w.freeContext l c .sealed) l c
      (.record (u.assemble l o v g ho cls ref) (recordMac key (u.assemble l o v g ho cls ref))))
    have hend : s.Ends w l c (some n) := hw ▸ hrel _ _
    refine h.finished hj rfl ((hend.onCtx fun x => { x with body := .free }).same hsame) ?_ fun k => ?_
    · rw [hsame.mark, State.ctx_onCtx_same, hmark]
    · rw [State.namedBy_of_none (by rw [hsame.body, State.ctx_onCtx_same]; rfl),
        State.namedBy_of_none (s := s) (by rw [← hctx, hb]; rfl), State.signedWith, hj]
      simp [Job.signer]
  · next hno => exact absurd hfit (by cases hx : (u.ctx l c).body <;> simp_all [Job.fits])

end

end Sys2Proof.Machine
end

section
/-! Proofs for the key slots: the reference counts through the lane requests, the station requests and the store (R83). -/

namespace Sys2Proof.Machine

/-! ### The lane requests (R11 to R14, R16, R19, R22, R27) -/

section
variable {s : State} (h : s.Counted)
include h

/-- A context that no job runs for is taken with another body; the references it names are those taken before. -/
theorem State.Counted.take {l : LaneNo} {c : CtxNo} (hf : (s.ctx l c).inFlight = false) {f : Context → Context}
    (hm : (f (s.ctx l c)).inFlight = false) {u : State} (hu : u.lanes = (s.onCtx l c f).lanes) (hl : u.loaded = s.loaded)
    (hj : u.kfu.job = s.kfu.job)
    (hrefs : s.loaded = true → ∀ n : SlotNo, u.slots[n].refs + s.namedBy l c n =
      s.slots[n].refs + if (f (s.ctx l c)).body.master = some n then 1 else 0) : u.Counted := by
  have hctx (k : LaneNo) (d : CtxNo) : u.ctx k d = (s.onCtx l c f).ctx k d := State.ctx_of_lanes hu k d
  refine h.idleCtx (l := l) (c := c) hl hj (fun k d hkd => ?_) (fun k d => ?_) hf fun hloaded n => ?_
  · rw [hctx, State.ctx_onCtx_ne _ _ hkd]
  · rw [hctx]
    by_cases hkd : k = l ∧ d = c
    · obtain ⟨rfl, rfl⟩ := hkd
      rw [State.ctx_onCtx_same, hm, hf]
    · rw [State.ctx_onCtx_ne _ _ hkd]
  · rw [hrefs hloaded n, State.namedBy, hctx, State.ctx_onCtx_same]

theorem State.Counted.appendEntry (l : LaneNo) (req : LaneReq) (tag : Byte) (c : CtxNo) : (s.appendEntry l req tag c).Counted :=
  h.same (State.sameUses_onLane rfl)

theorem State.Counted.produce (p : Port) (a : Answer) : (s.produce p a).Counted := h.same (s.sameUses_produce p a)

theorem State.Counted.takeOpen {l : LaneNo} {c : CtxNo} (hc : (s.ctx l c).body = .free) (tag : Byte) (a : OpenArgs)
    (issuer : Byte) (watch strict : Bool) (n : SlotNo) : (s.takeOpen l tag c a issuer watch strict n).Counted := by
  have hf := h.idle_of_body (l := l) (c := c) fun j => by rw [hc]; cases j <;> rfl
  have htake (o : Occupancy) :
      ((s.onCtx l c fun x => { x with ticket := x.ticket + 1, body := .opening o n }).reference n).Counted := by
    refine h.take hf (f := fun x => { x with ticket := x.ticket + 1, body := .opening o n }) hf rfl rfl rfl fun _ k => ?_
    rw [State.refs_reference, State.namedBy_of_none (by rw [hc]; rfl)]
    simp [CtxBody.master]
  exact ((htake _).appendEntry l .openReq tag c).arbitrate

theorem State.Counted.openRequest (l : LaneNo) (tag : Byte) (body : List Byte) : (s.openRequest l tag body).Counted := by
  have hrefuse (c : Code) : (s.laneReply l LaneKind.openReq.code tag (.code c)).Counted := h.produce _ _
  unfold State.openRequest
  split
  · exact hrefuse _
  split
  · exact hrefuse _
  split
  · exact hrefuse _
  split
  · exact hrefuse _
  next c hc =>
  split
  · exact hrefuse _
  · exact h.takeOpen (by simpa using List.find?_some hc) _ _ _ _ _ _

/-- PROVE and SEAL take a context that waits, which names the slots it named. -/
theorem State.Counted.takeStep {l : LaneNo} {c : CtxNo} {b : CtxBody} (hb : ∀ j : Job, j.fits (s.ctx l c).body = false)
    (hm : b.master = (s.ctx l c).body.master) (req : LaneReq) (tag : Byte) :
    (((s.onCtx l c fun x => { x with body := b }).appendEntry l req tag c).arbitrate).Counted := by
  have hf := h.idle_of_body hb
  refine (State.Counted.appendEntry (h.take hf (f := fun x => { x with body := b }) hf rfl rfl rfl fun _ k => ?_) _ _ _ _).arbitrate
  rw [hm]
  rfl

theorem State.Counted.proveRequest (l : LaneNo) (tag : Byte) (body : List Byte) : (s.proveRequest l tag body).Counted := by
  have hrefuse (c : Code) : (s.laneReply l LaneKind.proveReq.code tag (.code c)).Counted := h.produce _ _
  unfold State.proveRequest
  split
  · exact hrefuse _
  split
  · exact hrefuse _
  split
  · exact hrefuse _
  split
  · exact hrefuse _
  split
  · next hb => exact h.takeStep (fun j => by rw [hb]; cases j <;> rfl) (by rw [hb]; rfl) _ _
  · exact h

theorem State.Counted.sealRequest (l : LaneNo) (tag : Byte) (body : List Byte) : (s.sealRequest l tag body).Counted := by
  have hrefuse (c : Code) : (s.laneReply l LaneKind.sealReq.code tag (.code c)).Counted := h.produce _ _
  unfold State.sealRequest
  split
  · exact hrefuse _
  split
  · exact hrefuse _
  split
  · exact hrefuse _
  split
  · exact hrefuse _
  split
  · next hb => exact h.takeStep (fun j => by rw [hb]; cases j <;> rfl) (by rw [hb]; rfl) _ _
  · exact h

theorem State.Counted.removeAndEnd (l : LaneNo) (c : CtxNo) (p : PendingEnd) (code : Code) :
    (s.removeAndEnd l c p code).Counted :=
  (h.same (s.sameUses_answerWaiting l _ _)).reachEnd l c p

theorem State.Counted.dropRequest (l : LaneNo) (tag : Byte) (body : List Byte) : (s.dropRequest l tag body).Counted := by
  unfold State.dropRequest
  dsimp only
  split
  · exact h.produce _ _
  split
  · exact h.produce _ _
  split
  · exact h.produce _ _
  · exact (h.removeAndEnd l _ _ _).produce _ _

theorem State.Counted.pollRequest (l : LaneNo) (tag : Byte) (body : List Byte) : (s.pollRequest l tag body).Counted := by
  unfold State.pollRequest
  dsimp only
  split
  · exact h.produce _ _
  split
  · exact h.produce _ _
  · exact (h.same (State.sameUses_onLane (f := fun ln => { ln with notices := ln.notices.take.2 }) rfl)).produce _ _

theorem State.Counted.handLane (l : LaneNo) (f : Frame) : (s.handLane l f).Counted := by
  unfold State.handLane
  split
  · exact h.produce _ _
  split
  · exact h.produce _ _
  · exact h.openRequest l _ _
  · exact h.proveRequest l _ _
  · exact h.sealRequest l _ _
  · exact h.dropRequest l _ _
  · exact h.pollRequest l _ _

theorem State.Counted.laneFrame {l : LaneNo} {deal : State → State} (hd : ∀ t : State, t.Counted → (deal t).Counted) :
    (s.laneFrame l deal).Counted := by
  have harr : (s.laneFrameArrives l).Counted := h.same (State.sameUses_onLane rfl)
  obtain heq | ⟨-, heq⟩ := s.laneFrame_cases l deal <;> rw [heq]
  · exact harr.same (State.sameUses_latch _ _)
  · exact hd _ harr

/-! ### The executions (R156) -/

theorem State.Counted.withdraw (n : SlotNo) (d : KeyData) : (s.withdraw n d).Counted := by
  have hslot : (s.onSlot n fun sl => { sl with body := .held .withdrawn d }).Counted := h.same (State.sameUses_onSlot rfl)
  have hwrite := hslot.same (State.sameUses_requestStore _ (.writeSlot n))
  unfold State.withdraw
  dsimp only
  refine State.Counted.same ?_ ((State.sameUses_eraseIfUnused _ n).trans (State.sameUses_reformSigning _))
  split
  · exact hwrite.withdrawMaster n
  · exact hwrite

theorem State.Counted.applyEnabled (l : LaneNo) (before after : Bool) : (s.applyEnabled l before after).Counted := by
  unfold State.applyEnabled
  split
  · exact h
  · split
    · exact h.same (s.sameUses_addServiceChanged l)
    · exact h.emptied l _

theorem State.Counted.applyTimeout (l : LaneNo) (timeout : BitVec 16) : (s.applyTimeout l timeout).Counted := by
  unfold State.applyTimeout
  split
  · have htime := h.same (State.sameUses_onLane (l := l) (f := fun ln => { ln with
      linkDeadline := if timeout = 0 then none else some (s.lastFrameTick l + ticksOf timeout) }) rfl)
    dsimp only
    generalize s.onLane l _ = t at htime ⊢
    split
    · exact htime.linkDown l
    · exact htime
  · exact h

theorem State.Counted.runWithdrawKey (body : List Byte) : (s.runWithdrawKey body).1.Counted := by
  unfold State.runWithdrawKey
  split
  · exact h
  split
  · exact h
  split
  case h_5 => exact h.withdraw _ _
  all_goals exact h

theorem State.Counted.runLoadKey (body : List Byte) : (s.runLoadKey body).1.Counted := by
  unfold State.runLoadKey
  split
  · exact h
  split
  · exact h
  split
  · exact h
  · exact State.Counted.arbitrate (h.same (.of_lanes rfl rfl rfl rfl))

theorem State.Counted.runSetLane (body : List Byte) : (s.runSetLane body).1.Counted := by
  unfold State.runSetLane
  split
  · exact h
  · exact ((h.same (t := s.setSettings _ _) (.of_lanes rfl rfl rfl rfl)).applyEnabled _ _ _).applyTimeout _ _

end

section
variable (s : State)

theorem State.sameUses_runSetConfig (body : List Byte) : s.SameUses (s.runSetConfig body).1 := by
  unfold State.runSetConfig
  split
  · exact .refl s
  · next a _ =>
    have hset : s.SameUses { s with config := { s.config with items := a.items } } := .of_lanes rfl rfl rfl rfl
    dsimp only
    split
    · exact hset
    · exact hset.trans (State.sameUses_reformSigning _)

theorem State.sameUses_runSaveConfig (body : List Byte) : s.SameUses (s.runSaveConfig body).1 := by
  unfold State.runSaveConfig
  split
  · exact .refl s
  · exact s.sameUses_requestStore _

theorem State.sameUses_runReseed (body : List Byte) : s.SameUses (s.runReseed body).1 := by
  unfold State.runReseed
  split
  · exact .refl s
  · split
    · exact .refl s
    · exact s.sameUses_requestStore _

theorem State.sameUses_runListSlot (body : List Byte) : s.SameUses (s.runListSlot body).1 := by
  unfold State.runListSlot
  split
  · exact .refl s
  · split <;> exact .refl s

theorem State.sameUses_runSetRoute (body : List Byte) : s.SameUses (s.runSetRoute body).1 := by
  unfold State.runSetRoute
  split
  · exact .refl s
  · split
    · exact .refl s
    · exact .of_lanes rfl rfl rfl rfl

theorem State.sameUses_runClearRoute (body : List Byte) : s.SameUses (s.runClearRoute body).1 := by
  unfold State.runClearRoute
  split
  · exact .refl s
  · split
    · exact .refl s
    · exact .of_lanes rfl rfl rfl rfl

theorem State.sameUses_runQueryPassage (body : List Byte) : s.SameUses (s.runQueryPassage body).1 := by
  unfold State.runQueryPassage
  split <;> exact .refl s

theorem State.sameUses_runSetTime (body : List Byte) : s.SameUses (s.runSetTime body).1 := by
  unfold State.runSetTime
  split
  · exact .refl s
  · exact (s.sameUses_setClock _).trans ((State.sameUses_evaluate _).trans (State.sameUses_reformSigning _))

theorem State.sameUses_runSetTrim (body : List Byte) : s.SameUses (s.runSetTrim body).1 := by
  unfold State.runSetTrim
  split
  · exact .refl s
  · exact s.sameUses_setClock _

theorem State.sameUses_runReadTime (body : List Byte) : s.SameUses (s.runReadTime body).1 := by
  unfold State.runReadTime
  split <;> exact .refl s

theorem State.sameUses_runReset (tag : Byte) (body : List Byte) : s.SameUses (s.runReset tag body).1 := by
  unfold State.runReset
  split
  · exact .refl s
  · exact .of_lanes rfl rfl rfl rfl

end

section
variable {s : State} (h : s.Counted)
include h

theorem State.Counted.execute (e : StationEntry) : (s.execute e).1.Counted := by
  unfold State.execute
  split
  case h_1 => exact h.runSetLane _
  case h_2 => exact h.same (s.sameUses_runSetConfig _)
  case h_3 => exact h.same (s.sameUses_runSaveConfig _)
  case h_4 => exact h.same (s.sameUses_runReseed _)
  case h_5 => exact h.same (s.sameUses_runReset _ _)
  case h_6 => exact h.runLoadKey _
  case h_7 => exact h.runWithdrawKey _
  case h_8 => exact h.same (s.sameUses_runListSlot _)
  case h_9 => exact h.same (s.sameUses_runSetRoute _)
  case h_10 => exact h.same (s.sameUses_runClearRoute _)
  case h_11 => exact h.same (s.sameUses_runQueryPassage _)
  case h_12 => exact h.same (s.sameUses_runSetTime _)
  case h_13 => exact h.same (s.sameUses_runSetTrim _)
  case h_14 => exact h.same (s.sameUses_runReadTime _)

/-! ### The queue runs (R154, R155, R156) -/

theorem State.Counted.withQueue (q : List StationEntry) : (s.withQueue q).Counted := h.same (.of_lanes rfl rfl rfl rfl)

theorem State.Counted.answerExecuting (r : Reply) : (s.answerExecuting r).Counted := by
  unfold State.answerExecuting
  split
  · exact h
  · exact (h.withQueue _).produce _ _

end

theorem State.Counted.runStationFor (n : Nat) : ∀ {s : State}, s.Counted → (s.runStationFor n).Counted := by
  induction n with
  | zero => exact id
  | succ n ih =>
    intro s h
    unfold State.runStationFor
    split
    · exact h
    next e rest _ =>
    have hx := (h.withQueue ({ e with executing := true } :: rest)).execute e
    dsimp only
    split
    · exact ih (hx.answerExecuting _)
    · exact hx

section
variable {s : State} (h : s.Counted)
include h

theorem State.Counted.finishExecuting (r : Reply) : (s.finishExecuting r).Counted :=
  State.Counted.runStationFor _ (h.answerExecuting r)

theorem State.Counted.stationRequest (k : StationKind) (tag : Byte) (body : List Byte) :
    (s.stationRequest k tag body).Counted := by
  unfold State.stationRequest
  split
  · exact h.produce _ _
  split
  · exact h.produce _ _
  dsimp only
  split
  · exact .runStationFor _ (h.withQueue _)
  · exact h.withQueue _

theorem State.Counted.statusRequest (tag : Byte) (body : List Byte) : (s.statusRequest tag body).Counted := by
  unfold State.statusRequest
  split
  · exact h.produce _ _
  · next mask _ => exact State.Counted.produce (h.same (t := s.clearFlags mask) (.of_lanes rfl rfl rfl rfl)) _ _

theorem State.Counted.handStation (f : Frame) : (s.handStation f).Counted := by
  unfold State.handStation
  split
  · exact h.produce _ _
  split
  · exact h.statusRequest _ _
  split
  · exact h.produce _ _
  · exact h.stationRequest _ _ _

theorem State.Counted.stationFrame {deal : State → State} (hd : ∀ t : State, t.Counted → (deal t).Counted) :
    (s.stationFrame deal).Counted := by
  have harr : s.stationFrameArrives.Counted := h.same (.of_lanes rfl rfl rfl rfl)
  obtain heq | ⟨-, heq⟩ := s.stationFrame_cases deal <;> rw [heq]
  · exact harr
  · exact hd _ harr

theorem State.Counted.portFrame (p : Port) (f : Frame) : (s.portFrame p f).Counted := by
  cases p with
  | lane l => exact h.laneFrame fun t ht => ht.handLane l f
  | station => exact h.stationFrame fun t ht => ht.handStation f

theorem State.Counted.receive (p : Port) (c : LineChar) : (s.receive p c).Counted := by
  have hrx (rx : Rx) : (s.onPort p fun ps => { ps with rx := rx }).Counted := h.same (s.sameUses_onPort p _)
  unfold State.receive
  dsimp only
  split
  · exact hrx _
  · exact (hrx _).same (State.sameUses_latch _ _)
  · exact (hrx _).portFrame p _

theorem State.Counted.receiveAll (p : Port) (cs : List LineChar) : (s.receiveAll p cs).Counted :=
  foldl_keeps (P := State.Counted) (fun _ c ht => ht.receive p c) cs s h

/-! ### The ends of store actions (R70, R71, R86, R113, R166, R168, R175) -/

theorem State.Counted.slotWriteEnds (n : SlotNo) (ok : Bool) : (s.slotWriteEnds n ok).Counted := by
  obtain ⟨heq, -⟩ | ⟨stored, d, -, heq⟩ := s.slotWriteEnds_cases n ok <;> rw [heq]
  · exact h
  have hslot (b : SlotBody) : (s.onSlot n fun sl => { sl with body := b }).Counted := h.same (State.sameUses_onSlot rfl)
  split
  · obtain ⟨st, r, -, hdone⟩ := s.firstWriteDone_eq n stored d
    rw [hdone]
    exact ((hslot _).same ((State.sameUses_evaluate _).trans (State.sameUses_reformSigning _))).finishExecuting r
  · exact ((hslot .empty).same (State.sameUses_requestStore _ _)).finishExecuting _

theorem State.Counted.slotEraseEnds (n : SlotNo) (ok : Bool) : (s.slotEraseEnds n ok).Counted := by
  obtain heq | ⟨-, -, heq⟩ := s.slotEraseEnds_cases n ok <;> rw [heq]
  · exact h
  · exact h.same (State.sameUses_onSlot rfl)

theorem State.Counted.imageWriteEnds (ok : Bool) : (s.imageWriteEnds ok).Counted := by
  unfold State.imageWriteEnds
  split
  · exact h.finishExecuting _
  · exact h

theorem State.Counted.bootWriteEnds (b : BitVec 32) (ok : Bool) : (s.bootWriteEnds b ok).Counted := by
  have hknown : State.Counted (if ok then { s with station := { s.station with knownBoot := some b } } else s) := by
    split
    · exact h.same (s.sameUses_setStation _)
    · exact h
  unfold State.bootWriteEnds
  dsimp only
  generalize (if ok then { s with station := { s.station with knownBoot := some b } } else s : State) = t at hknown ⊢
  split
  · unfold State.startBootEnds
    split
    · exact hknown.enterServing
    · exact hknown.same (t.sameUses_setService _)
  · have hhold : t.clearHold.Counted := hknown.same (t.sameUses_setKfu rfl)
    unfold State.exhaustionBootEnds
    split
    · exact hhold.arbitrate
    · exact hhold.leaveService
  · unfold State.reseedBootEnds
    split
    · split
      · have hset := hknown.same (t.sameUses_setKfu (k := { t.kfu with boot := some b, sequence := 0 }) rfl)
        exact hset.enterServing.finishExecuting _
      · exact hknown.finishExecuting _
    · exact hknown

theorem State.Counted.actionEnds (a : StoreAct) (ok : Bool) : (s.actionEnds a ok).Counted := by
  unfold State.actionEnds
  split
  · exact h
  · split
    · exact h.slotWriteEnds _ ok
    · exact h.slotEraseEnds _ ok
    · exact h.imageWriteEnds ok
    · exact h.bootWriteEnds _ ok

end

end Sys2Proof.Machine
end

section
/-! Proofs for the key slots: the reference counts through every command (R2, R83). -/

namespace Sys2Proof.Machine

/-! ### The completions and the starts -/

section
variable {s : State} (h : s.Counted)
include h

theorem State.Counted.settle : s.arbitrate.driveAlerts.Counted := h.arbitrate.same (State.sameUses_driveAlerts _)

theorem State.Counted.execOpenCompletion {t : State} (hx : execOpenCompletion s = .next t) : t.Counted := by
  unfold Machine.execOpenCompletion at hx
  split at hx <;> cases hx
  · next l c mk id g i hj =>
    have hopen := h.applyOpen hj (derive mk id g i) (challenge s.kfu.challengeKey s.kfu.bootCount s.kfu.sequence l c)
    refine State.Counted.settle ?_
    split
    · exact hopen.leaveService
    · exact hopen
  · exact h

theorem State.Counted.execProveCompletion {t : State} (hx : execProveCompletion s = .next t) : t.Counted := by
  unfold Machine.execProveCompletion at hx
  split at hx <;> cases hx
  · next hj => exact (h.applyProve hj _).settle
  · exact h

theorem State.Counted.execSealCompletion {t : State} (hx : execSealCompletion s = .next t) : t.Counted := by
  unfold Machine.execSealCompletion at hx
  split at hx <;> cases hx
  · next hj => exact (h.applySeal hj).settle
  · exact h

/-- A LOAD job leaves the unit: no context and no slot is touched. -/
theorem State.Counted.freeUnit_load {q : LoadReq} {k : Block} (hj : s.kfu.job = some (.loadJob q k)) : s.freeUnit.Counted := by
  have hno (o : LaneNo × CtxNo) : ¬ s.kfu.job.bind Job.origin = some o := by
    rw [hj]
    exact nofun
  refine h.exchange (l := 0) (c := 0) rfl (fun _ _ _ => rfl) (fun _ _ _ => rfl) (.inr fun j hjob o ho => ?_)
    (iff_of_false (fun hx => hno (0, 0) ((h.1.1 0 0).mp hx)) nofun) nofun fun _ n => ?_
  · obtain hx | hx := hjob
    · rw [hj] at hx
      cases hx
      cases ho
    · cases hx
  · rw [State.signedWith_of_none (by rw [hj]; rfl), State.signedWith_of_none (s := s.freeUnit) rfl]
    rfl

theorem State.Counted.execLoadCompletion {t : State} (hx : execLoadCompletion s = .next t) : t.Counted := by
  unfold Machine.execLoadCompletion at hx
  split at hx <;> cases hx
  · next q k hj =>
    have hfree := h.freeUnit_load hj
    refine State.Counted.settle ?_
    split
    · exact hfree.same ((State.sameUses_onSlot rfl).trans (State.sameUses_requestStore _ _))
    · exact hfree.finishExecuting _
  · exact h

omit h in
/-- Until the records are loaded the marks alone are asked for. -/
theorem State.counted_of_unloaded (hq : s.QueuesSound) (hl : s.loaded = false) : s.Counted :=
  ⟨hq.2.2.1, fun hx => (Bool.false_ne_true (hl.symm.trans hx)).elim⟩

theorem State.Counted.execAnswerTransmitted {p : Port} {t : State} (hx : execAnswerTransmitted p s = .next t) : t.Counted := by
  unfold Machine.execAnswerTransmitted at hx
  split at hx <;> cases hx
  · exact h
  · next a _ _ =>
    refine State.Counted.same ?_ (State.sameUses_driveAlerts _)
    split
    · exact State.counted_of_unloaded (State.queuesSound_warmReset _) rfl
    · have hport := s.sameUses_onPort p fun ps => ps.sent (s.rateOfPort p)
      refine h.same ?_
      unfold State.answerSent
      dsimp only
      split
      · refine hport.trans (State.sameUses_onLane ?_)
        cases a.serial <;> rfl
      · exact hport

/-- At the loading of the records every count is 0, and nothing uses a slot (R65, R177). -/
theorem State.Counted.withRecords (hstart : s.StartSound) (hs : s.service = .starting) : s.withRecords.Counted := by
  obtain ⟨-, -, hkfu, -, hctx⟩ := s.loadConfig_frame
  obtain ⟨hj, -, -, hfree⟩ := hstart.2 hs
  have hctx' (l : LaneNo) (c : CtxNo) : s.withRecords.ctx l c = s.ctx l c := hctx l c
  have hjob : s.withRecords.kfu.job = none := (congrArg Kfu.job hkfu).trans hj
  refine ⟨⟨fun l c => ?_, fun j l c hx => ?_⟩, fun _ n => ?_⟩
  · rw [hctx', hjob, h.idle_of_free hj]
    exact iff_of_false Bool.false_ne_true nofun
  · rw [hjob] at hx
    cases hx
  · have huses : s.withRecords.usesOf n = 0 := by
      have hsigner : s.withRecords.kfu.job.bind Job.signer = none := by
        rw [hjob]
        rfl
      have hmaster (l : LaneNo) (c : CtxNo) : (s.withRecords.ctx l c).body.master = none := by
        rw [hctx', hfree]
        rfl
      rw [State.usesOf_eq_sum, State.signedWith_of_none hsigner, Nat.add_zero]
      exact Finset.sum_eq_zero fun p _ => State.namedBy_of_none (hmaster p.1 p.2) n
    rw [huses, State.slots_withRecords]
    cases s.store.slots[n] <;> rfl

omit h in
theorem State.SameUses.setLoaded {t : State} (hu : s.SameUses t) :
    State.SameUses { s with loaded := true } { t with loaded := true } := ⟨rfl, hu.job, hu.body, hu.mark, hu.refs⟩

omit h in
theorem State.sameUses_loadSlotRecord (s : State) (n : SlotNo) : s.SameUses (s.loadSlotRecord n) := by
  have hlatch : s.SameUses (if s.store.slots[n] == .failing then s.latch .slotLost else s) := by
    split
    · exact s.sameUses_latch _
    · exact .refl s
  unfold State.loadSlotRecord
  dsimp only
  split
  · exact hlatch.trans (State.sameUses_requestStore _ _)
  · exact hlatch

omit h in
theorem State.sameUses_startSlots (s : State) :
    State.SameUses { s with slots := Vector.ofFn fun n : SlotNo => slotFrom s.store.slots[n] } s.startSlots := by
  have hload : State.SameUses { s with slots := Vector.ofFn fun n : SlotNo => slotFrom s.store.slots[n] } s.loadSlots :=
    .foldl (fun t n => t.sameUses_loadSlotRecord n) _ _
  have hslots := hload.trans (State.sameUses_evaluate _)
  unfold State.startSlots
  dsimp only
  generalize s.loadSlots.evaluate = t at hslots ⊢
  exact hslots.trans (.of_lanes rfl rfl rfl rfl)

theorem State.Counted.loadBoot : s.loadBoot.Counted := by
  have hread (b k : Option (BitVec 32)) (v : Service) : s.SameUses
      { s with service := v, station := { s.station with knownBoot := b }, kfu := { s.kfu with boot := k } } :=
    .of_lanes rfl rfl rfl rfl
  unfold State.loadBoot
  split
  · next b _ =>
    dsimp only
    split
    · exact h.same (hread (some b) (some lastCount) _)
    · exact h.same ((hread (some b) (some (b + 1)) s.service).trans (State.sameUses_requestStore _ _))
  · exact h.same ((hread none none .seedWait).trans (State.sameUses_latch _ _))

theorem State.Counted.execStartUp (hstart : s.StartSound) {t : State} (hx : execStartUp s = .next t) : t.Counted := by
  unfold Machine.execStartUp at hx
  split at hx <;> rw [Host.Outcome.next.injEq] at hx <;> subst hx
  · next hready =>
    obtain ⟨-, hs, -⟩ := State.startReady_iff.mp hready
    have hslots := (h.withRecords hstart hs).same s.loadConfig.sameUses_startSlots.setLoaded
    exact hslots.loadBoot.same (State.sameUses_driveAlerts _)
  · exact h

theorem State.Counted.execSecondEvent {t : State} (hx : execSecondEvent s = .next t) : t.Counted := by
  unfold Machine.execSecondEvent at hx
  split at hx
  · cases hx
    exact h
  · have ht := h.same (s.sameUses_setClock { s.clock with secondEvents := s.clock.secondEvents - 1 })
    dsimp only at hx
    split at hx <;> cases hx
    · exact ht.same ((State.sameUses_evaluate _).trans ((State.sameUses_reformSigning _).trans (State.sameUses_driveAlerts _)))
    · exact ht

theorem State.Counted.execEntryExpiry {id : TagId} {t : State} (hx : execEntryExpiry id s = .next t) : t.Counted := by
  unfold Machine.execEntryExpiry at hx
  split at hx
  · split at hx
    · split at hx <;> cases hx
      · exact h.same (.of_lanes rfl rfl rfl rfl)
      · exact h
    · cases hx
      exact h
  · cases hx
    exact h

/-- A command heard only with main power present. -/
theorem State.Counted.powered {f : State → State} {t : State} (hx : s.powered f = .next t) (hf : (f s).Counted) : t.Counted := by
  obtain ⟨-, rfl⟩ | ⟨-, rfl⟩ := State.powered_cases hx
  · exact hf.same (State.sameUses_driveAlerts _)
  · exact h

/-- Every command keeps the account. -/
theorem State.Counted.exec (hstart : s.StartSound) {i : Instr} {t : State} (hx : exec i s = .next t) : t.Counted := by
  have lane (l : LaneNo) (deal : State → State) (hx : (s.powered fun s => s.laneFrame l deal) = .next t)
      (hd : ∀ u : State, u.Counted → (deal u).Counted) : t.Counted := h.powered hx (h.laneFrame hd)
  have station (k : StationKind) (tag : Byte) (body : List Byte)
      (hx : (s.powered fun s => s.stationFrame fun t => t.stationRequest k tag body) = .next t) : t.Counted :=
    h.powered hx (h.stationFrame fun _ hu => hu.stationRequest k tag body)
  cases i
  case openReq l tag body => exact lane l (fun t => t.openRequest l tag body) hx fun _ hu => hu.openRequest l tag body
  case proveReq l tag body => exact lane l (fun t => t.proveRequest l tag body) hx fun _ hu => hu.proveRequest l tag body
  case sealReq l tag body => exact lane l (fun t => t.sealRequest l tag body) hx fun _ hu => hu.sealRequest l tag body
  case dropReq l tag body => exact lane l (fun t => t.dropRequest l tag body) hx fun _ hu => hu.dropRequest l tag body
  case pollReq l tag body => exact lane l (fun t => t.pollRequest l tag body) hx fun _ hu => hu.pollRequest l tag body
  case statusReq tag body =>
    exact h.powered (f := fun s => s.stationFrame fun t => t.statusRequest tag body) hx
      (h.stationFrame fun _ hu => hu.statusRequest tag body)
  case setLane tag body => exact station .setLane tag body hx
  case setConfig tag body => exact station .setConfig tag body hx
  case saveConfig tag body => exact station .saveConfig tag body hx
  case reseed tag body => exact station .reseed tag body hx
  case resetReq tag body => exact station .reset tag body hx
  case loadKey tag body => exact station .loadKey tag body hx
  case withdrawKey tag body => exact station .withdrawKey tag body hx
  case listSlot tag body => exact station .listSlot tag body hx
  case setRoute tag body => exact station .setRoute tag body hx
  case clearRoute tag body => exact station .clearRoute tag body hx
  case queryPassage tag body => exact station .queryPassage tag body hx
  case setTime tag body => exact station .setTime tag body hx
  case setTrim tag body => exact station .setTrim tag body hx
  case readTime tag body => exact station .readTime tag body hx
  case malformedFrame p kind tag length body => exact h.powered (f := fun s => s.portFrame p _) hx (h.portFrame p _)
  case frameDiscarded p cs => exact h.powered (f := fun s => s.receiveAll p cs) hx (h.receiveAll p cs)
  case abortSequence p =>
    exact h.powered (f := fun s => s.onPort p fun ps => { ps with rx := Rx.opened }) hx (h.same (s.sameUses_onPort p _))
  case openCompletion => exact h.execOpenCompletion hx
  case proveCompletion => exact h.execProveCompletion hx
  case sealCompletion => exact h.execSealCompletion hx
  case loadCompletion => exact h.execLoadCompletion hx
  case fractionTick | backupLowChange | oscillatorStopWhileOff =>
    simp only [Machine.exec, execFractionTick, execBackupLowChange, execOscillatorStopWhileOff] at hx
    split at hx <;> cases hx
    · exact h.same (s.sameUses_setClock _)
    · exact h
  case oscillatorRestart =>
    simp only [Machine.exec, execOscillatorRestart] at hx
    split at hx <;> cases hx
    · exact h
    · exact h.same (s.sameUses_setClock _)
  case oscillatorStop =>
    simp only [Machine.exec, execOscillatorStop] at hx
    split at hx <;> cases hx
    · exact h.same ((s.sameUses_setClock _).trans ((State.sameUses_latch _ _).trans (State.sameUses_driveAlerts _)))
    · exact h
  case periodStart =>
    cases hx
    exact h.same (s.sameUses_setClock _)
  case secondEvent => exact h.execSecondEvent hx
  case contextExpiry l c =>
    simp only [Machine.exec, execContextExpiry] at hx
    split at hx <;> cases hx
    · exact (h.removeAndEnd l c _ _).same (State.sameUses_driveAlerts _)
    · exact h
  case entryExpiry id => exact h.execEntryExpiry hx
  case linkExpiry l =>
    simp only [Machine.exec, execLinkExpiry] at hx
    split at hx <;> cases hx
    · exact (h.linkDown l).same (State.sameUses_driveAlerts _)
    · exact h
  case mainPowerFail p =>
    simp only [Machine.exec, execMainPowerFail] at hx
    split at hx <;> cases hx
    · exact (State.counted_of_unloaded (State.queuesSound_mainLost _) rfl).same (State.sameUses_driveAlerts _)
    · exact h
  case powerOn low =>
    simp only [Machine.exec, execPowerOn] at hx
    split at hx <;> cases hx
    · exact h
    · exact (State.counted_of_unloaded (s.queuesSound_powerOn low) (by unfold State.powerOn; dsimp only; split <;> rfl)).same
        (State.sameUses_driveAlerts _)
  case startUp => exact h.execStartUp hstart hx
  case storeActionComplete =>
    simp only [Machine.exec, execStoreActionComplete] at hx
    split at hx <;> cases hx
    · exact h
    · exact ((h.same (s.sameUses_setStore _)).actionEnds _ _).same
        ((State.sameUses_beginNext _).trans (State.sameUses_driveAlerts _))
  case storeVerifyRetry =>
    simp only [Machine.exec, execStoreVerifyRetry] at hx
    split at hx <;> cases hx
    · exact h.same (s.sameUses_setStore _)
    · exact h
  case storeActionFailed left =>
    simp only [Machine.exec, execStoreActionFailed] at hx
    split at hx <;> cases hx
    · exact ((h.same ((s.sameUses_setStore _).trans (State.sameUses_latch _ _))).actionEnds _ _).same
        ((State.sameUses_beginNext _).trans (State.sameUses_driveAlerts _))
    · exact h
  case answerTransmitted p => exact h.execAnswerTransmitted hx

end

/-- Settles O8: the account and the start through every command, the queue of commands being no part of them. -/
theorem referenceCountsKept : Obligations.ReferenceCountsKept := by
  intro s t ⟨hjob, hstart, hrefs⟩ hx
  unfold step at hx
  split at hx
  · cases hx
    exact ⟨hjob, hstart, hrefs⟩
  next rest _ =>
  have hrest : State.StartSound { s with pending := rest } :=
    (State.Carries.of_lanes (t := { s with pending := rest }) rfl rfl rfl rfl rfl rfl rfl rfl).startSound hstart
  have hcounted : State.Counted { s with pending := rest } := ⟨hjob, hrefs⟩
  obtain ⟨hjob', hrefs'⟩ := hcounted.exec hrest hx
  exact ⟨hjob', hrest.exec hx, hrefs'⟩

end Sys2Proof.Machine
end

section
/-! Proofs for the key slots: the LOAD completion (R68, R69) and the activation and expiry evaluation (R72, R73, R81). -/

namespace Sys2Proof.Machine

/-- Settles O42: the two branches on the check value. -/
theorem loadCompletes : Obligations.LoadCompletes := by
  intro s req tk hj key free stored d
  have hexec : exec .loadCompletion s = .next (if checkValue key = req.check then s.freeUnit.fillSlot req key
      else free.finishExecuting (.code .checkFailed)).arbitrate.driveAlerts := by
    simp only [exec, execLoadCompletion, hj]
    rfl
  rw [hexec]
  refine ⟨fun hno => ?_, fun hyes => ?_⟩
  · rw [if_neg hno]
  · rw [if_pos hyes]
    rfl

/-! ### The evaluation of one slot (R72) -/

/-- Whether an expiry time has been reached, as R72 reads it. -/
theorem expiryReached_eq (e : Option Seconds) (sec : Seconds) :
    expiryReached e sec = match e with | some e => decide (e ≤ sec) | none => false := by
  cases e <;> rfl

theorem Slot.evaluated_staged {sl : Slot} {d : KeyData} (h : sl.body = .held .staged d) (sec : Seconds) :
    sl.evaluated sec = if d.activation ≤ sec then
      { sl with body := .held (if expiryReached d.expiry sec then .expired else .active) d } else sl := by
  rw [Slot.evaluated, h]

/-- An ACTIVE slot is EXPIRED or stays as it is. -/
theorem Slot.evaluated_active {sl : Slot} {d : KeyData} (h : sl.body = .held .active d) (sec : Seconds) :
    sl.evaluated sec = { sl with body := .held (if expiryReached d.expiry sec then .expired else .active) d } := by
  rw [Slot.evaluated, h]
  dsimp only
  split
  · rfl
  · rw [← h]

/-- A slot in any other state is left. -/
theorem Slot.evaluated_other {sl : Slot} {sec : Seconds} (hs : ∀ d, sl.body ≠ .held .staged d)
    (ha : ∀ d, sl.body ≠ .held .active d) : sl.evaluated sec = sl := by
  unfold Slot.evaluated
  split
  · next d h => exact absurd h (hs d)
  · next d h => exact absurd h (ha d)
  · rfl

/-- An evaluation that changes a slot changes its body. -/
theorem Slot.evaluated_eq_iff (sl : Slot) (sec : Seconds) : (sl.evaluated sec).body = sl.body ↔ sl.evaluated sec = sl := by
  refine ⟨fun h => ?_, congrArg Slot.body⟩
  have hrefs := sl.refs_evaluated sec
  generalize sl.evaluated sec = a at h hrefs
  obtain ⟨body, refs⟩ := a
  obtain rfl : body = sl.body := h
  obtain rfl : refs = sl.refs := hrefs
  rfl

/-! ### Record keys of the home issuer (R67, R78) -/

theorem KeyData.isHomeRecord_iff {d : KeyData} {home : Byte} :
    d.isHomeRecord home = true ↔ home ≠ 0 ∧ d.role = .record ∧ d.issuer = home := by
  simp [KeyData.isHomeRecord, and_assoc]

theorem Slot.homeRecordIn_iff {sl : Slot} {home : Byte} {st : HeldState} :
    sl.homeRecordIn home st = true ↔ ∃ d, sl.body = .held st d ∧ d.isHomeRecord home = true := by
  unfold Slot.homeRecordIn
  split
  · next st' d hb =>
    rw [hb, Bool.and_eq_true, beq_iff_eq]
    exact ⟨fun ⟨hst, hd⟩ => ⟨d, by rw [hst], hd⟩, fun ⟨d', heq, hd⟩ => by cases heq; exact ⟨rfl, hd⟩⟩
  · next hb =>
    rw [hb]
    exact iff_of_false Bool.false_ne_true nofun

theorem State.homeActive_iff {s : State} :
    s.homeActive = true ↔ ∃ (n : SlotNo) (d : KeyData),
      s.slots[n].body = .held .active d ∧ d.isHomeRecord s.config.items.home = true := by
  simp only [State.homeActive, List.any_eq_true, List.mem_finRange, true_and, Slot.homeRecordIn_iff]

/-! ### The evaluation of the slot table (R72, R73, R81) -/

theorem State.mem_evaluationChanges {s : State} {n : SlotNo} :
    n ∈ s.evaluationChanges ↔ (s.slots[n].evaluated s.clock.seconds).body ≠ s.slots[n].body := by
  simp [State.evaluationChanges]

theorem State.slots_evaluateSlots (s : State) (n : SlotNo) :
    s.evaluateSlots.slots[n] = s.slots[n].evaluated s.clock.seconds := by
  simp

theorem State.evaluate_of_invalid {s : State} (h : s.clock.timeValid = false) : s.evaluate = s := by
  rw [State.evaluate, h]
  rfl

section
variable {s : State} (h : s.clock.timeValid = true)
include h

theorem State.evaluate_of_valid : s.evaluate =
    if s.evaluateSlots.overrunAfter s.evaluationChanges
    then (s.evaluationChanges.foldl (fun t n => t.requestStore (.writeSlot n)) s.evaluateSlots).latch .keyOverrun
    else s.evaluationChanges.foldl (fun t n => t.requestStore (.writeSlot n)) s.evaluateSlots := by
  rw [State.evaluate, if_pos h]

omit h in
theorem State.foldl_requestStore_slots (ns : List SlotNo) (u : State) :
    (ns.foldl (fun (t : State) n => t.requestStore (.writeSlot n)) u).slots = u.slots :=
  foldl_keeps (P := fun t => t.slots = u.slots) (fun t _ ht => (t.requestStore_slots _).trans ht) ns u rfl

omit h in
theorem State.foldl_requestStore_flags (ns : List SlotNo) (u : State) :
    (ns.foldl (fun (t : State) n => t.requestStore (.writeSlot n)) u).flags = u.flags :=
  foldl_keeps (P := fun t => t.flags = u.flags) (fun t _ ht => (t.requestStore_flags _).trans ht) ns u rfl

/-- Every slot is treated by the seconds (R72). -/
theorem State.slots_evaluate : s.evaluate.slots = s.evaluateSlots.slots := by
  rw [State.evaluate_of_valid h]
  split
  · exact State.foldl_requestStore_slots _ _
  · exact State.foldl_requestStore_slots _ _

theorem State.slot_evaluate (n : SlotNo) : s.evaluate.slots[n] = s.slots[n].evaluated s.clock.seconds := by
  rw [State.slots_evaluate h]
  exact s.slots_evaluateSlots n

/-- Each change requests a write of its record (R73). -/
theorem State.store_evaluate :
    s.evaluate.store = (s.evaluationChanges.foldl (fun t n => t.requestStore (.writeSlot n)) s.evaluateSlots).store := by
  rw [State.evaluate_of_valid h]
  split <;> rfl

/-- KEY_OVERRUN is latched at a gap, and no other flag (R81). -/
theorem State.flags_evaluate :
    s.evaluate.flags = if s.evaluateSlots.overrunAfter s.evaluationChanges then s.flags ||| 16#21 else s.flags := by
  have hflags := State.foldl_requestStore_flags s.evaluationChanges s.evaluateSlots
  rw [State.evaluate_of_valid h]
  generalize s.evaluationChanges.foldl (fun (t : State) n => t.requestStore (.writeSlot n)) s.evaluateSlots = u at hflags ⊢
  rw [State.evaluateSlots_flags] at hflags
  split
  · rw [← hflags]
    rfl
  · exact hflags

/-- The slots changed are those that are not as they were. -/
theorem State.evaluationChanges_eq :
    s.evaluationChanges = (List.finRange 24).filter fun n => s.evaluate.slots[n] != s.slots[n] := by
  refine List.filter_congr fun n _ => ?_
  rw [State.slot_evaluate h, Bool.eq_iff_iff, bne_iff_ne, bne_iff_ne]
  exact not_congr (Slot.evaluated_eq_iff _ _)

/-- A gap: a record key of the home issuer has become EXPIRED, and none is ACTIVE (R81). -/
theorem State.overrunAfter_iff : s.evaluateSlots.overrunAfter s.evaluationChanges = true ↔
    (∃ (n : SlotNo) (d : KeyData), s.evaluate.slots[n].body = .held .expired d ∧ s.slots[n].body ≠ .held .expired d ∧
      d.isHomeRecord s.config.items.home = true) ∧
    ∀ (n : SlotNo) (d : KeyData), s.evaluate.slots[n].body = .held .active d → ¬ d.isHomeRecord s.config.items.home = true := by
  have hslot (n : SlotNo) : s.evaluateSlots.slots[n] = s.evaluate.slots[n] :=
    (s.slots_evaluateSlots n).trans (State.slot_evaluate h n).symm
  have hhome : s.evaluateSlots.config.items.home = s.config.items.home := congrArg (·.items.home) s.evaluateSlots_config
  rw [State.overrunAfter, Bool.and_eq_true, Bool.not_eq_true', ← Bool.not_eq_true, State.homeActive_iff, List.any_eq_true]
  refine and_congr ?_ ?_
  · constructor
    · rintro ⟨n, hn, hrec⟩
      rw [hslot] at hrec
      obtain ⟨d, hb, hd⟩ := Slot.homeRecordIn_iff.mp hrec
      rw [State.mem_evaluationChanges, ← State.slot_evaluate h, hb] at hn
      exact ⟨n, d, hb, hn.symm, hd⟩
    · rintro ⟨n, d, hb, hn, hd⟩
      refine ⟨n, ?_, ?_⟩
      · rw [State.mem_evaluationChanges, ← State.slot_evaluate h, hb]
        exact hn.symm
      · rw [hslot]
        exact Slot.homeRecordIn_iff.mpr ⟨d, hb, hd⟩
  · rw [hhome]
    constructor
    · intro hno n d hb hd
      exact hno ⟨n, d, (congrArg Slot.body (hslot n)).trans hb, hd⟩
    · rintro hno ⟨n, d, hb, hd⟩
      exact hno n d ((congrArg Slot.body (hslot n)).symm.trans hb) hd

end

theorem execSecondEvent_none {s : State} (h : s.clock.secondEvents = 0) : exec .secondEvent s = .next s := if_pos h

/-- A second event raised is taken, and the slots evaluate once they are loaded and the time is valid (R138, R152). -/
theorem execSecondEvent_succ {s : State} {k : Nat} (h : s.clock.secondEvents = k + 1) :
    exec .secondEvent s = .next
      (if s.loaded && s.clock.timeValid
        then State.driveAlerts (State.reformSigning (State.evaluate { s with clock := { s.clock with secondEvents := k } }))
        else { s with clock := { s.clock with secondEvents := k } }) := by
  have hne : ¬ s.clock.secondEvents = 0 := by omega
  rw [exec, execSecondEvent, if_neg hne, h, Nat.add_sub_cancel]
  exact (apply_ite Host.Outcome.next _ _ _).symm

/-- Settles O43: the evaluation by its slots, its store and its flags, then the event. -/
theorem evaluationAtSecondEvent : Obligations.EvaluationAtSecondEvent := by
  refine ⟨fun s h => State.evaluate_of_invalid h, fun s h => ?_, fun s k => ⟨execSecondEvent_none, fun hk => ?_⟩⟩
  · intro t sec reached home
    have hreached (d : KeyData) : reached d = expiryReached d.expiry sec := (expiryReached_eq _ _).symm
    have hhome (d : KeyData) : home d ↔ d.isHomeRecord s.config.items.home = true := KeyData.isHomeRecord_iff.symm
    refine ⟨s.evaluate_frame, fun n => ?_, ?_, fun hgap hnone => ?_, fun hnone => ?_, fun hactive => ?_⟩
    · simp only [hreached]
      rw [show t.slots[n] = s.slots[n].evaluated sec from State.slot_evaluate h n]
      split
      · next hb => exact Slot.evaluated_staged hb sec
      · next hb => exact Slot.evaluated_active hb sec
      · next hs ha => exact Slot.evaluated_other (fun d => hs d) (fun d => ha d)
    · rw [State.store_evaluate h, State.evaluationChanges_eq h]
      rw [show t.slots = s.evaluateSlots.slots from State.slots_evaluate h]
      rfl
    · obtain ⟨n, d, hb, hn, hd⟩ := hgap
      exact (State.flags_evaluate h).trans (if_pos ((State.overrunAfter_iff h).mpr
        ⟨⟨n, d, hb, hn, (hhome d).mp hd⟩, fun n d hb hd => hnone n d hb ((hhome d).mpr hd)⟩))
    · refine (State.flags_evaluate h).trans (if_neg fun hover => ?_)
      obtain ⟨⟨n, d, hb, hn, hd⟩, -⟩ := (State.overrunAfter_iff h).mp hover
      exact hn (hnone n d hb ((hhome d).mpr hd))
    · refine (State.flags_evaluate h).trans (if_neg fun hover => ?_)
      obtain ⟨n, d, hb, hd⟩ := hactive
      exact ((State.overrunAfter_iff h).mp hover).2 n d hb ((hhome d).mp hd)
  · refine ⟨fun hl hv => ?_, fun hno => ?_⟩
    · rw [execSecondEvent_succ hk, hl, hv]
      rfl
    · rw [execSecondEvent_succ hk, if_neg]
      rw [Bool.and_eq_true]
      rintro ⟨hl, hv⟩
      obtain hno | hno := hno
      · exact Bool.false_ne_true (hno.symm.trans hl)
      · exact Bool.false_ne_true (hno.symm.trans hv)

end Sys2Proof.Machine
end

section
/-! Proofs for the key slots: master selection, the current signing generation and the signing selection (R76, R78 to R80). -/

namespace Sys2Proof.Machine

/-! ### Master selection (R76) -/

/-- What master selection looks for in a slot (R76). -/
theorem Slot.foundAsMaster_iff {sl : Slot} {i : Byte} {g : Gen} :
    sl.foundAsMaster i g = true ↔ ∃ st d, sl.body = .held st d ∧ (st = .staged ∨ st = .active ∨ st = .expired) ∧
      d.issuer = i ∧ d.role = .tagMaster ∧ d.generation = g := by
  unfold Slot.foundAsMaster
  split
  · next st d hb =>
    simp only [Bool.and_eq_true, Bool.or_eq_true, beq_iff_eq, hb]
    constructor
    · rintro ⟨⟨⟨hi, hr⟩, hg⟩, hst⟩
      exact ⟨st, d, rfl, or_assoc.mp hst, hi, hr, hg⟩
    · rintro ⟨st', d', heq, hst, hi, hr, hg⟩
      cases heq
      exact ⟨⟨⟨hi, hr⟩, hg⟩, or_assoc.mpr hst⟩
  · next hb =>
    rw [hb]
    exact iff_of_false Bool.false_ne_true nofun

/-- The lowest slot that a search over the slots finds. -/
theorem find?_finRange {p : SlotNo → Bool} {n : SlotNo} (hn : p n = true) (hlow : ∀ k : SlotNo, k < n → p k = false) :
    (List.finRange 24).find? p = some n := by
  obtain ⟨a, b, hsplit, ha, -⟩ := finRange_split n
  have hnone : a.find? p = none := List.find?_eq_none.mpr fun k hk => by rw [hlow k (ha k hk)]; exact Bool.false_ne_true
  rw [hsplit, List.find?_append, hnone, Option.none_or, List.find?_cons_of_pos hn]

section
variable {slots : Vector Slot 24} {i : Byte} {m g : Gen}

theorem masterSelection_old (h : g < m) : masterSelection slots i m g = .error .oldGeneration := if_pos h

theorem masterSelection_unknown (h : ¬ g < m) (hno : ∀ n : SlotNo, slots[n].foundAsMaster i g = false) :
    masterSelection slots i m g = .error .unknownGeneration := by
  have hnone : ((List.finRange 24).find? fun n => slots[n].foundAsMaster i g) = none :=
    List.find?_eq_none.mpr fun n _ => by rw [hno]; exact Bool.false_ne_true
  rw [masterSelection, if_neg h, hnone]

/-- The slot found gives the outcome by its state. -/
theorem masterSelection_found (h : ¬ g < m) {n : SlotNo} (hn : slots[n].foundAsMaster i g = true)
    (hlow : ∀ k : SlotNo, k < n → slots[k].foundAsMaster i g = false) :
    masterSelection slots i m g =
      match slots[n].state with
      | .staged => .error .generationPending
      | .expired => .error .generationExpired
      | _ => .ok n := by
  have hfind : ((List.finRange 24).find? fun n => slots[n].foundAsMaster i g) = some n := find?_finRange hn hlow
  rw [masterSelection, if_neg h, hfind] <;> rfl

end

/-! ### The best of the slots (R79, R80) -/

/-- The candidate of a slot that betters those of all lower slots and is bettered by none of a higher slot. -/
theorem bestOf_slots {α : Type} {better : α → α → Bool} {f : SlotNo → Option α} {n : SlotNo} {x : α} (hn : f n = some x)
    (hlow : ∀ k y, k < n → f k = some y → better x y = true) (hhigh : ∀ k y, n < k → f k = some y → better y x = false) :
    bestOf better ((List.finRange 24).filterMap f) = some x := by
  obtain ⟨a, b, hsplit, ha, hb⟩ := finRange_split n
  rw [hsplit, List.filterMap_append, List.filterMap_cons_some hn]
  refine bestOf_first better _ _ x (fun y hy => ?_) fun y hy => ?_
  · obtain ⟨k, hk, hfk⟩ := List.mem_filterMap.mp hy
    exact hlow k y (ha k hk) hfk
  · obtain ⟨k, hk, hfk⟩ := List.mem_filterMap.mp hy
    exact hhigh k y (hb k hk) hfk

/-- A slot's record key of the home issuer in a state, with the slot. -/
def State.homeKey (s : State) (st : HeldState) (n : SlotNo) : Option (SlotNo × KeyData) :=
  match s.slots[n].body with
  | .held st' d => if st' == st && d.isHomeRecord s.config.items.home then some (n, d) else none
  | .empty => none

theorem State.homeRecords_eq (s : State) (st : HeldState) : s.homeRecords st = (List.finRange 24).filterMap (s.homeKey st) := rfl

theorem State.homeKey_eq_some {s : State} {st : HeldState} {n : SlotNo} {x : SlotNo × KeyData} :
    s.homeKey st n = some x ↔ x.1 = n ∧ s.slots[n].body = .held st x.2 ∧ x.2.isHomeRecord s.config.items.home = true := by
  unfold State.homeKey
  split
  · next st' d hb =>
    rw [hb]
    split
    · next hd =>
      simp only [Bool.and_eq_true, beq_iff_eq] at hd
      obtain ⟨rfl, hhome⟩ := hd
      constructor
      · intro hx
        cases hx
        exact ⟨rfl, rfl, hhome⟩
      · rintro ⟨hn, heq, -⟩
        cases heq
        rw [← hn]
    · next hd =>
      refine iff_of_false nofun ?_
      rintro ⟨-, heq, hhome⟩
      cases heq
      exact hd (by simp [hhome])
  · next hb =>
    rw [hb]
    exact iff_of_false nofun nofun

theorem State.homeKey_intro {s : State} {st : HeldState} {n : SlotNo} {d : KeyData} (hb : s.slots[n].body = .held st d)
    (hd : d.isHomeRecord s.config.items.home = true) : s.homeKey st n = some (n, d) := State.homeKey_eq_some.mpr ⟨rfl, hb, hd⟩

/-! ### The current signing generation and the signing selection (R78, R79, R80) -/

theorem State.activeSigner_none {s : State}
    (hno : ∀ (n : SlotNo) (d : KeyData), s.slots[n].body = .held .active d → ¬ d.isHomeRecord s.config.items.home = true) :
    s.activeSigner = none := by
  refine (bestOf_eq_none _ _).mpr (List.filterMap_eq_nil_iff.mpr fun n _ => Option.eq_none_iff_forall_ne_some.mpr fun x hx => ?_)
  obtain ⟨-, hb, hd⟩ := State.homeKey_eq_some.mp hx
  exact hno n x.2 hb hd

theorem State.activeSigner_some {s : State} {n : SlotNo} {d : KeyData} (hb : s.slots[n].body = .held .active d)
    (hd : d.isHomeRecord s.config.items.home = true)
    (hbest : ∀ (k : SlotNo) (d' : KeyData), s.slots[k].body = .held .active d' → d'.isHomeRecord s.config.items.home = true →
      d'.generation < d.generation ∨ d'.generation = d.generation ∧ n ≤ k) : s.activeSigner = some (n, d) := by
  rw [State.activeSigner, State.homeRecords_eq]
  refine bestOf_slots (State.homeKey_intro hb hd) (fun k y hk hy => ?_) fun k y hk hy => ?_
  · obtain ⟨-, hb', hd'⟩ := State.homeKey_eq_some.mp hy
    obtain hlt | ⟨-, hle⟩ := hbest k y.2 hb' hd'
    · exact decide_eq_true hlt
    · exact absurd hk (not_lt.mpr hle)
  · obtain ⟨-, hb', hd'⟩ := State.homeKey_eq_some.mp hy
    refine decide_eq_false fun hx => ?_
    obtain hlt | ⟨heq, -⟩ := hbest k y.2 hb' hd'
    · exact BitVec.lt_irrefl _ (BitVec.lt_trans hx hlt)
    · exact BitVec.lt_irrefl _ (heq ▸ hx)

/-- An EXPIRED record key of the home issuer within holdover, with its slot (R80). -/
def State.holdoverKey (s : State) (n : SlotNo) : Option (SlotNo × KeyData) :=
  (s.homeKey .expired n).filter fun x => withinHoldover x.2 s.clock.seconds s.config.items.holdover

theorem withinHoldover_iff {d : KeyData} {sec : Seconds} {h : BitVec 16} :
    withinHoldover d sec h = true ↔ ∃ e, d.expiry = some e ∧ sec.toNat < e.toNat + 60 * h.toNat := by
  unfold withinHoldover
  cases d.expiry with
  | none => exact iff_of_false Bool.false_ne_true nofun
  | some e => simp

theorem State.holdoverKey_eq_some {s : State} {n : SlotNo} {x : SlotNo × KeyData} :
    s.holdoverKey n = some x ↔ x.1 = n ∧ s.slots[n].body = .held .expired x.2 ∧
      x.2.isHomeRecord s.config.items.home = true ∧
      ∃ e, x.2.expiry = some e ∧ s.clock.seconds.toNat < e.toNat + 60 * s.config.items.holdover.toNat := by
  rw [State.holdoverKey, Option.filter_eq_some_iff, State.homeKey_eq_some, withinHoldover_iff, and_assoc, and_assoc]

theorem State.holdoverSigner_eq (s : State) : s.holdoverSigner = bestOf laterExpiry ((List.finRange 24).filterMap s.holdoverKey) := by
  rw [State.holdoverSigner, State.homeRecords_eq, List.filter_filterMap]
  rfl

theorem State.holdoverSigner_none {s : State} (hno : ∀ n, s.holdoverKey n = none) : s.holdoverSigner = none := by
  rw [State.holdoverSigner_eq]
  exact (bestOf_eq_none _ _).mpr (List.filterMap_eq_nil_iff.mpr fun n _ => hno n)

/-- The order of R80, written out for keys that expire. -/
theorem laterExpiry_iff {a b : SlotNo × KeyData} {ea eb : Seconds} (ha : a.2.expiry = some ea) (hb : b.2.expiry = some eb) :
    laterExpiry a b = true ↔ eb < ea ∨ eb = ea ∧ b.2.generation < a.2.generation := by
  rw [laterExpiry, ha, hb]
  simp only [Option.getD_some, Bool.or_eq_true, Bool.and_eq_true, decide_eq_true_eq, beq_iff_eq, BitVec.lt_def, BitVec.toNat_inj]

theorem State.holdoverSigner_some {s : State} {n : SlotNo} {d : KeyData} {e : Seconds} (hn : s.holdoverKey n = some (n, d))
    (he : d.expiry = some e)
    (hbest : ∀ (k : SlotNo) (d' : KeyData) (e' : Seconds), s.holdoverKey k = some (k, d') → d'.expiry = some e' →
      e' < e ∨ e' = e ∧ (d'.generation < d.generation ∨ d'.generation = d.generation ∧ n ≤ k)) :
    s.holdoverSigner = some (n, d) := by
  have hcand {k : SlotNo} {y : SlotNo × KeyData} (hy : s.holdoverKey k = some y) :
      ∃ e', y.2.expiry = some e' ∧
        (e' < e ∨ e' = e ∧ (y.2.generation < d.generation ∨ y.2.generation = d.generation ∧ n ≤ k)) := by
    obtain ⟨rfl, -, -, e', he', -⟩ := State.holdoverKey_eq_some.mp hy
    exact ⟨e', he', hbest y.1 y.2 e' hy he'⟩
  rw [State.holdoverSigner_eq]
  refine bestOf_slots hn (fun k y hk hy => ?_) fun k y hk hy => ?_
  · obtain ⟨e', he', hlt | ⟨heq, hlt | ⟨-, hle⟩⟩⟩ := hcand hy
    · exact (laterExpiry_iff (a := (n, d)) he he').mpr (.inl hlt)
    · exact (laterExpiry_iff (a := (n, d)) he he').mpr (.inr ⟨heq, hlt⟩)
    · exact absurd hk (not_lt.mpr hle)
  · obtain ⟨e', he', hcase⟩ := hcand hy
    rw [← Bool.not_eq_true, laterExpiry_iff (b := (n, d)) he' he]
    rintro (hx | ⟨heq, hx⟩)
    · obtain hlt | ⟨heq, -⟩ := hcase
      · exact BitVec.lt_irrefl _ (BitVec.lt_trans hx hlt)
      · exact BitVec.lt_irrefl _ (heq ▸ hx)
    · obtain hlt | ⟨-, hlt | ⟨hgen, -⟩⟩ := hcase
      · exact BitVec.lt_irrefl _ (heq ▸ hlt)
      · exact BitVec.lt_irrefl _ (BitVec.lt_trans hx hlt)
      · exact BitVec.lt_irrefl _ (hgen ▸ hx)

theorem State.signingSelection_active {s : State} {n : SlotNo} {d : KeyData} (h : s.activeSigner = some (n, d)) :
    s.signingSelection = some { slot := n, key := d.key, generation := d.generation, holdover := false } := by
  rw [State.signingSelection, h]

theorem State.signingSelection_holdover {s : State} (h : s.activeSigner = none) :
    s.signingSelection = if s.clock.timeValid then
      s.holdoverSigner.map fun x => { slot := x.1, key := x.2.key, generation := x.2.generation, holdover := true }
    else none := by
  rw [State.signingSelection, h]

/-- SIGNING_CHANGED on one lane if it is enabled. -/
theorem State.signingChanged_lane (s : State) (k l : LaneNo) :
    (if (s.settings k).enabled then s.onLane k fun ln => { ln with notices := { ln.notices with signingChanged := true } }
      else s).lanes[l] =
    if l = k then
      { s.lanes[l] with
        notices :=
          { s.lanes[l].notices with
            signingChanged := s.lanes[l].notices.signingChanged || s.config.lanes[l].enabled } }
    else s.lanes[l] := by
  by_cases hl : l = k
  · subst hl
    rw [if_pos rfl]
    cases he : s.config.lanes[l].enabled with
    | true => rw [if_pos (show (s.settings l).enabled = true from he), State.onLane_same, Bool.or_true]
    | false =>
      rw [if_neg (show ¬ (s.settings l).enabled = true from fun hx => Bool.false_ne_true (he.symm.trans hx)), Bool.or_false]
  · rw [if_neg hl]
    split
    · exact State.onLane_other _ _ _ _ hl
    · rfl

/-- The lanes after SIGNING_CHANGED on a list of them. -/
theorem State.signingChanged_lanes (ls : List LaneNo) (l : LaneNo) (s : State) :
    (ls.foldl (fun (s : State) k =>
      if (s.settings k).enabled then s.onLane k fun ln => { ln with notices := { ln.notices with signingChanged := true } }
      else s) s).lanes[l] =
    if l ∈ ls then
      { s.lanes[l] with
        notices :=
          { s.lanes[l].notices with
            signingChanged := s.lanes[l].notices.signingChanged || s.config.lanes[l].enabled } }
    else s.lanes[l] := by
  induction ls generalizing s with
  | nil => rfl
  | cons k ls ih =>
    have hlane := s.signingChanged_lane k l
    rw [List.foldl_cons]
    generalize hu : (if (s.settings k).enabled then
      s.onLane k fun ln => { ln with notices := { ln.notices with signingChanged := true } } else s) = u at hlane ⊢
    have hconfig : u.config = s.config := by
      rw [← hu]
      split <;> rfl
    rw [ih u, hlane, hconfig]
    by_cases hk : l = k <;> by_cases hmem : l ∈ ls <;> simp [hk, hmem]

/-- SIGNING_CHANGED on every enabled lane, written out. -/
theorem State.signingChangedAll_eq (s : State) :
    s.signingChangedAll =
      { s with
        lanes := Vector.ofFn fun l : LaneNo =>
          { s.lanes[l] with
            notices :=
              { s.lanes[l].notices with
                signingChanged := s.lanes[l].notices.signingChanged || s.config.lanes[l].enabled } } } := by
  rw [State.signingChangedAll_frame]
  congr 1
  refine Vector.ext fun l hl => ?_
  rw [Vector.getElem_ofFn]
  exact (State.signingChanged_lanes _ ⟨l, hl⟩ s).trans (if_pos (List.mem_finRange _))

/-- Settles O44: master selection by the lowest slot found, the selections as the best of the slots, the notice lane by lane. -/
theorem selectionsFollowRules : Obligations.SelectionsFollowRules := by
  refine ⟨fun slots i m g => ?_, fun s => ?_⟩
  · intro found there
    have hthere (n : SlotNo) : there n ↔ slots[n].foundAsMaster i g = true := by
      rw [Slot.foundAsMaster_iff]
      constructor
      · rintro (⟨d, hb, hd⟩ | ⟨d, hb, hd⟩ | ⟨d, hb, hd⟩)
        · exact ⟨_, d, hb, .inl rfl, hd⟩
        · exact ⟨_, d, hb, .inr (.inl rfl), hd⟩
        · exact ⟨_, d, hb, .inr (.inr rfl), hd⟩
      · rintro ⟨st, d, hb, rfl | rfl | rfl, hd⟩
        · exact .inl ⟨d, hb, hd⟩
        · exact .inr (.inl ⟨d, hb, hd⟩)
        · exact .inr (.inr ⟨d, hb, hd⟩)
    refine ⟨fun hlt => masterSelection_old (BitVec.lt_def.mpr hlt), fun hle hno => ?_, fun n hle hlow => ?_⟩
    · exact masterSelection_unknown (fun hx => absurd (BitVec.lt_def.mp hx) (not_lt.mpr hle)) fun n =>
        Bool.eq_false_iff.mpr fun hx => hno n ((hthere n).mpr hx)
    · have hout (hn : there n) := masterSelection_found (slots := slots) (i := i) (m := m) (g := g)
        (fun hx => absurd (BitVec.lt_def.mp hx) (not_lt.mpr hle)) ((hthere n).mp hn) fun k hk =>
        Bool.eq_false_iff.mpr fun hx => hlow k hk ((hthere k).mpr hx)
      refine ⟨fun hn => ?_, fun hn => ?_, fun hn => ?_⟩
      · rw [hout (.inl hn)]
        obtain ⟨d, hb, -⟩ := hn
        rw [Slot.state_of_body hb]
        rfl
      · rw [hout (.inr (.inr hn))]
        obtain ⟨d, hb, -⟩ := hn
        rw [Slot.state_of_body hb]
        rfl
      · rw [hout (.inr (.inl hn))]
        obtain ⟨d, hb, -⟩ := hn
        rw [Slot.state_of_body hb]
        rfl
  · intro home active held signer
    have hhome (d : KeyData) : home d ↔ d.isHomeRecord s.config.items.home = true := KeyData.isHomeRecord_iff.symm
    have hnone (hno : ∀ n d, ¬ active n d) : s.activeSigner = none :=
      State.activeSigner_none fun n d hb hd => hno n d ⟨hb, (hhome d).mpr hd⟩
    have hheld (n : SlotNo) (d : KeyData) : s.holdoverKey n = some (n, d) ↔ ∃ e, held n d e := by
      rw [State.holdoverKey_eq_some]
      constructor
      · rintro ⟨-, hb, hd, e, he, hlt⟩
        exact ⟨e, hb, (hhome d).mpr hd, he, hlt⟩
      · rintro ⟨e, hb, hd, he, hlt⟩
        exact ⟨rfl, hb, (hhome d).mp hd, e, he, hlt⟩
    refine ⟨fun n d ⟨hb, hd⟩ hbest => ?_, fun hno => ?_, fun hno hv => ?_, fun hno hno' => ?_,
      fun n d e hno hv hh hbest => ?_, fun heq => if_pos heq, fun hne => ?_⟩
    · have hactive : s.activeSigner = some (n, d) :=
        State.activeSigner_some hb ((hhome d).mp hd) fun k d' hb' hd' => hbest k d' ⟨hb', (hhome d').mpr hd'⟩
      exact ⟨by rw [State.formSigning, hactive]; rfl, State.signingSelection_active hactive⟩
    · rw [State.formSigning, hnone hno]
      rfl
    · rw [State.signingSelection_holdover (hnone hno), hv]
      rfl
    · have hempty : s.holdoverSigner = none := State.holdoverSigner_none fun n =>
        Option.eq_none_iff_forall_ne_some.mpr fun x hx => by
          obtain ⟨hn, -⟩ := State.holdoverKey_eq_some.mp hx
          obtain ⟨e, he⟩ := (hheld n x.2).mp (hn ▸ hx)
          exact hno' n x.2 e he
      rw [State.signingSelection_holdover (hnone hno), hempty]
      exact ite_self _
    · have hbest' := State.holdoverSigner_some ((hheld n d).mpr ⟨e, hh⟩) hh.2.2.1 fun k d' e' hk he' => by
        obtain ⟨e'', hh'⟩ := (hheld k d').mp hk
        obtain rfl : e'' = e' := Option.some.inj (hh'.2.2.1.symm.trans he')
        exact hbest k d' e'' hh'
      rw [State.signingSelection_holdover (hnone hno), hv, hbest']
      rfl
    · rw [State.reformSigning, if_neg hne, State.signingChangedAll_eq]

end Sys2Proof.Machine
end

section
/-! Proofs for the key slots: LOAD_KEY, WITHDRAW_KEY and the reading requests on a ready station (R66 to R68, R83, R84, R86, R88, R58,
R59, R146). -/

namespace Sys2Proof.Machine

/-! ### Operands (R66, R67) -/

theorem readByte_singleton (b : Byte) : readByte [b] = some b.toNat := rfl

theorem slotNo_of_ge {k : Nat} (h : 24 ≤ k) : slotNo k = none := dif_neg (Nat.not_lt.mpr h)

theorem slotNo_of_eq {k : Nat} {n : SlotNo} (h : k = n.val) : slotNo k = some n := by
  subst h
  exact dif_pos n.isLt

/-! ### A ready station (R154) -/

theorem State.StationReady.queue_nil {s : State} (h : s.StationReady) : s.stationFrameArrives.station.queue = [] := by
  obtain ⟨-, -, hq, -⟩ := h
  simpa using hq

section
variable {s : State} (h : s.StationReady)
include h

/-- A request answered in its step with nothing else changed. -/
theorem State.StationReady.answered {k : StationKind} {tag : Byte} {body : List Byte} {r : Reply}
    (hx : ∀ q, (s.stationFrameArrives.withQueue q).execute
      { kind := k, tag := tag, body := body, executing := false, answered := false } =
        (s.stationFrameArrives.withQueue q, some r)) :
    (s.powered fun s => s.stationFrame fun t => t.stationRequest k tag body) =
      .next (s.stationFrameArrives.produce .station { kind := k.code, tag := tag, reply := r, serial := none }).driveAlerts :=
  State.stationRequest_answered s h k tag body s.stationFrameArrives r hx h.queue_nil

/-! ### The reading requests (R88, R58, R59, R146) -/

theorem State.StationReady.listSlot_range {b : Byte} (hb : 24 ≤ b.toNat) (tag : Byte) :
    exec (.listSlot tag [b]) s =
      .next (s.stationFrameArrives.produce .station
        { kind := 0x22, tag := tag, reply := .code .slotRange, serial := none }).driveAlerts :=
  h.answered (k := .listSlot) fun q => by
    show State.runListSlot _ [b] = _
    rw [State.runListSlot, readByte_singleton]
    dsimp only
    rw [slotNo_of_ge hb]
    rfl

theorem State.StationReady.listSlot {b : Byte} {n : SlotNo} (hb : b.toNat = n.val) (tag : Byte) :
    exec (.listSlot tag [b]) s =
      .next (s.stationFrameArrives.produce .station
        { kind := 0x22, tag := tag, reply := .slot s.slots[n].state (s.slots[n].data.map KeyData.report) s.slots[n].refs
          serial := none }).driveAlerts :=
  h.answered (k := .listSlot) fun q => by
    show State.runListSlot _ [b] = _
    rw [State.runListSlot, readByte_singleton]
    dsimp only
    rw [slotNo_of_eq hb]
    rfl

theorem State.StationReady.queryPassage (id : TagId) (tag : Byte) :
    exec (.queryPassage tag (wire 6 id)) s =
      .next (s.stationFrameArrives.produce .station
        { kind := 0x30, tag := tag, reply := .passage ((s.table.find id).map fun e => e.report s.now)
          serial := none }).driveAlerts :=
  h.answered (k := .queryPassage) fun q => by
    show State.runQueryPassage _ (wire 6 id) = _
    rw [State.runQueryPassage, readTagId_wire]
    rfl

theorem State.StationReady.readTime (tag : Byte) :
    exec (.readTime tag []) s =
      .next (s.stationFrameArrives.produce .station
        { kind := 0x3A, tag := tag, reply := .time s.clock.report, serial := none }).driveAlerts :=
  h.answered (k := .readTime) fun _ => rfl

end

/-- Settles O53: each request's answer, its report then read off what stands. -/
theorem readRequestsServed : Obligations.ReadRequestsServed := by
  intro s tag h answered
  refine ⟨fun b hb => h.listSlot_range hb tag, fun b n hb => ⟨fun hempty => ?_, fun st d hd => ?_⟩,
    fun id => ⟨fun hf => ?_, fun e time tick number hf he => ?_, fun e c p hf he => ?_⟩, h.readTime tag⟩
  · rw [h.listSlot hb, Slot.state_of_body hempty, Slot.data, hempty]
    rfl
  · rw [h.listSlot hb, Slot.state_of_body hd, Slot.data, hd]
    cases st <;> rfl
  · rw [h.queryPassage, hf]
    rfl
  · rw [h.queryPassage, hf, Option.map_some, Passage.report, he]
    rfl
  · rw [h.queryPassage, hf, Option.map_some, Passage.report, he]

/-! ### LOAD_KEY (R66, R67, R68) -/

theorem roleOf_byte (r : Role) : roleOf r.byte = some r := by
  cases r <;> rfl

theorem exists_role_of_byte {b : Byte} (h : b = 1 ∨ b = 2) : ∃ r : Role, r.byte = b := by
  obtain rfl | rfl := h
  · exact ⟨.tagMaster, rfl⟩
  · exact ⟨.record, rfl⟩

theorem roleOf_eq_none {b : Byte} (h : ¬ (b = 1 ∨ b = 2)) : roleOf b = none := by
  obtain ⟨h1, h2⟩ := not_or.mp h
  rw [roleOf, if_neg h1, if_neg h2]

/-- The expiry time follows the activation time, or is none (R67 row 1). -/
theorem expiryAfter_iff {a e : Seconds} : expiryAfter a (expiryOf e) = true ↔ e = 0xFFFFFFFF ∨ a < e := by
  unfold expiryOf
  split
  · next he => exact iff_of_true rfl (.inl he)
  · next he =>
    rw [expiryAfter, decide_eq_true_eq]
    exact ⟨.inr, fun hx => hx.resolve_left he⟩

theorem expiryReached_iff {e sec : Seconds} : expiryReached (expiryOf e) sec = true ↔ e ≠ 0xFFFFFFFF ∧ e ≤ sec := by
  unfold expiryOf
  split
  · next he => exact iff_of_false Bool.false_ne_true fun hx => hx.1 he
  · next he =>
    rw [expiryReached, decide_eq_true_eq]
    exact ⟨fun hx => ⟨he, hx⟩, And.right⟩

/-- A well-formed LOAD_KEY (R67 row 1). -/
def LoadFormed (issuer role : Byte) (g : Gen) (a e : Seconds) : Prop :=
  issuer ≠ 0 ∧ issuer ≠ 255 ∧ (role = 1 ∨ role = 2) ∧ 1 ≤ g.toNat ∧ g.toNat ≤ 4095 ∧ (e = 0xFFFFFFFF ∨ a < e)

/-- The body of a LOAD_KEY, field by field (R202). -/
def loadBody (slot issuer role : Byte) (g : Gen) (a e : Seconds) (wrapped : Block) (check : BitVec 32) : List Byte :=
  [slot, issuer, role] ++ wire 2 g ++ wire 4 a ++ wire 4 e ++ wire 16 wrapped ++ wire 4 check

/-- The fields of a LOAD_KEY. -/
def loadArgs (slot issuer : Byte) (r : Role) (g : Gen) (a e : Seconds) (wrapped : Block) (check : BitVec 32) : LoadArgs :=
  { slot := slot.toNat, issuer := issuer, role := r, generation := g, activation := a, expiry := expiryOf e
    wrapped := wrapped, check := check }

section
variable {slot issuer role : Byte} {g : Gen} {a e : Seconds} {wrapped : Block} {check : BitVec 32}

theorem readLoadKey_malformed (h : ¬ LoadFormed issuer role g a e) :
    readLoadKey (loadBody slot issuer role g a e wrapped check) = none := by
  rw [loadBody, readLoadKey_wire]
  by_cases hr : role = 1 ∨ role = 2
  · obtain ⟨r, rfl⟩ := exists_role_of_byte hr
    rw [roleOf_byte]
    refine if_neg fun ⟨h0, h255, hlo, hhi, he⟩ => h ⟨h0, h255, hr, hlo, hhi, expiryAfter_iff.mp he⟩
  · rw [roleOf_eq_none hr]

theorem readLoadKey_formed (h : LoadFormed issuer role g a e) {r : Role} (hr : r.byte = role) :
    readLoadKey (loadBody slot issuer role g a e wrapped check) = some (loadArgs slot issuer r g a e wrapped check) := by
  obtain ⟨h0, h255, -, hlo, hhi, he⟩ := h
  rw [loadBody, readLoadKey_wire, ← hr, roleOf_byte]
  exact if_pos ⟨h0, h255, hlo, hhi, expiryAfter_iff.mpr he⟩

end

theorem State.hasGeneration_iff {s : State} {x : LoadArgs} :
    s.hasGeneration x = true ↔ ∃ (k : SlotNo) (st : HeldState) (d : KeyData),
      s.slots[k].body = .held st d ∧ d.issuer = x.issuer ∧ d.role = x.role ∧ d.generation = x.generation := by
  rw [State.hasGeneration, List.any_eq_true]
  constructor
  · rintro ⟨k, -, hk⟩
    cases hb : s.slots[k].body with
    | empty =>
      rw [Slot.data, hb] at hk
      cases hk
    | held st d =>
      rw [Slot.data, hb] at hk
      simp only [Bool.and_eq_true, beq_iff_eq] at hk
      obtain ⟨⟨hi, hr⟩, hg⟩ := hk
      exact ⟨k, st, d, hb, hi, hr, hg⟩
  · rintro ⟨k, st, d, hb, hi, hr, hg⟩
    refine ⟨k, List.mem_finRange k, ?_⟩
    rw [Slot.data, hb]
    simp [hi, hr, hg]

section
variable {s : State} (h : s.StationReady) {tag slot issuer role : Byte} {g : Gen} {a e : Seconds} {wrapped : Block}
  {check : BitVec 32}
include h

/-- A LOAD_KEY refused. -/
theorem State.StationReady.loadKey_refused {body : List Byte} {c : Code}
    (hx : ∀ q, (s.stationFrameArrives.withQueue q).runLoadKey body = answers (s.stationFrameArrives.withQueue q) c) :
    exec (.loadKey tag body) s =
      .next (s.stationFrameArrives.produce .station { kind := 0x20, tag := tag, reply := .code c, serial := none }).driveAlerts :=
  h.answered (k := .loadKey) hx

/-- A LOAD_KEY that fails a check at its slot. -/
theorem State.StationReady.loadKey_check (hf : LoadFormed issuer role g a e) {n : SlotNo} (hn : slot.toNat = n.val) {r : Role}
    (hr : r.byte = role) {c : Code} (hc : s.loadCheck n (loadArgs slot issuer r g a e wrapped check) = some c) :
    exec (.loadKey tag (loadBody slot issuer role g a e wrapped check)) s =
      .next (s.stationFrameArrives.produce .station { kind := 0x20, tag := tag, reply := .code c, serial := none }).driveAlerts :=
  h.loadKey_refused fun q => by
    have hcheck : (s.stationFrameArrives.withQueue q).loadCheck n (loadArgs slot issuer r g a e wrapped check) = some c := hc
    rw [State.runLoadKey, readLoadKey_formed hf hr]
    dsimp only
    rw [show (loadArgs slot issuer r g a e wrapped check).slot = n.val from hn, slotNo_of_eq rfl]
    dsimp only
    rw [hcheck]

/-- A LOAD_KEY that passes every check waits as a LOAD job (R68). -/
theorem State.StationReady.loadKey_taken (hf : LoadFormed issuer role g a e) {n : SlotNo} (hn : slot.toNat = n.val) {r : Role}
    (hr : r.byte = role) (hc : s.loadCheck n (loadArgs slot issuer r g a e wrapped check) = none) :
    exec (.loadKey tag (loadBody slot issuer role g a e wrapped check)) s =
      .next (((s.stationFrameArrives.withQueue [{ kind := .loadKey, tag := tag, body := loadBody slot issuer role g a e wrapped check
                                                  executing := true, answered := false }]).withLoad
        ((loadArgs slot issuer r g a e wrapped check).request n)).arbitrate).driveAlerts := by
  refine State.stationRequest_executing s h .loadKey tag _ _ ?_
  generalize hu : s.stationFrameArrives.withQueue _ = u
  have hcheck : u.loadCheck n (loadArgs slot issuer r g a e wrapped check) = none := by
    rw [← hu]
    exact hc
  show u.runLoadKey _ = _
  rw [State.runLoadKey, readLoadKey_formed hf hr]
  dsimp only
  rw [show (loadArgs slot issuer r g a e wrapped check).slot = n.val from hn, slotNo_of_eq rfl]
  dsimp only
  rw [hcheck]
  rfl

end

/-- Settles O51: the checks in their order, the request read field by field. -/
theorem loadKeyServed : Obligations.LoadKeyServed := by
  intro s tag slot issuer role g a e wrapped check h f body refused formed
  have hbody : body = loadBody slot issuer role g a e wrapped check := rfl
  refine ⟨fun hno => ?_, fun hf hn => ?_, fun n r hf hn hr => ?_⟩
  · refine h.loadKey_refused fun q => ?_
    rw [State.runLoadKey, hbody, readLoadKey_malformed hno]
  · obtain ⟨r, hr⟩ := exists_role_of_byte hf.2.2.1
    refine h.loadKey_refused fun q => ?_
    rw [State.runLoadKey, hbody, readLoadKey_formed hf hr]
    dsimp only
    rw [slotNo_of_ge (show 24 ≤ (loadArgs slot issuer r g a e wrapped check).slot from hn)]
  · intro taken double away past
    have htaken : taken ↔ s.slots[n].occupied = true := by
      rw [Slot.occupied, bne_iff_ne]
    have hdouble : double ↔ s.hasGeneration (loadArgs slot issuer r g a e wrapped check) = true :=
      (State.hasGeneration_iff (s := s) (x := loadArgs slot issuer r g a e wrapped check)).symm
    have hpast : past ↔ (s.clock.timeValid && expiryReached (expiryOf e) s.clock.seconds) = true := by
      rw [Bool.and_eq_true, expiryReached_iff]
    have hcheck : s.loadCheck n (loadArgs slot issuer r g a e wrapped check) =
        if s.slots[n].occupied then some .slotOccupied
        else if s.hasGeneration (loadArgs slot issuer r g a e wrapped check) then some .duplicateGeneration
        else if r = .record ∧ (s.config.items.home = 0 ∨ issuer ≠ s.config.items.home) then some .notHome
        else if s.clock.timeValid && expiryReached (expiryOf e) s.clock.seconds then some .windowPast
        else none := rfl
    refine ⟨fun ht => h.loadKey_check hf hn hr ?_, fun ht hd => h.loadKey_check hf hn hr ?_,
      fun ht hd ha => h.loadKey_check hf hn hr ?_, fun ht hd ha hp => h.loadKey_check hf hn hr ?_,
      fun ht hd ha hp => ?_⟩
    · rw [hcheck, if_pos (htaken.mp ht)]
    · rw [hcheck, if_neg (htaken.not.mp ht), if_pos (hdouble.mp hd)]
    · rw [hcheck, if_neg (htaken.not.mp ht), if_neg (hdouble.not.mp hd), if_pos ha]
    · rw [hcheck, if_neg (htaken.not.mp ht), if_neg (hdouble.not.mp hd), if_neg ha, if_pos (hpast.mp hp)]
    · refine (h.loadKey_taken hf hn hr ?_).trans rfl
      rw [hcheck, if_neg (htaken.not.mp ht), if_neg (hdouble.not.mp hd), if_neg ha, if_neg (hpast.not.mp hp)]

end Sys2Proof.Machine
end

section
/-! Proofs for the key slots: WITHDRAW_KEY, and the release that erases a slot (R83, R84, R86, R29). -/

namespace Sys2Proof.Machine

/-! ### The erase of an unused slot (R86) -/

theorem State.eraseIfUnused_unused {s : State} {n : SlotNo} {d : KeyData} (hb : s.slots[n].body = .held .withdrawn d)
    (hr : s.slots[n].refs = 0) :
    s.eraseIfUnused n = (s.onSlot n fun sl => { sl with body := .held .erasing d }).requestStore (.eraseSlot n) := by
  rw [State.eraseIfUnused, hb]
  exact if_pos hr

/-- A slot in use, or one that is not WITHDRAWN, is left. -/
theorem State.eraseIfUnused_other {s : State} {n : SlotNo}
    (h : (∀ d, s.slots[n].body ≠ .held .withdrawn d) ∨ s.slots[n].refs ≠ 0) : s.eraseIfUnused n = s := by
  unfold State.eraseIfUnused
  split
  · next d hb =>
    obtain hno | hr := h
    · exact absurd hb (hno d)
    · exact if_neg hr
  · rfl

theorem State.onSlot_onSlot (s : State) (n : SlotNo) (f g : Slot → Slot) :
    (s.onSlot n f).onSlot n g = s.onSlot n fun sl => g (f sl) := by
  rw [State.onSlot, State.onSlot_same]
  simp [State.onSlot]

/-! ### The withdrawal (R84) -/

/-- The slot withdrawn, its write requested, and the contexts that name a master slot reached. -/
def State.withdrawn (s : State) (n : SlotNo) (d : KeyData) : State :=
  if d.role = .tagMaster then
    ((s.onSlot n fun sl => { sl with body := .held .withdrawn d }).requestStore (.writeSlot n)).withdrawMaster n
  else (s.onSlot n fun sl => { sl with body := .held .withdrawn d }).requestStore (.writeSlot n)

theorem State.withdraw_eq (s : State) (n : SlotNo) (d : KeyData) :
    s.withdraw n d = ((s.withdrawn n d).eraseIfUnused n).reformSigning := rfl

/-- A slot reached by its withdrawal is WITHDRAWN or, its last use gone, ERASING. -/
theorem State.body_withdrawn (s : State) (n : SlotNo) (d : KeyData) :
    (s.withdrawn n d).slots[n].body = .held .withdrawn d ∨ (s.withdrawn n d).slots[n].body = .held .erasing d := by
  have hslot : ((s.onSlot n fun sl => { sl with body := .held .withdrawn d }).requestStore (.writeSlot n)).slots[n].body =
      .held .withdrawn d := by
    rw [State.requestStore_slots, State.onSlot_same]
  unfold State.withdrawn
  generalize (s.onSlot n fun sl => { sl with body := .held .withdrawn d }).requestStore (.writeSlot n) = t at hslot ⊢
  split
  · obtain heq | ⟨st, st', d', hb, hb', -, hlt⟩ := (t.carries_withdrawMaster n).keys.slots n
    · exact .inl (heq.trans hslot)
    · rw [hslot] at hb
      cases hb
      cases st' with
      | erasing => exact .inr hb'
      | loading x => exact absurd hlt (Nat.not_lt_zero _)
      | _ => exact absurd hlt (by decide)
  · exact .inl hslot

/-- What the erase of R86 does after a withdrawal, with the slot's key said. -/
theorem State.eraseIfUnused_withdrawn {v : State} {n : SlotNo} {d : KeyData}
    (hv : v.slots[n].body = .held .withdrawn d ∨ v.slots[n].body = .held .erasing d) :
    v.eraseIfUnused n =
      if v.slots[n].body = .held .withdrawn d ∧ v.slots[n].refs = 0 then
        (v.onSlot n fun sl => { sl with body := .held .erasing d }).requestStore (.eraseSlot n)
      else v := by
  split
  · next hx => exact State.eraseIfUnused_unused hx.1 hx.2
  · next hx =>
    refine State.eraseIfUnused_other ?_
    obtain hb | hb := hv
    · exact .inr fun hr => hx ⟨hb, hr⟩
    · exact .inl fun d' hb' => by
        rw [hb] at hb'
        cases hb'

section
variable {s : State} (h : s.StationReady) {tag b : Byte}
include h

/-- A WITHDRAW_KEY refused. -/
theorem State.StationReady.withdrawKey_refused {c : Code}
    (hx : ∀ q, (s.stationFrameArrives.withQueue q).runWithdrawKey [b] = answers (s.stationFrameArrives.withQueue q) c) :
    exec (.withdrawKey tag [b]) s =
      .next (s.stationFrameArrives.produce .station { kind := 0x21, tag := tag, reply := .code c, serial := none }).driveAlerts :=
  h.answered (k := .withdrawKey) hx

/-- A WITHDRAW_KEY of a STAGED, ACTIVE or EXPIRED slot. -/
theorem State.StationReady.withdrawKey_served {n : SlotNo} (hn : b.toNat = n.val) {st : HeldState} {d : KeyData}
    (hb : s.slots[n].body = .held st d) (hst : st = .staged ∨ st = .active ∨ st = .expired) :
    exec (.withdrawKey tag [b]) s =
      .next ((s.stationFrameArrives.withdraw n d).produce .station
        { kind := 0x21, tag := tag
          reply := .withdrawn (s.stationFrameArrives.withdraw n d).slots[n].state (s.stationFrameArrives.withdraw n d).slots[n].refs
          serial := none }).driveAlerts := by
  refine State.stationRequest_answered s h .withdrawKey tag [b] (s.stationFrameArrives.withdraw n d) _ (fun q => ?_) ?_
  · show (s.stationFrameArrives.withQueue q).runWithdrawKey [b] = _
    have hb' : (s.stationFrameArrives.withQueue q).slots[n].body = .held st d := hb
    rw [State.runWithdrawKey, readByte_singleton]
    dsimp only
    rw [slotNo_of_eq hn]
    dsimp only
    rw [hb']
    obtain rfl | rfl | rfl := hst <;> dsimp only <;> rw [State.withdraw_withQueue] <;> rfl
  · have hstation : (s.stationFrameArrives.withdraw n d).station = s.stationFrameArrives.station := by
      unfold State.withdraw
      dsimp only
      split <;> simp
    rw [hstation]
    exact h.queue_nil

end

/-- Settles O52: the withdrawal in the order of its steps, and the release by whether it was the last of a WITHDRAWN slot. -/
theorem withdrawalAndLastRelease : Obligations.WithdrawalAndLastRelease := by
  refine ⟨fun s tag b h => ?_, fun s n => ?_⟩
  · intro f answered
    refine ⟨fun hb => h.withdrawKey_refused fun q => ?_, fun n hn => ⟨fun hempty => h.withdrawKey_refused fun q => ?_,
      fun st d hb hs ha he => h.withdrawKey_refused fun q => ?_, fun st d hb hst => ?_⟩⟩
    · rw [State.runWithdrawKey, readByte_singleton]
      dsimp only
      rw [slotNo_of_ge hb]
    · have hempty' : (s.stationFrameArrives.withQueue q).slots[n].body = .empty := hempty
      rw [State.runWithdrawKey, readByte_singleton]
      dsimp only
      rw [slotNo_of_eq hn]
      dsimp only
      rw [hempty']
    · have hb' : (s.stationFrameArrives.withQueue q).slots[n].body = .held st d := hb
      rw [State.runWithdrawKey, readByte_singleton]
      dsimp only
      rw [slotNo_of_eq hn]
      dsimp only
      rw [hb']
      cases st with
      | staged => exact absurd rfl hs
      | active => exact absurd rfl ha
      | expired => exact absurd rfl he
      | loading x => rfl
      | withdrawn => rfl
      | erasing => rfl
    · intro t v w
      have hw : f.withdraw n d = w.reformSigning :=
        (f.withdraw_eq n d).trans (congrArg State.reformSigning (State.eraseIfUnused_withdrawn (f.body_withdrawn n d)))
      have hslots : (f.withdraw n d).slots = w.slots := by rw [hw, State.reformSigning_slots]
      have hserved := h.withdrawKey_served (tag := tag) hn hb hst
      rw [hslots, hw] at hserved
      exact hserved
  · intro lowered
    refine ⟨fun d hb hr => ?_, fun hother => ?_⟩
    · have hbody : (s.onSlot n fun sl => { sl with refs := sl.refs - 1 }).slots[n].body = .held .withdrawn d := by
        rw [State.onSlot_same]
        exact hb
      have hrefs : (s.onSlot n fun sl => { sl with refs := sl.refs - 1 }).slots[n].refs = 0 := by
        rw [State.onSlot_same]
        exact Nat.sub_eq_zero_of_le hr
      rw [State.release, State.eraseIfUnused_unused hbody hrefs, State.onSlot_onSlot]
      rfl
    · rw [State.release, State.eraseIfUnused_other]
      · rfl
      · rw [State.onSlot_same]
        exact hother.imp_right fun hr => by
          dsimp only
          omega

end Sys2Proof.Machine
end

section
/-! Proofs for the tag routes: matching, specificity and the route lookup (R91, R92, R93). -/

namespace Sys2Proof.Machine

/-! ### Matching and specificity (R91, R92) -/

/-- A difference masked is zero exactly where the bits in which the mask holds 0 agree. -/
theorem xor_and_not_eq_zero_iff {w : Nat} (x y m : BitVec w) :
    (x ^^^ y) &&& ~~~m = 0 ↔ ∀ b, b < w → m.getLsbD b = false → x.getLsbD b = y.getLsbD b := by
  rw [← not_iff_not, ← ne_eq, and_ne_zero_iff]
  push Not
  refine exists_congr fun b => and_congr_right fun hb => ?_
  rw [BitVec.getLsbD_xor, BitVec.getLsbD_not, and_comm]
  simp [hb]

theorem Route.matchesTag_iff {r : Route} {id : TagId} :
    r.matchesTag id = true ↔
      r.enabled = true ∧ ∀ b, b < 48 → r.mask.getLsbD b = false → id.getLsbD b = r.compare.getLsbD b := by
  rw [Route.matchesTag, Bool.and_eq_true, beq_iff_eq, xor_and_not_eq_zero_iff]

/-- The cared bits and the others are all 48. -/
theorem Route.specificity_add (r : Route) :
    r.specificity + ((List.range 48).filter fun b => r.mask.getLsbD b).length = 48 := by
  have hall := List.length_eq_countP_add_countP (fun b => r.mask.getLsbD b) (l := List.range 48)
  rw [List.length_range, List.countP_eq_length_filter, Nat.add_comm] at hall
  simpa [Route.specificity] using hall.symm

/-! ### The route result (R93) -/

theorem mem_matchingRoutes {routes : Vector Route 32} {id : TagId} {r : Route} :
    r ∈ matchingRoutes routes id ↔ ∃ i : RouteNo, routes[i].matchesTag id = true ∧ routes[i] = r := by
  rw [matchingRoutes, List.mem_filter, List.mem_map]
  constructor
  · rintro ⟨⟨i, -, rfl⟩, hm⟩
    exact ⟨i, hm, rfl⟩
  · rintro ⟨i, hm, rfl⟩
    exact ⟨⟨i, List.mem_finRange i, rfl⟩, hm⟩

/-- A flag of the route result is that of some matching entry. -/
theorem any_matchingRoutes {routes : Vector Route 32} {id : TagId} {p : Route → Bool} :
    (matchingRoutes routes id).any p = true ↔ ∃ i : RouteNo, routes[i].matchesTag id = true ∧ p routes[i] = true := by
  rw [List.any_eq_true]
  constructor
  · rintro ⟨r, hr, hp⟩
    obtain ⟨i, hm, rfl⟩ := mem_matchingRoutes.mp hr
    exact ⟨i, hm, hp⟩
  · rintro ⟨i, hm, hp⟩
    exact ⟨routes[i], mem_matchingRoutes.mpr ⟨i, hm, rfl⟩, hp⟩

/-- The indexes in order, cut at one of them. -/
theorem finRange_split_at {n : Nat} (i : Fin n) :
    ∃ a b : List (Fin n), List.finRange n = a ++ i :: b ∧ (∀ k ∈ a, k < i) ∧ ∀ k ∈ b, i < k := by
  obtain ⟨a, b, hsplit⟩ := List.append_of_mem (List.mem_finRange i)
  have hsorted := List.pairwise_lt_finRange n
  rw [hsplit, List.pairwise_append, List.pairwise_cons] at hsorted
  obtain ⟨-, ⟨hb, -⟩, ha⟩ := hsorted
  exact ⟨a, b, hsplit, fun k hk => ha k hk i List.mem_cons_self, hb⟩

section
variable {routes : Vector Route 32} {id : TagId}

theorem issuerRoute_none (h : ∀ i : RouteNo, routes[i].matchesTag id = true → routes[i].issuer = 0) :
    issuerRoute (matchingRoutes routes id) = none := by
  rw [issuerRoute, bestOf_eq_none, List.filter_eq_nil_iff]
  intro r hr
  obtain ⟨i, hm, rfl⟩ := mem_matchingRoutes.mp hr
  rw [h i hm]
  exact Bool.false_ne_true

/-- The matching entry with an issuer that is more specific than every other one of a lower index, and as specific as every
one of a higher index, is chosen. -/
theorem issuerRoute_some {i : RouteNo} (hi : routes[i].matchesTag id = true) (hne : routes[i].issuer ≠ 0)
    (hlow : ∀ k : RouteNo, k < i → routes[k].matchesTag id = true → routes[k].issuer ≠ 0 →
      routes[k].specificity < routes[i].specificity)
    (hhigh : ∀ k : RouteNo, i < k → routes[k].matchesTag id = true → routes[k].issuer ≠ 0 →
      routes[k].specificity ≤ routes[i].specificity) :
    issuerRoute (matchingRoutes routes id) = some routes[i] := by
  obtain ⟨a, b, hsplit, ha, hb⟩ := finRange_split_at i
  have hcandidate {ks : List RouteNo} {r : Route}
      (hr : r ∈ ((ks.map fun k => routes[k]).filter fun r => r.matchesTag id).filter fun r => r.issuer != 0) :
      ∃ k ∈ ks, routes[k] = r ∧ routes[k].matchesTag id = true ∧ routes[k].issuer ≠ 0 := by
    rw [List.mem_filter, List.mem_filter, List.mem_map, bne_iff_ne] at hr
    obtain ⟨⟨⟨k, hk, rfl⟩, hm⟩, hn⟩ := hr
    exact ⟨k, hk, rfl, hm, hn⟩
  rw [issuerRoute, matchingRoutes, hsplit, List.map_append, List.map_cons, List.filter_append,
    List.filter_cons_of_pos (p := fun r : Route => r.matchesTag id) hi, List.filter_append,
    List.filter_cons_of_pos (p := fun r : Route => r.issuer != 0) (bne_iff_ne.mpr hne)]
  refine bestOf_first _ _ _ _ (fun r hr => ?_) fun r hr => ?_
  · obtain ⟨k, hk, rfl, hm, hn⟩ := hcandidate hr
    exact decide_eq_true (hlow k (ha k hk) hm hn)
  · obtain ⟨k, hk, rfl, hm, hn⟩ := hcandidate hr
    exact decide_eq_false (Nat.not_lt.mpr (hhigh k (hb k hk) hm hn))

end

/-- Settles O45: the flags by the matching entries, the issuer by the best of those that name one. -/
theorem routeLookupFollowsRules : Obligations.RouteLookupFollowsRules := by
  refine ⟨fun r id => Route.matchesTag_iff, Route.specificity_add, fun routes id => ?_⟩
  intro hit result
  refine ⟨any_matchingRoutes, any_matchingRoutes, any_matchingRoutes, fun hno => ?_, fun i hi hne hbest => ?_⟩
  · exact congrArg (Option.map _) (issuerRoute_none hno)
  · refine congrArg (Option.map _) (issuerRoute_some hi hne (fun k hk hm hn => ?_) fun k hk hm hn => ?_)
    · obtain hlt | ⟨-, hle⟩ := hbest k hm hn
      · exact hlt
      · exact absurd hk (not_lt.mpr hle)
    · obtain hlt | ⟨heq, -⟩ := hbest k hm hn
      · exact hlt.le
      · exact heq.le

end Sys2Proof.Machine
end

section
/-! Proofs for the tag routes: the requests that write the route table and the clock on a ready station (R97 to R99, R144, R74,
R142). -/

namespace Sys2Proof.Machine

/-! ### Operands (R97, R98) -/

theorem routeNo_of_ge {k : Nat} (h : 32 ≤ k) : routeNo k = none := dif_neg (Nat.not_lt.mpr h)

theorem routeNo_of_eq {k : Nat} {i : RouteNo} (h : k = i.val) : routeNo k = some i := by
  subst h
  exact dif_pos i.isLt

/-- The minimum generation as stored (R98). -/
theorem clamp_minGen (g : Gen) : clamp 1 4095 g = if g = 0 then 1 else if 4095 < g then 4095 else g := by
  have h : g < 1 ↔ g = 0 := by bv_omega
  simp only [clamp, h]

/-- An answer says that the minimum generation was clamped exactly when it lay outside its bounds (R98). -/
theorem clamp_minGen_bne (g : Gen) : (clamp 1 4095 g != g) = (g == 0 || decide (4095 < g)) := by
  rw [clamp_minGen, Bool.eq_iff_iff, bne_iff_ne, Bool.or_eq_true, beq_iff_eq, decide_eq_true_eq]
  split
  · next h0 => exact iff_of_true (h0 ▸ by decide) (.inl h0)
  · next h0 =>
    split
    · next hhi => exact iff_of_true (BitVec.ne_of_lt hhi) (.inr hhi)
    · next hhi => exact iff_of_false (fun hx => hx rfl) (not_or.mpr ⟨h0, hhi⟩)

/-- The body of a SET_ROUTE, field by field (R202). -/
def routeBody (index flags : Byte) (compare mask : TagId) (issuer : Byte) (minGen : Gen) : List Byte :=
  [index, flags] ++ wire 6 compare ++ wire 6 mask ++ [issuer] ++ wire 2 minGen

/-- The entry that a SET_ROUTE stores (R97, R98). -/
def routeEntry (flags : Byte) (compare mask : TagId) (issuer : Byte) (minGen : Gen) : Route :=
  { enabled := flags.getLsbD 3, compare := compare &&& ~~~mask, mask := mask, issuer := issuer
    minGen := if minGen = 0 then 1 else if 4095 < minGen then 4095 else minGen
    deny := flags.getLsbD 0, watch := flags.getLsbD 1, strict := flags.getLsbD 2 }

section
variable {index flags issuer : Byte} {compare mask : TagId} {minGen : Gen}

theorem readSetRoute_malformed (h : issuer = 255) : readSetRoute (routeBody index flags compare mask issuer minGen) = none := by
  rw [routeBody, readSetRoute_wire, if_neg (not_not.mpr h)]

theorem readSetRoute_formed (h : issuer ≠ 255) :
    readSetRoute (routeBody index flags compare mask issuer minGen) =
      some
        { index := index.toNat, route := routeEntry flags compare mask issuer minGen
          clamped := minGen == 0 || decide (4095 < minGen) } := by
  rw [routeBody, readSetRoute_wire, if_pos h, clamp_minGen_bne, clamp_minGen]
  rfl

/-! ### The requests at their execution (R97, R98, R99, R144, R142) -/

theorem State.runSetRoute_malformed (t : State) (h : issuer = 255) :
    t.runSetRoute (routeBody index flags compare mask issuer minGen) = answers t .malformed := by
  rw [State.runSetRoute, readSetRoute_malformed h]

theorem State.runSetRoute_range (t : State) (h : issuer ≠ 255) (hx : 32 ≤ index.toNat) :
    t.runSetRoute (routeBody index flags compare mask issuer minGen) = answers t .routeRange := by
  rw [State.runSetRoute, readSetRoute_formed h]
  dsimp only
  rw [routeNo_of_ge hx]

theorem State.runSetRoute_served (t : State) (h : issuer ≠ 255) {i : RouteNo} (hx : index.toNat = i.val) :
    t.runSetRoute (routeBody index flags compare mask issuer minGen) =
      ({ t with routes := t.routes.set i (routeEntry flags compare mask issuer minGen) },
        some (.route (minGen == 0 || decide (4095 < minGen)) i (routeEntry flags compare mask issuer minGen))) := by
  rw [State.runSetRoute, readSetRoute_formed h]
  dsimp only
  rw [routeNo_of_eq hx]

end

theorem State.runClearRoute_range (t : State) {b : Byte} (hb : 32 ≤ b.toNat) :
    t.runClearRoute [b] = answers t .routeRange := by
  rw [State.runClearRoute, readByte_singleton]
  dsimp only
  rw [routeNo_of_ge hb]

theorem State.runClearRoute_served (t : State) {b : Byte} {i : RouteNo} (hb : b.toNat = i.val) :
    t.runClearRoute [b] =
      ({ t with routes := t.routes.set i Route.cleared }, some (.cleared i t.routes[i].enabled)) := by
  rw [State.runClearRoute, readByte_singleton]
  dsimp only
  rw [routeNo_of_eq hb]

theorem State.runSetTime_served (t : State) (v : Seconds) :
    t.runSetTime (wire 4 v) =
      ((State.evaluate { t with clock := { t.clock with seconds := v, fraction := 0, timeValid := true } }).reformSigning,
        some (.timeSet t.clock.seconds t.clock.fraction t.clock.timeValid)) := by
  rw [State.runSetTime, readSetTime_wire]

theorem Clock.takePeriodStart_eq (k : Clock) :
    k.takePeriodStart =
      { k with trimInUse := if k.periodStarted then k.trimSet else k.trimInUse, periodStarted := false } := by
  unfold Clock.takePeriodStart
  split
  · rfl
  · next hp => rw [← Bool.eq_false_iff.mpr hp]

theorem State.runSetTrim_served (t : State) (b : Byte) :
    t.runSetTrim [b] =
      ({ t with
          clock :=
            { t.clock with
              trimSet := b
              trimInUse := if t.clock.periodStarted then t.clock.trimSet else t.clock.trimInUse
              periodStarted := false } },
        some (.trim b)) := by
  show (({ t with clock := { t.clock.takePeriodStart with trimSet := b } } : State), some (Reply.trim b)) = _
  rw [Clock.takePeriodStart_eq]

/-! ### The requests on a ready station -/

section
variable {s : State} (h : s.StationReady) {tag : Byte}
include h

/-- SET_TIME looks at no request waiting: the slots are evaluated and the signing generation formed as without it (R144, R74). -/
theorem State.StationReady.setTime (v : Seconds) :
    exec (.setTime tag (wire 4 v)) s =
      .next ((State.evaluate
          { s.stationFrameArrives with
            clock := { s.clock with seconds := v, fraction := 0, timeValid := true } }).reformSigning.produce .station
        { kind := 0x38, tag := tag, reply := .timeSet s.clock.seconds s.clock.fraction s.clock.timeValid
          serial := none }).driveAlerts := by
  refine State.stationRequest_answered s h .setTime tag (wire 4 v) _ _ (fun q => ?_) ?_
  · rw [← State.reformSigning_withQueue, ← State.evaluate_withQueue]
    exact State.runSetTime_served _ v
  · rw [State.reformSigning_station, State.evaluate_station]
    exact h.queue_nil

end

/-- Settles O54: each request as it is executed, put into the station's answer. -/
theorem writeRequestsServed : Obligations.WriteRequestsServed := by
  intro s tag h f answered
  refine ⟨fun index flags compare mask issuer minGen => ⟨fun hi => ?_, fun hi hx => ?_, fun i hi hx => ?_⟩,
    fun b => ⟨fun hb => ?_, fun i hb => ?_⟩, h.setTime, fun b => ?_⟩
  · exact h.answered (k := .setRoute) fun q => State.runSetRoute_malformed _ hi
  · exact h.answered (k := .setRoute) fun q => State.runSetRoute_range _ hi hx
  · exact State.stationRequest_answered s h .setRoute tag _ _ _ (hu := h.queue_nil) fun q => State.runSetRoute_served _ hi hx
  · exact h.answered (k := .clearRoute) fun q => State.runClearRoute_range _ hb
  · exact State.stationRequest_answered s h .clearRoute tag _ _ _ (hu := h.queue_nil) fun q => State.runClearRoute_served _ hb
  · exact State.stationRequest_answered s h .setTrim tag _ _ _ (hu := h.queue_nil) fun q => State.runSetTrim_served _ b

end Sys2Proof.Machine
end

section
/-! Proofs for the key function unit: the input blocks of its operations (R103 to R108, R134). -/

namespace Sys2Proof.Machine

/-! ### The bytes of two fields in a row (R196) -/

/-- The first bytes of a field spell its high part. -/
theorem bytesOf_add (n m v : Nat) : bytesOf (n + m) v = bytesOf n (v / 256 ^ m) ++ bytesOf m v := by
  induction n with
  | zero => simp [bytesOf]
  | succ n ih =>
    rw [Nat.succ_add, bytesOf, bytesOf, ih, Nat.div_div_eq_div_mul, ← pow_add, Nat.add_comm m n]
    rfl

/-- The last bytes of a field do not see its high part. -/
theorem bytesOf_mul_add (n a b : Nat) : bytesOf n (a * 256 ^ n + b) = bytesOf n b := by
  induction n generalizing a with
  | zero => rfl
  | succ n ih =>
    have hsplit : a * 256 ^ (n + 1) + b = a * 256 * 256 ^ n + b := by ring
    have hhead : (a * 256 * 256 ^ n + b) / 256 ^ n = b / 256 ^ n + a * 256 := by
      rw [Nat.add_comm, Nat.add_mul_div_right _ _ (by positivity)]
    rw [hsplit, bytesOf, bytesOf, ih, hhead]
    congr 1
    exact BitVec.eq_of_toNat_eq (by simp)

/-- Two fields of whole bytes sent one behind the other are the bytes of both bit strings in a row. -/
theorem wire_append {n m : Nat} (x : BitVec (8 * n)) (y : BitVec (8 * m)) : wire n x ++ wire m y = wire (n + m) (x ++ y) := by
  have hpow : 2 ^ (8 * m) = 256 ^ m := by rw [pow_mul]; norm_num
  have hy : y.toNat < 256 ^ m := hpow ▸ y.isLt
  have hnum : (x ++ y).toNat = x.toNat * 256 ^ m + y.toNat := by
    rw [BitVec.toNat_append, ← Nat.shiftLeft_add_eq_or_of_lt y.isLt, Nat.shiftLeft_eq, hpow]
  have hhigh : (x.toNat * 256 ^ m + y.toNat) / 256 ^ m = x.toNat := by
    rw [Nat.add_comm, Nat.add_mul_div_right _ _ (by positivity), Nat.div_eq_of_lt hy, Nat.zero_add]
  rw [wire, wire, wire, hnum, bytesOf_add, hhigh, bytesOf_mul_add]

/-! ### Two chained blocks (R103) -/

/-- The block that 16 bytes spell. -/
def blockOf (bs : List Byte) : Block := BitVec.ofNat 128 (numberOf bs)

/-- A message of 16 to 31 bytes is padded to two blocks. -/
theorem messageBlocks_two {msg : List Byte} (hlow : 16 ≤ msg.length) (hhigh : msg.length ≤ 31) :
    messageBlocks msg =
      [blockOf (msg.take 16), blockOf (msg.drop 16 ++ 0x80 :: List.replicate (31 - msg.length) 0)] := by
  have hfill : (16 - (msg.length + 1) % 16) % 16 = 31 - msg.length := by omega
  have hpad : padded msg = msg ++ 0x80 :: List.replicate (31 - msg.length) 0 := by
    rw [padded, hfill, List.append_assoc]
    rfl
  have hcount : (padded msg).length / 16 = 2 := by
    simp only [hpad, List.length_append, List.length_cons, List.length_replicate]
    omega
  have hrest : (msg.drop 16 ++ (0x80 : Byte) :: List.replicate (31 - msg.length) 0).length = 16 := by
    simp only [List.length_append, List.length_drop, List.length_cons, List.length_replicate]
    omega
  rw [messageBlocks, hcount, hpad, blocksOf, blocksOf, List.take_append_of_le_length hlow,
    List.drop_append_of_le_length hlow, List.take_of_length_le hrest.le]
  rfl

/-- Each block is enciphered exclusive-or the output before it (R103 step 3). -/
theorem chained_two {msg : List Byte} (hlow : 16 ≤ msg.length) (hhigh : msg.length ≤ 31) (key : Block) :
    chained key msg =
      firstEight (encipher key (blockOf (msg.drop 16 ++ 0x80 :: List.replicate (31 - msg.length) 0) ^^^
        encipher key (blockOf (msg.take 16)))) := by
  simp [chained, messageBlocks_two hlow hhigh, chainOutput]

/-- Sixteen bytes of a field are the block of its bits. -/
theorem blockOf_wire (x : BitVec 128) : blockOf (wire 16 x) = x := ofNat_numberOf_wire 16 x (by norm_num)

/-! ### Response and Record MAC (R106, R107, R134) -/

/-- A tag ID is cut between the two blocks of Response. -/
theorem wire_tagId (id : TagId) : wire 6 id = wire 2 (id.extractLsb' 32 16) ++ wire 4 (id.setWidth 32) := by
  have hid : id = id.extractLsb' 32 16 ++ id.setWidth 32 := by
    refine BitVec.eq_of_toNat_eq ?_
    rw [BitVec.toNat_append, ← Nat.shiftLeft_add_eq_or_of_lt (BitVec.isLt _)]
    simp only [BitVec.extractLsb'_toNat, BitVec.toNat_setWidth, Nat.shiftLeft_eq, Nat.shiftRight_eq_div_pow]
    omega
  conv_lhs => rw [hid]
  exact (wire_append (n := 2) (m := 4) _ _).symm

theorem response_blocks (key : Block) (ch : Mac) (nonce : BitVec 32) (counter : Counter) (id : TagId) :
    response key ch nonce counter id =
      firstEight (encipher key ((id.setWidth 32 ++ 0x80#8 ++ 0#88) ^^^
        encipher key (ch ++ nonce ++ counter ++ id.extractLsb' 32 16))) := by
  have hmsg : wire 8 ch ++ wire 4 nonce ++ wire 2 counter ++ wire 6 id =
      wire 16 (ch ++ nonce ++ counter ++ id.extractLsb' 32 16) ++ wire 4 (id.setWidth 32) := by
    rw [wire_tagId, ← List.append_assoc, wire_append (n := 8) (m := 4), wire_append (n := 12) (m := 2),
      wire_append (n := 14) (m := 2)]
  have hlast : wire 4 (id.setWidth 32) ++ 0x80 :: List.replicate 11 0 = wire 16 (id.setWidth 32 ++ 0x80#8 ++ 0#88) := by
    rw [← wire_append (n := 5) (m := 11), ← wire_append (n := 4) (m := 1), List.append_assoc]
    rfl
  rw [response, hmsg, chained_two (by simp) (by simp)]
  simp only [List.length_append, wire_length, Nat.reduceAdd, Nat.reduceSub]
  rw [List.drop_left' (wire_length 16 _), List.take_left' (wire_length 16 _), hlast, blockOf_wire, blockOf_wire]

theorem TransitRecord.bytes_length (r : TransitRecord) : r.bytes.length = 24 := by
  simp [TransitRecord.bytes, fractionQuality]

theorem recordMac_blocks (key : Block) (r : TransitRecord) :
    recordMac key r =
      firstEight (encipher key (blockOf (r.bytes.drop 16 ++ [0x80, 0, 0, 0, 0, 0, 0, 0]) ^^^
        encipher key (blockOf (r.bytes.take 16)))) := by
  have hlen := r.bytes_length
  rw [recordMac, chained_two (by omega) (by omega), hlen]
  rfl

/-- Settles O35: one block by the definition, two blocks chained, and the inverse undone. -/
theorem operationBlocks : Obligations.OperationBlocks :=
  ⟨fun _ _ _ _ => rfl, fun _ _ _ _ _ => rfl, response_blocks, recordMac_blocks,
    fun k w => (Config.blockFunction k).apply_symm_apply w, fun _ => rfl⟩

end Sys2Proof.Machine
end

section
/-! Proofs for the key function unit: the arbiter's choice by class and lane, and its choices made one after another until a job
is in flight or no candidate is left (R112, R114 to R119). -/

namespace Sys2Proof.Machine

/-! ### The order of the lanes (R117) -/

/-- The place of a lane in the order in which a choice looks at the lanes. -/
def laneRank (mode : ArbMode) (pointer l : LaneNo) : Nat :=
  match mode with
  | .rotating => (l.val + 4 - pointer.val) % 4
  | .fixedUp => l.val
  | .fixedDown => 3 - l.val

theorem mem_laneOrder (mode : ArbMode) (pointer l : LaneNo) : l ∈ laneOrder mode pointer := by
  cases mode <;> revert pointer l <;> decide

/-- A choice looks at the lanes in rising rank. -/
theorem laneOrder_rank_lt (mode : ArbMode) (pointer : LaneNo) :
    (laneOrder mode pointer).Pairwise fun a b => laneRank mode pointer a < laneRank mode pointer b := by
  cases mode <;> revert pointer <;> decide

/-- In an order of rising rank the lane selected is the candidate of least rank. -/
theorem selectLane_of_least {rank : LaneNo → Nat} {order : List LaneNo} (hord : order.Pairwise fun a b => rank a < rank b)
    {cand : LaneNo → Option Entry} {l : LaneNo} {e : Entry} (hmem : l ∈ order) (hl : cand l = some e)
    (hleast : ∀ k, (cand k).isSome = true → rank l ≤ rank k) : selectLane order cand = some (l, e) := by
  induction order with
  | nil => cases hmem
  | cons k ks ih =>
    obtain ⟨hk, hks⟩ := List.pairwise_cons.mp hord
    obtain rfl | hin := List.mem_cons.mp hmem
    · simp [selectLane, hl]
    · have hnone : cand k = none := by
        by_contra hsome
        exact absurd (hleast k (Option.isSome_iff_ne_none.mpr hsome)) (Nat.not_le.mpr (hk l hin))
      simpa [selectLane, hnone] using ih hks hin

/-- Without a candidate on any lane none is selected. -/
theorem selectLane_eq_none {cand : LaneNo → Option Entry} (h : ∀ l, cand l = none) (order : List LaneNo) :
    selectLane order cand = none := by
  simp [selectLane, h]

theorem selectLane_laneOrder {mode : ArbMode} {pointer l : LaneNo} {cand : LaneNo → Option Entry} {e : Entry}
    (hl : cand l = some e)
    (hleast : ∀ k, (cand k).isSome = true → laneRank mode pointer l ≤ laneRank mode pointer k) :
    selectLane (laneOrder mode pointer) cand = some (l, e) :=
  selectLane_of_least (laneOrder_rank_lt mode pointer) (mem_laneOrder mode pointer l) hl hleast

/-! ### The classes of the choice (R116) -/

section
variable {s : State}

theorem State.choose_step {l : LaneNo} {e : Entry}
    (h : selectLane (laneOrder s.config.items.mode s.kfu.stepPointer) s.stepCandidate = some (l, e)) :
    s.choose = some (.step l e) := by
  simp only [State.choose, h]

/-- Without a STEP candidate a LOAD that waits is weighed against the ADMIT candidates. -/
theorem State.choose_load (hstep : ∀ l, s.stepCandidate l = none) {req : LoadReq} {queued : Nat}
    (hload : s.station.load = some (req, queued)) :
    s.choose =
      if promotionTicks ≤ s.now - queued then some (.load req)
      else ((selectLane (laneOrder s.config.items.mode s.kfu.admitPointer) s.admitCandidate).map
        fun x => Choice.admitting x.1 x.2).or (some (.load req)) := by
  simp only [State.choose, selectLane_eq_none hstep, hload]

/-- With no LOAD that waits and no STEP candidate the ADMIT candidates decide. -/
theorem State.choose_admit (hstep : ∀ l, s.stepCandidate l = none) (hload : s.station.load = none) :
    s.choose = (selectLane (laneOrder s.config.items.mode s.kfu.admitPointer) s.admitCandidate).map
      fun x => Choice.admitting x.1 x.2 := by
  simp only [State.choose, selectLane_eq_none hstep, hload]

/-- A LOAD that is not promoted comes behind an ADMIT candidate. -/
theorem State.choose_admitting (hstep : ∀ l, s.stepCandidate l = none)
    (hfresh : ¬ ∃ req queued, s.station.load = some (req, queued) ∧ 256 ≤ s.clock.mono - queued) {l : LaneNo} {e : Entry}
    (h : selectLane (laneOrder s.config.items.mode s.kfu.admitPointer) s.admitCandidate = some (l, e)) :
    s.choose = some (.admitting l e) := by
  cases hload : s.station.load with
  | none => simp only [State.choose_admit hstep hload, h, Option.map_some]
  | some x =>
    have hwait : ¬ promotionTicks ≤ s.now - x.2 := fun hx => hfresh ⟨x.1, x.2, hload, hx⟩
    simp only [State.choose_load hstep hload, if_neg hwait, h, Option.map_some, Option.some_or]

/-- Without candidates of the other classes a LOAD need not be promoted. -/
theorem State.choose_load_alone (hstep : ∀ l, s.stepCandidate l = none) (hadmit : ∀ l, s.admitCandidate l = none)
    {req : LoadReq} {queued : Nat} (hload : s.station.load = some (req, queued)) : s.choose = some (.load req) := by
  rw [State.choose_load hstep hload, selectLane_eq_none hadmit]
  exact ite_self _

theorem State.choose_eq_none (hstep : ∀ l, s.stepCandidate l = none) (hadmit : ∀ l, s.admitCandidate l = none)
    (hload : s.station.load = none) : s.choose = none := by
  rw [State.choose_admit hstep hload, selectLane_eq_none hadmit]
  rfl

end

/-- Settles O36: a class of its own for each clause, the lane by its rank. -/
theorem arbiterChoosesByClassAndLane : Obligations.ArbiterChoosesByClassAndLane := by
  intro s
  exact ⟨fun l e hl hleast => State.choose_step (selectLane_laneOrder hl hleast),
    fun req queued hno hload hdue => (State.choose_load hno hload).trans (if_pos hdue),
    fun l e hno hfresh hl hleast => State.choose_admitting hno hfresh (selectLane_laneOrder hl hleast),
    fun req queued hno _ hadmit hload => State.choose_load_alone hno hadmit hload,
    fun hno hadmit hload => State.choose_eq_none hno hadmit hload⟩

/-! ### The waiting entries count down (R115, R119) -/

/-- Fewer elements are counted where a narrower test leaves one out. -/
theorem countP_lt_of_mem {α : Type} {p r : α → Bool} {q : List α} {e : α} (hsub : ∀ x, r x = true → p x = true)
    (he : e ∈ q) (hp : p e = true) (hr : r e = false) : q.countP r < q.countP p := by
  obtain ⟨front, rest, rfl⟩ := List.append_of_mem he
  have hfront := List.countP_mono_left (l := front) fun x _ => hsub x
  have hrest := List.countP_mono_left (l := rest) fun x _ => hsub x
  simp only [List.countP_append, List.countP_cons, hp, hr, Bool.false_eq_true, if_true, if_false]
  omega

section
variable {s : State} {l : LaneNo} {e : Entry}

/-- A lane with fewer waiting entries leaves fewer on the module. -/
theorem State.waitingCount_onLane_lt {f : Lane → Lane}
    (hf : (f s.lanes[l]).queue.countP (fun q => q.phase == .waiting) < s.lanes[l].queue.countP fun q => q.phase == .waiting) :
    (s.onLane l f).waitingCount < s.waitingCount := by
  have hself : ((s.onLane l f).lanes[l].queue.countP fun q => q.phase == .waiting) <
      s.lanes[l].queue.countP fun q => q.phase == .waiting := by
    rw [State.onLane_same]
    exact hf
  refine List.sum_lt_sum _ _ (fun k _ => ?_) ⟨l, List.mem_finRange l, hself⟩
  by_cases hk : k = l
  · subst hk
    exact hself.le
  · rw [State.onLane_other s l k f hk]

theorem State.SameQueues.waitingCount {t : State} (h : s.SameQueues t) : t.waitingCount = s.waitingCount := by
  unfold State.waitingCount
  simp only [(h _).1]

/-- An entry answered at its job's start waits no more (R15, R20). -/
theorem State.waitingCount_answerAtStart_lt (he : e ∈ s.lanes[l].queue) (hw : e.phase = .waiting) (c : Code) :
    (s.answerAtStart l e c).waitingCount < s.waitingCount := by
  rw [State.answerAtStart, State.answerWaiting_eq]
  refine State.waitingCount_onLane_lt ?_
  simp only [Lane.answerWaiting, List.countP_map]
  refine countP_lt_of_mem (fun q hq => ?_) he (by simp [hw]) (by simp [hw])
  by_contra hn
  simp only [beq_iff_eq] at hn
  simp [hn] at hq

/-- An entry that leaves the queue waits no more. -/
theorem State.waitingCount_discardEntry_lt (he : e ∈ s.lanes[l].queue) (hw : e.phase = .waiting) :
    (s.discardEntry l e).waitingCount < s.waitingCount := by
  refine State.waitingCount_onLane_lt ?_
  rw [List.countP_filter]
  exact countP_lt_of_mem (fun q hq => (Bool.and_eq_true _ _ ▸ hq).1) he (by simp [hw]) (by simp)

/-! ### What a choice brings about -/

/-- A job is in flight, or fewer entries wait. -/
def State.Proceeds (s t : State) : Prop := t.kfu.job.isSome = true ∨ t.waitingCount < s.waitingCount

theorem State.proceeds_startOpen (he : e ∈ s.lanes[l].queue) (hw : e.phase = .waiting) : s.Proceeds (s.startOpen l e) := by
  have hend (c : Code) (cause : EndCause) : s.Proceeds ((s.answerAtStart l e c).endContext l e.ctx cause) :=
    .inr ((State.sameQueues_endContext _ l e.ctx cause).waitingCount.trans_lt (State.waitingCount_answerAtStart_lt he hw c))
  unfold State.startOpen
  split
  · split
    · exact .inl rfl
    · exact hend _ _
    · exact hend _ _
  · exact .inr (State.waitingCount_discardEntry_lt he hw)

theorem State.proceeds_startProve (he : e ∈ s.lanes[l].queue) (hw : e.phase = .waiting) (r : Mac) :
    s.Proceeds (s.startProve l e r) := by
  unfold State.startProve
  split
  · exact .inl rfl
  · exact .inr (State.waitingCount_discardEntry_lt he hw)

theorem State.proceeds_startSeal (he : e ∈ s.lanes[l].queue) (hw : e.phase = .waiting) (cls : BitVec 4) (ref : BitVec 16) :
    s.Proceeds (s.startSeal l e cls ref) := by
  unfold State.startSeal
  split
  · split
    · exact .inr ((State.sameQueues_onCtx _ l e.ctx _).waitingCount.trans_lt (State.waitingCount_answerAtStart_lt he hw _))
    · dsimp only
      split <;> exact .inl rfl
  · exact .inr (State.waitingCount_discardEntry_lt he hw)

theorem State.proceeds_startEntry (he : e ∈ s.lanes[l].queue) (hw : e.phase = .waiting) : s.Proceeds (s.startEntry l e) := by
  unfold State.startEntry
  split
  · exact State.proceeds_startOpen he hw
  · exact State.proceeds_startProve he hw _
  · exact State.proceeds_startSeal he hw _ _

/-- Each choice puts a job in flight or ends a waiting entry (R119). -/
theorem State.proceeds_startChoice {ch : Choice} (h : s.choose = some ch) : s.Proceeds (s.startChoice ch) := by
  have hp := State.choose_present h
  cases ch with
  | step l e =>
    exact State.proceeds_startEntry
      (s := { s with kfu := { s.kfu with stepPointer := movedPointer s.config.items.mode s.kfu.stepPointer l } }) hp.1 hp.2
  | admitting l e =>
    exact State.proceeds_startEntry
      (s := { s with kfu := { s.kfu with admitPointer := movedPointer s.config.items.mode s.kfu.admitPointer l } }) hp.1 hp.2
  | load req => exact .inl rfl

/-! ### The choices one after another -/

theorem State.arbitrateFor_busy (h : s.kfu.job.isSome = true) (n : Nat) : s.arbitrateFor n = s := by
  cases n with
  | zero => rfl
  | succ n => exact if_pos h

theorem State.arbitrateFor_idle (hj : s.kfu.job = none) (hc : s.choose = none) (n : Nat) : s.arbitrateFor n = s := by
  cases n with
  | zero => rfl
  | succ n => simp [State.arbitrateFor, hj, hc]

theorem State.arbitrateFor_choice (hj : s.kfu.job = none) {ch : Choice} (hc : s.choose = some ch) (n : Nat) :
    s.arbitrateFor (n + 1) = (s.startChoice ch).arbitrateFor n := by
  simp [State.arbitrateFor, hj, hc]

end

/-- More choices than waiting entries make no difference: they stop by themselves. -/
theorem State.arbitrateFor_enough (n m : Nat) (s : State) (hn : s.waitingCount < n) (hm : s.waitingCount < m) :
    s.arbitrateFor n = s.arbitrateFor m := by
  induction n generalizing m s with
  | zero => exact absurd hn (Nat.not_lt_zero _)
  | succ n ih =>
    obtain _ | m := m
    · exact absurd hm (Nat.not_lt_zero _)
    cases hj : s.kfu.job with
    | some j =>
      have hbusy : s.kfu.job.isSome = true := by rw [hj]; rfl
      rw [State.arbitrateFor_busy hbusy, State.arbitrateFor_busy hbusy]
    | none =>
      cases hc : s.choose with
      | none => rw [State.arbitrateFor_idle hj hc, State.arbitrateFor_idle hj hc]
      | some ch =>
        rw [State.arbitrateFor_choice hj hc, State.arbitrateFor_choice hj hc]
        obtain hbusy | hless := State.proceeds_startChoice hc
        · rw [State.arbitrateFor_busy hbusy, State.arbitrateFor_busy hbusy]
        · exact ih m (s.startChoice ch) (by omega) (by omega)

/-- The arbiter's next choice follows one that ended without passes (R119). -/
theorem State.arbitrate_choice {s : State} (hj : s.kfu.job = none) {ch : Choice} (hc : s.choose = some ch) :
    s.arbitrate = (s.startChoice ch).arbitrate := by
  rw [State.arbitrate, State.arbitrateFor_choice hj hc]
  obtain hbusy | hless := State.proceeds_startChoice hc
  · rw [State.arbitrate, State.arbitrateFor_busy hbusy, State.arbitrateFor_busy hbusy]
  · exact State.arbitrateFor_enough _ _ _ hless (Nat.lt_succ_self _)

/-- As many choices as there can be end with a job in flight or without a candidate. -/
theorem State.arbitrateFor_stops (n : Nat) (s : State) (hn : s.waitingCount < n) :
    (s.arbitrateFor n).kfu.job.isSome = true ∨ (s.arbitrateFor n).choose = none := by
  induction n generalizing s with
  | zero => exact absurd hn (Nat.not_lt_zero _)
  | succ n ih =>
    cases hj : s.kfu.job with
    | some j =>
      rw [State.arbitrateFor_busy (by rw [hj]; rfl)]
      exact .inl (by rw [hj]; rfl)
    | none =>
      cases hc : s.choose with
      | none =>
        rw [State.arbitrateFor_idle hj hc]
        exact .inr hc
      | some ch =>
        rw [State.arbitrateFor_choice hj hc]
        obtain hbusy | hless := State.proceeds_startChoice hc
        · rw [State.arbitrateFor_busy hbusy]
          exact .inl hbusy
        · exact ih _ (by omega)

/-- Settles O37: the waiting entries bound the choices, since each puts a job in flight or ends one of them. -/
theorem arbiterChoosesUntilBusyOrIdle : Obligations.ArbiterChoosesUntilBusyOrIdle := fun s =>
  ⟨fun h => State.arbitrateFor_busy h _, fun hj hc => State.arbitrateFor_idle hj hc _,
    fun _ hj hc => State.arbitrate_choice hj hc, State.arbitrateFor_stops _ s (Nat.lt_succ_self _)⟩

end Sys2Proof.Machine
end

section
/-! Proofs for the key function unit: no command stops the module, and each leaves the device keys (R109) and the queue of waiting
commands. -/

namespace Sys2Proof.Machine

/-- The device keys (R109) and the queue of waiting commands are as before. An `abbrev`, so that `simp` takes a lemma of it for
the three equations it is. -/
@[simp] abbrev State.KeepsKeys (s t : State) : Prop :=
  t.kfu.transportKey = s.kfu.transportKey ∧ t.kfu.challengeKey = s.kfu.challengeKey ∧ t.pending = s.pending

theorem State.KeepsKeys.trans {s t u : State} (h : s.KeepsKeys t) (h' : t.KeepsKeys u) : s.KeepsKeys u := by
  obtain ⟨htransport, hchallenge, hpending⟩ := h
  obtain ⟨htransport', hchallenge', hpending'⟩ := h'
  exact ⟨htransport'.trans htransport, hchallenge'.trans hchallenge, hpending'.trans hpending⟩

/-- A fold leaves what each of its steps leaves. -/
theorem State.KeepsKeys.foldl {α : Type} {f : State → α → State} (step : ∀ (s : State) (a : α), s.KeepsKeys (f s a))
    (as : List α) (s : State) : s.KeepsKeys (as.foldl f s) :=
  foldl_keeps (P := s.KeepsKeys) (fun t a ht => ht.trans (step t a)) as s ⟨rfl, rfl, rfl⟩

theorem State.KeepsKeys.ite {c : Prop} [Decidable c] {s t u : State} (ht : s.KeepsKeys t) (hu : s.KeepsKeys u) :
    s.KeepsKeys (if c then t else u) := by
  split
  · exact ht
  · exact hu

variable (s : State)

/-! ### The unit and the arbiter (R15, R20, R111, R112, R115, R119) -/

@[simp] theorem State.keepsKeys_startOpen (l : LaneNo) (e : Entry) : s.KeepsKeys (s.startOpen l e) := by
  unfold State.startOpen State.answerAtStart
  split
  · split <;> simp
  · simp

@[simp] theorem State.keepsKeys_startProve (l : LaneNo) (e : Entry) (r : Mac) : s.KeepsKeys (s.startProve l e r) := by
  unfold State.startProve
  split <;> simp

@[simp] theorem State.keepsKeys_startSeal (l : LaneNo) (e : Entry) (cls : BitVec 4) (ref : BitVec 16) :
    s.KeepsKeys (s.startSeal l e cls ref) := by
  unfold State.startSeal State.answerAtStart
  split
  · split
    · simp
    · exact .ite (by simp) (by simp)
  · simp

@[simp] theorem State.keepsKeys_startEntry (l : LaneNo) (e : Entry) : s.KeepsKeys (s.startEntry l e) := by
  unfold State.startEntry
  split <;> simp

@[simp] theorem State.keepsKeys_startChoice (ch : Choice) : s.KeepsKeys (s.startChoice ch) := by
  cases ch <;> simp [State.startChoice]

@[simp] theorem State.keepsKeys_arbitrate : s.KeepsKeys s.arbitrate := by
  unfold State.arbitrate
  generalize s.waitingCount + 1 = n
  induction n generalizing s with
  | zero => exact ⟨rfl, rfl, rfl⟩
  | succ n ih =>
    unfold State.arbitrateFor
    split
    · exact ⟨rfl, rfl, rfl⟩
    · split
      · exact ⟨rfl, rfl, rfl⟩
      · exact (s.keepsKeys_startChoice _).trans (ih _)

@[simp] theorem State.keepsKeys_advanceSequence : s.KeepsKeys s.advanceSequence := by
  unfold State.advanceSequence
  split
  · simp
  · split <;> simp

/-! ### The completions (R15, R17, R21) -/

@[simp] theorem State.keepsKeys_classify (l : LaneNo) (c : CtxNo) (id : TagId) (k : Counter) (strict : Bool) :
    s.KeepsKeys (s.classify l c id k strict).1 := by
  rw [State.classify_frame]
  exact ⟨rfl, rfl, rfl⟩

@[simp] theorem State.keepsKeys_applyOpen (l : LaneNo) (c : CtxNo) (key : Block) (ch : Mac) :
    s.KeepsKeys (s.applyOpen l c key ch) := by
  unfold State.applyOpen
  split <;> simp

@[simp] theorem State.keepsKeys_applyMatch (l : LaneNo) (c : CtxNo) (o : Occupancy) (p : TagProof) :
    s.KeepsKeys (s.applyMatch l c o p) := by
  unfold State.applyMatch
  dsimp only
  split <;> simp

@[simp] theorem State.keepsKeys_applyProve (l : LaneNo) (c : CtxNo) (same : Bool) : s.KeepsKeys (s.applyProve l c same) := by
  unfold State.applyProve
  split
  · cases same <;> simp
  · simp

@[simp] theorem State.keepsKeys_applySeal (l : LaneNo) (c : CtxNo) (n : SlotNo) (key : Block) (g : Gen) (holdover : Bool)
    (cls : BitVec 4) (ref : BitVec 16) : s.KeepsKeys (s.applySeal l c n key g holdover cls ref) := by
  unfold State.applySeal
  split <;> simp

/-! ### The lane requests (R11 to R14, R16, R19, R22, R27) -/

@[simp] theorem State.keepsKeys_laneReply (l : LaneNo) (kind tag : Byte) (r : Reply) :
    s.KeepsKeys (s.laneReply l kind tag r) := by
  simp [State.laneReply]

@[simp] theorem State.keepsKeys_stationReply (kind tag : Byte) (r : Reply) : s.KeepsKeys (s.stationReply kind tag r) := by
  simp [State.stationReply]

@[simp] theorem State.keepsKeys_removeAndEnd (l : LaneNo) (c : CtxNo) (p : PendingEnd) (code : Code) :
    s.KeepsKeys (s.removeAndEnd l c p code) := by
  simp [State.removeAndEnd]

@[simp] theorem State.keepsKeys_openRequest (l : LaneNo) (tag : Byte) (body : List Byte) :
    s.KeepsKeys (s.openRequest l tag body) := by
  unfold State.openRequest
  dsimp only
  split
  · simp
  split
  · simp
  split
  · simp
  split
  · simp
  split
  · simp
  · simp [State.takeOpen]

@[simp] theorem State.keepsKeys_proveRequest (l : LaneNo) (tag : Byte) (body : List Byte) :
    s.KeepsKeys (s.proveRequest l tag body) := by
  unfold State.proveRequest
  dsimp only
  split
  · simp
  split
  · simp
  split
  · simp
  split
  · simp
  split <;> simp

@[simp] theorem State.keepsKeys_sealRequest (l : LaneNo) (tag : Byte) (body : List Byte) :
    s.KeepsKeys (s.sealRequest l tag body) := by
  unfold State.sealRequest
  dsimp only
  split
  · simp
  split
  · simp
  split
  · simp
  split
  · simp
  split <;> simp

@[simp] theorem State.keepsKeys_dropRequest (l : LaneNo) (tag : Byte) (body : List Byte) :
    s.KeepsKeys (s.dropRequest l tag body) := by
  unfold State.dropRequest
  dsimp only
  split
  · simp
  split
  · simp
  split <;> simp

@[simp] theorem State.keepsKeys_pollRequest (l : LaneNo) (tag : Byte) (body : List Byte) :
    s.KeepsKeys (s.pollRequest l tag body) := by
  unfold State.pollRequest
  dsimp only
  split
  · simp
  split <;> simp

/-! ### The station requests (R154 to R156) -/

@[simp] theorem State.keepsKeys_statusRequest (tag : Byte) (body : List Byte) : s.KeepsKeys (s.statusRequest tag body) := by
  unfold State.statusRequest
  split <;> simp

@[simp] theorem State.keepsKeys_applyTimeout (l : LaneNo) (t : BitVec 16) : s.KeepsKeys (s.applyTimeout l t) := by
  unfold State.applyTimeout
  exact .ite (.ite (by simp) (by simp)) (by simp)

@[simp] theorem State.keepsKeys_applyEnabled (l : LaneNo) (before after : Bool) :
    s.KeepsKeys (s.applyEnabled l before after) := by
  unfold State.applyEnabled
  exact .ite (by simp) (.ite (by simp) (by simp))

@[simp] theorem State.keepsKeys_withdraw (n : SlotNo) (d : KeyData) : s.KeepsKeys (s.withdraw n d) := by
  unfold State.withdraw
  dsimp only
  split <;> simp

@[simp] theorem State.keepsKeys_runLoadKey (body : List Byte) : s.KeepsKeys (s.runLoadKey body).1 := by
  unfold State.runLoadKey answers
  split
  · simp
  split
  · simp
  split <;> simp

@[simp] theorem State.keepsKeys_runWithdrawKey (body : List Byte) : s.KeepsKeys (s.runWithdrawKey body).1 := by
  unfold State.runWithdrawKey answers
  split
  · simp
  split
  · simp
  split <;> simp

/-- What an EXECUTING request does leaves the keys (R156). -/
theorem State.keepsKeys_execute (e : StationEntry) : s.KeepsKeys (s.execute e).1 := by
  unfold State.execute
  cases e.kind <;> dsimp only
  case loadKey => exact s.keepsKeys_runLoadKey e.body
  case withdrawKey => exact s.keepsKeys_runWithdrawKey e.body
  case setConfig =>
    unfold State.runSetConfig answers
    split
    · simp
    · exact .ite (by simp) (by simp)
  case reseed | listSlot | setRoute | clearRoute =>
    simp only [State.runReseed, State.runListSlot, State.runSetRoute, State.runClearRoute, answers]
    split
    · simp
    · split <;> simp
  case setLane | saveConfig | reset | queryPassage | setTime | setTrim | readTime =>
    simp only [State.runSetLane, State.runSaveConfig, State.runReset, State.runQueryPassage, State.runSetTime,
      State.runSetTrim, State.runReadTime, answers]
    split <;> simp

@[simp] theorem State.keepsKeys_answerExecuting (r : Reply) : s.KeepsKeys (s.answerExecuting r) := by
  unfold State.answerExecuting
  split <;> simp

theorem State.keepsKeys_runStationFor (n : Nat) : s.KeepsKeys (s.runStationFor n) := by
  induction n generalizing s with
  | zero => exact ⟨rfl, rfl, rfl⟩
  | succ n ih =>
    unfold State.runStationFor
    split
    · exact ⟨rfl, rfl, rfl⟩
    · next e rest _ =>
      have hexec : s.KeepsKeys ((s.withQueue ({ e with executing := true } :: rest)).execute e).1 :=
        .trans (by simp) (State.keepsKeys_execute _ e)
      dsimp only
      split
      · exact (hexec.trans (State.keepsKeys_answerExecuting _ _)).trans (ih _)
      · exact hexec

@[simp] theorem State.keepsKeys_runStation : s.KeepsKeys s.runStation := s.keepsKeys_runStationFor _

@[simp] theorem State.keepsKeys_finishExecuting (r : Reply) : s.KeepsKeys (s.finishExecuting r) := by
  simp [State.finishExecuting]

@[simp] theorem State.keepsKeys_stationRequest (k : StationKind) (tag : Byte) (body : List Byte) :
    s.KeepsKeys (s.stationRequest k tag body) := by
  unfold State.stationRequest
  exact .ite (by simp) (.ite (by simp) (.ite (by simp) (by simp)))

/-! ### The ports (R184, R186, R187) -/

theorem State.keepsKeys_handLane (l : LaneNo) (f : Frame) : s.KeepsKeys (s.handLane l f) := by
  unfold State.handLane
  refine .ite (by simp) ?_
  split <;> simp

theorem State.keepsKeys_handStation (f : Frame) : s.KeepsKeys (s.handStation f) := by
  unfold State.handStation
  refine .ite (by simp) (.ite (by simp) ?_)
  split <;> simp

theorem State.keepsKeys_laneFrame (l : LaneNo) {deal : State → State} (hd : ∀ t : State, t.KeepsKeys (deal t)) :
    s.KeepsKeys (s.laneFrame l deal) :=
  .ite (by simp) (.trans (by simp) (hd _))

theorem State.keepsKeys_stationFrame {deal : State → State} (hd : ∀ t : State, t.KeepsKeys (deal t)) :
    s.KeepsKeys (s.stationFrame deal) :=
  .ite (by simp) (.trans (by simp) (hd _))

theorem State.keepsKeys_portFrame (p : Port) (f : Frame) : s.KeepsKeys (s.portFrame p f) := by
  cases p with
  | lane l => exact s.keepsKeys_laneFrame l fun t => t.keepsKeys_handLane l f
  | station => exact s.keepsKeys_stationFrame fun t => t.keepsKeys_handStation f

theorem State.keepsKeys_receive (p : Port) (c : LineChar) : s.KeepsKeys (s.receive p c) := by
  unfold State.receive
  dsimp only
  split
  · simp
  · simp
  · exact .trans (by simp) (State.keepsKeys_portFrame _ p _)

theorem State.keepsKeys_receiveAll (p : Port) (cs : List LineChar) : s.KeepsKeys (s.receiveAll p cs) :=
  State.KeepsKeys.foldl (fun t c => t.keepsKeys_receive p c) cs s

@[simp] theorem State.keepsKeys_answerSent (p : Port) (a : Answer) : s.KeepsKeys (s.answerSent p a) := by
  cases p <;> simp [State.answerSent]

@[simp] theorem State.keepsKeys_warmReset : s.KeepsKeys s.warmReset := ⟨rfl, rfl, rfl⟩

/-! ### The ends of store actions (R70, R71, R86, R113, R166, R168, R175) -/

@[simp] theorem State.keepsKeys_slotWriteEnds (n : SlotNo) (ok : Bool) : s.KeepsKeys (s.slotWriteEnds n ok) := by
  unfold State.slotWriteEnds State.firstWriteDone State.firstWriteFailed
  split
  · exact .ite (by simp) (by simp)
  · simp

@[simp] theorem State.keepsKeys_slotEraseEnds (n : SlotNo) (ok : Bool) : s.KeepsKeys (s.slotEraseEnds n ok) := by
  unfold State.slotEraseEnds
  split
  · exact .ite (by simp) (by simp)
  · simp

@[simp] theorem State.keepsKeys_imageWriteEnds (ok : Bool) : s.KeepsKeys (s.imageWriteEnds ok) :=
  .ite (by simp) (by simp)

theorem State.keepsKeys_startBootEnds (ok : Bool) : s.KeepsKeys (s.startBootEnds ok) := .ite (by simp) (by simp)

theorem State.keepsKeys_exhaustionBootEnds (ok : Bool) : s.KeepsKeys (s.exhaustionBootEnds ok) := .ite (by simp) (by simp)

theorem State.keepsKeys_reseedBootEnds (b : BitVec 32) (ok : Bool) : s.KeepsKeys (s.reseedBootEnds b ok) :=
  .ite (.ite (by simp) (by simp)) (by simp)

@[simp] theorem State.keepsKeys_bootWriteEnds (b : BitVec 32) (ok : Bool) : s.KeepsKeys (s.bootWriteEnds b ok) := by
  unfold State.bootWriteEnds
  dsimp only
  have hknown : s.KeepsKeys (if ok then { s with station := { s.station with knownBoot := some b } } else s) :=
    .ite ⟨rfl, rfl, rfl⟩ ⟨rfl, rfl, rfl⟩
  generalize (if ok then { s with station := { s.station with knownBoot := some b } } else s : State) = t at hknown ⊢
  cases s.service with
  | starting => exact hknown.trans (t.keepsKeys_startBootEnds ok)
  | serving => exact hknown.trans (t.keepsKeys_exhaustionBootEnds ok)
  | seedWait => exact hknown.trans (t.keepsKeys_reseedBootEnds b ok)

@[simp] theorem State.keepsKeys_actionEnds (a : StoreAct) (ok : Bool) : s.KeepsKeys (s.actionEnds a ok) := by
  unfold State.actionEnds
  refine .ite (by simp) ?_
  cases a <;> simp

/-! ### The starts (R151, R177 to R181) -/

@[simp] theorem State.keepsKeys_mainLost : s.KeepsKeys s.mainLost := ⟨rfl, rfl, rfl⟩

@[simp] theorem State.keepsKeys_powerOn (low : Bool) : s.KeepsKeys (s.powerOn low) :=
  .ite (by simp) (by simp)

@[simp] theorem State.keepsKeys_loadConfig : s.KeepsKeys s.loadConfig := .ite (by simp) (by simp)

theorem State.keepsKeys_loadSlotRecord (n : SlotNo) : s.KeepsKeys (s.loadSlotRecord n) := by
  unfold State.loadSlotRecord
  dsimp only
  have hlatch : s.KeepsKeys (if s.store.slots[n] == .failing then s.latch .slotLost else s) := .ite (by simp) (by simp)
  exact .ite (hlatch.trans (by simp)) hlatch

theorem State.keepsKeys_loadSlotRecords (ns : List SlotNo) : s.KeepsKeys (ns.foldl (fun s n => s.loadSlotRecord n) s) :=
  State.KeepsKeys.foldl State.keepsKeys_loadSlotRecord ns s

@[simp] theorem State.keepsKeys_loadSlots : s.KeepsKeys s.loadSlots := by
  have hslots : s.KeepsKeys { s with slots := Vector.ofFn fun n : SlotNo => slotFrom s.store.slots[n] } := ⟨rfl, rfl, rfl⟩
  unfold State.loadSlots
  refine hslots.trans ?_
  generalize ({ s with slots := Vector.ofFn fun n : SlotNo => slotFrom s.store.slots[n] } : State) = t
  exact t.keepsKeys_loadSlotRecords (List.finRange 24)

@[simp] theorem State.keepsKeys_startSlots : s.KeepsKeys s.startSlots := by
  simp [State.startSlots]

@[simp] theorem State.keepsKeys_loadBoot : s.KeepsKeys s.loadBoot := by
  unfold State.loadBoot
  split
  · exact .ite (by simp) (by simp)
  · simp

/-! ### Every command -/

/-- The module goes on, and the device keys and the queue of waiting commands are as before. -/
def State.GoesOn (o : Host.Outcome State Fault Refusal) : Prop := ∃ t, o = .next t ∧ s.KeepsKeys t

theorem State.GoesOn.next {s t : State} (h : s.KeepsKeys t) : s.GoesOn (.next t) := ⟨t, rfl, h⟩

/-- The alert outputs are driven at the end. -/
theorem State.GoesOn.driven {s t : State} (h : s.KeepsKeys t) : s.GoesOn (.next t.driveAlerts) := .next (h.trans (by simp))

theorem State.GoesOn.same (s : State) : s.GoesOn (.next s) := .next ⟨rfl, rfl, rfl⟩

theorem State.GoesOn.ite {c : Prop} [Decidable c] {s : State} {a b : Host.Outcome State Fault Refusal} (ha : s.GoesOn a)
    (hb : s.GoesOn b) : s.GoesOn (if c then a else b) := by
  split
  · exact ha
  · exact hb

theorem State.GoesOn.powered {s : State} {f : State → State} (hf : s.KeepsKeys (f s)) : s.GoesOn (s.powered f) :=
  .ite (.driven hf) (.same s)

/-- No command stops the module, and none touches the device keys (R109) or the queue of waiting commands. -/
theorem State.exec_goesOn (i : Instr) : s.GoesOn (exec i s) := by
  have lane (l : LaneNo) (deal : State → State) (hd : ∀ t : State, t.KeepsKeys (deal t)) :
      s.GoesOn (s.powered fun s => s.laneFrame l deal) := .powered (f := fun s => s.laneFrame l deal) (s.keepsKeys_laneFrame l hd)
  have station (k : StationKind) (tag : Byte) (body : List Byte) :
      s.GoesOn (s.powered fun s => s.stationFrame fun t => t.stationRequest k tag body) :=
    .powered (f := fun s => s.stationFrame fun t => t.stationRequest k tag body)
      (s.keepsKeys_stationFrame fun t => t.keepsKeys_stationRequest k tag body)
  cases i
  case openReq l tag body => exact lane l (fun t => t.openRequest l tag body) fun t => t.keepsKeys_openRequest l tag body
  case proveReq l tag body => exact lane l (fun t => t.proveRequest l tag body) fun t => t.keepsKeys_proveRequest l tag body
  case sealReq l tag body => exact lane l (fun t => t.sealRequest l tag body) fun t => t.keepsKeys_sealRequest l tag body
  case dropReq l tag body => exact lane l (fun t => t.dropRequest l tag body) fun t => t.keepsKeys_dropRequest l tag body
  case pollReq l tag body => exact lane l (fun t => t.pollRequest l tag body) fun t => t.keepsKeys_pollRequest l tag body
  case statusReq tag body =>
    exact .powered (f := fun s => s.stationFrame fun t => t.statusRequest tag body)
      (s.keepsKeys_stationFrame fun t => t.keepsKeys_statusRequest tag body)
  case setLane tag body => exact station .setLane tag body
  case setConfig tag body => exact station .setConfig tag body
  case saveConfig tag body => exact station .saveConfig tag body
  case reseed tag body => exact station .reseed tag body
  case resetReq tag body => exact station .reset tag body
  case loadKey tag body => exact station .loadKey tag body
  case withdrawKey tag body => exact station .withdrawKey tag body
  case listSlot tag body => exact station .listSlot tag body
  case setRoute tag body => exact station .setRoute tag body
  case clearRoute tag body => exact station .clearRoute tag body
  case queryPassage tag body => exact station .queryPassage tag body
  case setTime tag body => exact station .setTime tag body
  case setTrim tag body => exact station .setTrim tag body
  case readTime tag body => exact station .readTime tag body
  case malformedFrame p kind tag length body => exact .powered (f := fun s => s.portFrame p _) (s.keepsKeys_portFrame p _)
  case frameDiscarded p cs => exact .powered (f := fun s => s.receiveAll p cs) (s.keepsKeys_receiveAll p cs)
  case abortSequence p => exact .powered (f := fun s => s.onPort p fun ps => { ps with rx := Rx.opened }) (by simp)
  case openCompletion =>
    simp only [exec, execOpenCompletion]
    split
    · exact .driven (.trans (.ite (by simp) (by simp)) (State.keepsKeys_arbitrate _))
    · exact .same s
  case proveCompletion =>
    simp only [exec, execProveCompletion]
    split
    · exact .next (by simp)
    · exact .same s
  case sealCompletion =>
    simp only [exec, execSealCompletion]
    split
    · exact .next (by simp)
    · exact .same s
  case loadCompletion =>
    simp only [exec, execLoadCompletion]
    split
    · exact .driven (.trans (.ite (by simp [State.fillSlot]) (by simp)) (State.keepsKeys_arbitrate _))
    · exact .same s
  case fractionTick => exact .ite (.next ⟨rfl, rfl, rfl⟩) (.same s)
  case secondEvent => exact .ite (.same s) (.ite (.next (by simp)) (.next ⟨rfl, rfl, rfl⟩))
  case periodStart => exact .next ⟨rfl, rfl, rfl⟩
  case contextExpiry l c => exact .ite (.next (by simp)) (.same s)
  case entryExpiry id =>
    simp only [exec, execEntryExpiry]
    split
    · split
      · exact .ite (.next ⟨rfl, rfl, rfl⟩) (.same s)
      · exact .same s
    · exact .same s
  case linkExpiry l => exact .ite (.next (by simp)) (.same s)
  case oscillatorStop => exact .ite (.next (by simp)) (.same s)
  case oscillatorRestart => exact .ite (.same s) (.next ⟨rfl, rfl, rfl⟩)
  case backupLowChange low => exact .ite (.next ⟨rfl, rfl, rfl⟩) (.same s)
  case mainPowerFail p => exact .ite (.next (by simp)) (.same s)
  case powerOn low => exact .ite (.same s) (.next (by simp))
  case startUp => exact .ite (.next (by simp)) (.same s)
  case storeActionComplete =>
    simp only [exec, execStoreActionComplete]
    split
    · exact .same s
    · exact .next (by simp)
  case storeVerifyRetry => exact .ite (.next ⟨rfl, rfl, rfl⟩) (.same s)
  case storeActionFailed left =>
    simp only [exec, execStoreActionFailed]
    split
    · exact .next (by simp)
    · exact .same s
  case answerTransmitted p =>
    simp only [exec, execAnswerTransmitted]
    split
    · exact .same s
    · exact .driven (.ite (by simp) (by simp))
  case oscillatorStopWhileOff lost => exact .ite (.next ⟨rfl, rfl, rfl⟩) (.same s)

/-- Settles O2: every command goes on and keeps the keys, taken command by command. -/
theorem commandsGoOnAndKeepKeys : Obligations.CommandsGoOnAndKeepKeys := fun c s => s.exec_goesOn c

end Sys2Proof.Machine
end

section
/-! Proofs for the time base (Chapter 7): the corrections of a period, the pulses of one fraction tick, and the tick itself. -/

namespace Sys2Proof.Machine

/-! ### Corrections (R141) -/

theorem isCorrection_iff {trim : BitVec 8} {pulse : Nat} :
    isCorrection trim pulse = true ↔
      ∃ k < correctionCount trim, (2 * k + 1) * 1048576 / correctionCount trim = pulse := by
  simp [isCorrection]

theorem correctionCount_le (trim : BitVec 8) : correctionCount trim ≤ 128 := by
  have hlow := trim.le_toInt
  have hhigh := trim.toInt_lt
  unfold correctionCount
  omega

/-- Two corrections of a period lie 16,384 pulses apart at least, the distance at 128 corrections, the most a trim asks for. -/
theorem corrections_apart {c k m : Nat} (hc : c ≤ 128) (hpos : 0 < c) (hkm : k < m) :
    (2 * k + 1) * 1048576 / c + 16384 ≤ (2 * m + 1) * 1048576 / c := by
  rw [← Nat.add_mul_div_right _ _ hpos]
  exact Nat.div_le_div_right (by omega)

/-- No correction lies within 8,192 pulses of either end of the period. -/
theorem correction_bounds {c k : Nat} (hc : c ≤ 128) (hk : k < c) :
    8192 ≤ (2 * k + 1) * 1048576 / c ∧ (2 * k + 1) * 1048576 / c + 8192 ≤ 2097152 := by
  have hpos : 0 < c := by omega
  constructor
  · rw [Nat.le_div_iff_mul_le hpos]
    omega
  · rw [← Nat.add_mul_div_right _ _ hpos]
    exact Nat.div_le_of_le_mul (by omega)

/-- No tick's pulses hold more than one correction (R141), also where the period begins anew among them. -/
theorem isCorrection_unique_in_tick {trim : BitVec 8} {period i j : Nat} (hi : i < tickPulses) (hj : j < tickPulses)
    (hci : isCorrection trim ((period + i) % 2097152) = true) (hcj : isCorrection trim ((period + j) % 2097152) = true) :
    i = j := by
  obtain ⟨k, hk, hik⟩ := isCorrection_iff.mp hci
  obtain ⟨m, hm, hjm⟩ := isCorrection_iff.mp hcj
  have hc := correctionCount_le trim
  have hkb := correction_bounds hc hk
  have hmb := correction_bounds hc hm
  unfold tickPulses at hi hj
  rcases Nat.lt_trichotomy k m with hkm | rfl | hmk
  · have := corrections_apart hc (by omega) hkm
    omega
  · omega
  · have := corrections_apart hc (by omega) hmk
    omega

theorem isCorrection_of_weight_zero {trim : BitVec 8} {pulse : Nat} (h : pulseWeight trim pulse = 0) :
    isCorrection trim pulse = true := by
  unfold pulseWeight at h
  split at h
  · assumption
  · cases h

/-- The weight of a pulse by the sign of the trim. -/
theorem pulseWeight_eq (trim : BitVec 8) (pulse : Nat) :
    pulseWeight trim pulse = if isCorrection trim pulse then (if trim.toInt < 0 then 0 else 2) else 1 := by
  simp [pulseWeight, BitVec.msb_eq_toInt]

/-! ### The pulses of one tick (R138, R141) -/

/-- Summands of which at most one is zero add up to their number less one at least. -/
theorem le_sum_range_add_one {w : Nat → Nat} (n : Nat)
    (h : ∀ i j, i < n → j < n → w i = 0 → w j = 0 → i = j) : n ≤ ((List.range n).map w).sum + 1 := by
  induction n with
  | zero => omega
  | succ n ih =>
    rw [List.sum_range_succ]
    by_cases hn : w n = 0
    · have hones : ∀ x ∈ (List.range n).map w, 1 ≤ x := by
        intro x hx
        obtain ⟨i, hi, rfl⟩ := List.mem_map.mp hx
        rw [List.mem_range] at hi
        refine Nat.one_le_iff_ne_zero.mpr fun hzero => ?_
        have := h i n (by omega) (by omega) hzero hn
        omega
      have := List.length_le_sum_of_one_le _ hones
      rw [List.length_map, List.length_range] at this
      omega
    · have := ih fun i j hi hj => h i j (by omega) (by omega)
      omega

/-- The pulse position after `n` pulses with none passing from 31 to 0 (R138): each is counted as often as the trim in use says. -/
def Clock.counted (k : Clock) (n : Nat) : Nat :=
  k.pulse.toNat + ((List.range n).map fun i => pulseWeight k.trimInUse ((k.period.toNat + i) % 2097152)).sum

@[simp] theorem Clock.counted_zero (k : Clock) : k.counted 0 = k.pulse.toNat := rfl

/-- The pulses of a tick are enough to pass from 31 to 0. -/
theorem Clock.le_counted_tickPulses (k : Clock) : 32 ≤ k.counted tickPulses := by
  have := le_sum_range_add_one (w := fun i => pulseWeight k.trimInUse ((k.period.toNat + i) % 2097152)) tickPulses
    fun i j hi hj hwi hwj =>
      isCorrection_unique_in_tick hi hj (isCorrection_of_weight_zero hwi) (isCorrection_of_weight_zero hwj)
  unfold Clock.counted
  unfold tickPulses at this ⊢
  omega

/-- The number of the pulse at which the position passes from 31 to 0. -/
theorem Clock.exists_passing (k : Clock) :
    ∃ n, 1 ≤ n ∧ n ≤ tickPulses ∧ (∀ j, j < n → k.counted j < 32) ∧ 32 ≤ k.counted n := by
  have hpass : ∃ n, 32 ≤ k.counted n := ⟨_, k.le_counted_tickPulses⟩
  refine ⟨Nat.find hpass, ?_, Nat.find_min' hpass k.le_counted_tickPulses,
    fun j hj => Nat.lt_of_not_le (Nat.find_min hpass hj), Nat.find_spec hpass⟩
  refine (Nat.find_pos hpass).mpr ?_
  have := k.pulse.isLt
  rw [Clock.counted_zero]
  omega

/-- A pulse takes the period position past its end from 2,097,151 alone (R141). -/
theorem period_passes (period : BitVec 21) :
    (period == BitVec.allOnes 21) = decide (2097152 ≤ period.toNat + 1) := by
  have hlast : period = BitVec.allOnes 21 ↔ period.toNat = 2097151 := BitVec.toNat_inj.symm
  have := period.isLt
  rw [Bool.eq_iff_iff, beq_iff_eq, decide_eq_true_iff, hlast]
  omega

/-- One pulse, after which the position is `p` modulo 32. -/
def Clock.pulseTo (k : Clock) (p : Nat) : Clock := { k.countPeriod with pulse := BitVec.ofNat 5 p }

/-- The period position passes its end at this pulse, or at one of the `n` that follow it. -/
theorem Clock.passes_pulseTo (k : Clock) (p n : Nat) :
    ((k.pulseTo p).periodStarted || decide (2097152 ≤ (k.pulseTo p).period.toNat + n)) =
      (k.periodStarted || decide (2097152 ≤ k.period.toNat + (n + 1))) := by
  have hnext : (k.pulseTo p).period.toNat = (k.period.toNat + 1) % 2097152 := BitVec.toNat_add _ _
  have hstarted : (k.pulseTo p).periodStarted = (k.periodStarted || k.period == BitVec.allOnes 21) := rfl
  have := k.period.isLt
  rw [hstarted, hnext, period_passes, Bool.or_assoc, ← Bool.decide_or]
  refine congrArg _ (decide_eq_decide.mpr ?_)
  omega

theorem Clock.period_pulseTo (k : Clock) (p n : Nat) :
    (k.pulseTo p).period + BitVec.ofNat 21 n = k.period + BitVec.ofNat 21 (n + 1) := by
  show k.period + 1 + BitVec.ofNat 21 n = _
  rw [BitVec.add_assoc, BitVec.add_comm 1]
  exact congrArg _ (BitVec.ofNat_add ..).symm

theorem Clock.countPulses_succ (k : Clock) (fuel : Nat) :
    k.countPulses (fuel + 1) =
      if 32 ≤ k.counted 1 then k.pulseTo (k.counted 1) else (k.pulseTo (k.counted 1)).countPulses fuel := by
  have hone : k.counted 1 = k.pulse.toNat + pulseWeight k.trimInUse k.period.toNat := by
    have := k.period.isLt
    simp [Clock.counted, Nat.mod_eq_of_lt this]
  rw [hone]
  rfl

/-- The first of `n + 1` pulses apart from those that follow it. -/
theorem Clock.counted_succ (k : Clock) (n : Nat) :
    k.counted (n + 1) =
      k.counted 1 + ((List.range n).map fun i => pulseWeight k.trimInUse ((k.period.toNat + (i + 1)) % 2097152)).sum := by
  simp only [Clock.counted, List.sum_range_succ' _ n, List.range_one, List.map_singleton, List.sum_singleton,
    Nat.succ_eq_add_one]
  omega

/-- The count goes on from the position one pulse further. -/
theorem Clock.counted_pulseTo {k : Clock} (h : k.counted 1 < 32) (n : Nat) :
    (k.pulseTo (k.counted 1)).counted n = k.counted (n + 1) := by
  have hpulse : (k.pulseTo (k.counted 1)).pulse.toNat = k.counted 1 := Nat.mod_eq_of_lt h
  have hnext : (k.pulseTo (k.counted 1)).period.toNat = (k.period.toNat + 1) % 2097152 := BitVec.toNat_add _ _
  have hperiod (i : Nat) : ((k.period.toNat + 1) % 2097152 + i) % 2097152 = (k.period.toNat + (i + 1)) % 2097152 := by
    omega
  have htrim : (k.pulseTo (k.counted 1)).trimInUse = k.trimInUse := rfl
  rw [Clock.counted_succ k n, Clock.counted, hpulse, htrim, hnext]
  simp only [hperiod]

/-- The clock after `n + 1` pulses of which the last passes the position from 31 to 0. -/
theorem Clock.countPulses_eq {k : Clock} {fuel n : Nat} (hn : n < fuel) (hbelow : ∀ j, j ≤ n → k.counted j < 32)
    (hpass : 32 ≤ k.counted (n + 1)) :
    k.countPulses fuel =
      { k with
        pulse := BitVec.ofNat 5 (k.counted (n + 1))
        period := k.period + BitVec.ofNat 21 (n + 1)
        periodStarted := k.periodStarted || decide (2097152 ≤ k.period.toNat + (n + 1)) } := by
  obtain ⟨fuel, rfl⟩ : ∃ f, fuel = f + 1 := ⟨fuel - 1, by omega⟩
  rw [Clock.countPulses_succ]
  induction n generalizing k fuel with
  | zero =>
    rw [if_pos hpass]
    simp only [Clock.pulseTo, Clock.countPeriod, Nat.zero_add, period_passes]
    rfl
  | succ n ih =>
    have hone : k.counted 1 < 32 := hbelow 1 (by omega)
    obtain ⟨fuel, rfl⟩ : ∃ f, fuel = f + 1 := ⟨fuel - 1, by omega⟩
    rw [if_neg (by omega), Clock.countPulses_succ,
      ih (fun j hj => by rw [Clock.counted_pulseTo hone]; exact hbelow _ (by omega))
        (by rwa [Clock.counted_pulseTo hone]) fuel (by omega),
      Clock.counted_pulseTo hone, Clock.passes_pulseTo, Clock.period_pulseTo]
    rfl

/-! ### FRACTION_TICK (R138, R139, R141) -/

theorem Clock.advanceWall_eq (k : Clock) :
    k.advanceWall =
      { k with
        fraction := if k.fraction = 1023 then 0 else k.fraction + 1
        seconds := if k.fraction = 1023 ∧ k.seconds ≠ 0xFFFFFFFF then k.seconds + 1 else k.seconds } := by
  unfold Clock.advanceWall
  by_cases hwrap : k.fraction = 1023
  · by_cases hlast : k.seconds = 0xFFFFFFFF
    · simp only [hwrap, hlast, if_true, ne_eq, not_true, and_false, if_false]
    · simp only [hwrap, hlast, if_true, if_false, ne_eq, not_false_eq_true, and_self]
  · simp only [hwrap, if_false, false_and]

/-- A fraction tick: the period start that was raised is taken, the pulses up to the passing are counted, and the wall time and
the tick count advance. -/
theorem Clock.tick_eq {k : Clock} {power : Bool} {n : Nat} (hmono : k.mono + 1 < 2 ^ 48) (hn : n < tickPulses)
    (hbelow : ∀ j, j ≤ n → k.takePeriodStart.counted j < 32) (hpass : 32 ≤ k.takePeriodStart.counted (n + 1)) :
    k.tick power =
      { k with
        pulse := BitVec.ofNat 5 (k.takePeriodStart.counted (n + 1) - 32)
        period := k.period + BitVec.ofNat 21 (n + 1)
        trimInUse := if k.periodStarted then k.trimSet else k.trimInUse
        periodStarted := decide (2097152 ≤ k.period.toNat + (n + 1))
        fraction := if k.fraction = 1023 then 0 else k.fraction + 1
        seconds := if k.fraction = 1023 ∧ k.seconds ≠ 0xFFFFFFFF then k.seconds + 1 else k.seconds
        mono := if power then k.mono + 1 else k.mono
        secondEvents := if power ∧ k.fraction = 1023 then k.secondEvents + 1 else k.secondEvents } := by
  have hpulse : BitVec.ofNat 5 (k.takePeriodStart.counted (n + 1)) =
      BitVec.ofNat 5 (k.takePeriodStart.counted (n + 1) - 32) := by
    refine BitVec.eq_of_toNat_eq ?_
    rw [BitVec.toNat_ofNat, BitVec.toNat_ofNat]
    omega
  have hpulses := Clock.countPulses_eq hn hbelow hpass
  rw [hpulse] at hpulses
  generalize BitVec.ofNat 5 (k.takePeriodStart.counted (n + 1) - 32) = pulse at hpulses ⊢
  rw [Clock.takePeriodStart_eq] at hpulses
  rw [Clock.tick, Clock.takePeriodStart_eq, hpulses, nextTick, if_pos hmono,
    Clock.advanceWall_eq]
  cases power
  · simp only [Bool.false_or, Bool.false_eq_true, if_false, false_and]
  · simp only [Bool.false_or, if_true, true_and]

/-- Settles O55: the weight of a pulse, the pulses of one tick, and the period start taken. -/
theorem timeBaseTicks : Obligations.TimeBaseTicks := by
  refine ⟨fun trim pulse => ?_, fun s hrun hmono => ?_, fun s hrun => ?_, fun s => ⟨fun hp => ?_, fun hp => ?_⟩⟩
  · have hcorrected : (∃ k : Nat, (k : Int) < |trim.toInt| ∧ (2 * k + 1) * 1048576 / trim.toInt.natAbs = pulse) ↔
        isCorrection trim pulse = true := by
      simp only [isCorrection_iff, correctionCount, Int.abs_eq_natAbs, Nat.cast_lt]
    dsimp only
    rw [hcorrected, pulseWeight_eq]
    refine ⟨fun hc hpos => ?_, fun hc hneg => ?_, fun hc => ?_⟩
    · rw [if_pos hc, if_neg (by omega)]
    · rw [if_pos hc, if_pos hneg]
    · rw [if_neg hc]
  · obtain ⟨n, hpos, hle, hbelow, hpass⟩ := s.clock.takePeriodStart.exists_passing
    obtain ⟨n, rfl⟩ : ∃ m, n = m + 1 := ⟨n - 1, by omega⟩
    have htick : s.clock.tick s.power = _ :=
      Clock.tick_eq hmono (by omega) (fun j hj => hbelow j (by omega)) hpass
    rw [Clock.takePeriodStart_eq] at hbelow hpass htick
    refine ⟨n + 1, hpos, hle, hbelow, hpass, ?_⟩
    simp only [exec, execFractionTick, hrun, if_true, htick]
    rfl
  · simp [exec, execFractionTick, hrun]
  · simp [exec, execPeriodStart, Clock.takePeriodStart_eq, hp]
  · simp [exec, execPeriodStart, Clock.takePeriodStart, hp]

end Sys2Proof.Machine
end

section
/-! Proofs for the time base: the oscillator and the backup supply (R147, R148, R150). -/

namespace Sys2Proof.Machine

/-! ### The oscillator and the backup supply (R147, R148, R150) -/

/-- A stop while running, from the clock as it stood. -/
theorem Clock.stopWhileRunning_eq (k : Clock) :
    k.stopWhileRunning =
      { k with
        seconds := 0, fraction := 0, pulse := 0, period := 0, timeValid := false, stopMark := false, running := false
        trimInUse := if k.periodStarted then k.trimSet else k.trimInUse
        periodStarted := false } := by
  rw [Clock.stopWhileRunning, Clock.takePeriodStart_eq]

theorem execOscillatorStop_running {s : State} (hp : s.power = true) (hrun : s.clock.running = true) :
    execOscillatorStop s = .next (State.latch { s with clock := s.clock.stopWhileRunning } .timeLost).driveAlerts := by
  simp [execOscillatorStop, hp, hrun]

theorem execOscillatorStop_idle {s : State} (h : s.power = false ∨ s.clock.running = false) :
    execOscillatorStop s = .next s := by
  rcases h with hp | hrun
  · simp [execOscillatorStop, hp]
  · simp [execOscillatorStop, hrun]

theorem execOscillatorStopWhileOff_off {s : State} {lost : Bool} (hp : s.power = false)
    (h : s.clock.running = true ∨ lost = true) :
    execOscillatorStopWhileOff lost s = .next { s with clock := s.clock.stopWhileOff lost } := by
  simp [execOscillatorStopWhileOff, hp, h]

theorem execOscillatorStopWhileOff_idle {s : State} {lost : Bool}
    (h : s.power = true ∨ s.clock.running = false ∧ lost = false) : execOscillatorStopWhileOff lost s = .next s := by
  rcases h with hp | ⟨hrun, rfl⟩
  · simp [execOscillatorStopWhileOff, hp]
  · simp [execOscillatorStopWhileOff, hrun]

/-- Settles O56: each event with its condition met and unmet. -/
theorem oscillatorAndBackupEvents : Obligations.OscillatorAndBackupEvents := by
  refine fun s => ⟨fun hp hrun => ?_, execOscillatorStop_idle, fun hrun => ?_, fun hrun => ?_, fun hp hrun => ?_,
    fun hp => ⟨Config.lostTrim s.clock.losses, ?_⟩, fun hp hrun => execOscillatorStopWhileOff_idle (.inr ⟨hrun, rfl⟩),
    fun lost hp => execOscillatorStopWhileOff_idle (.inl hp), fun low hp => ?_, fun low hp => ?_⟩
  · exact (execOscillatorStop_running hp hrun).trans (by rw [Clock.stopWhileRunning_eq]; rfl)
  · exact if_neg (by simp [hrun])
  · exact if_pos hrun
  · exact execOscillatorStopWhileOff_off hp (.inl hrun)
  · exact execOscillatorStopWhileOff_off hp (.inr rfl)
  · exact if_pos hp
  · exact if_neg (by simp [hp])

end Sys2Proof.Machine
end

section
/-! Proofs for the time base: the loss of main power and the power-on (R149, R151, R152, R176, R177). -/

namespace Sys2Proof.Machine

/-! ### The record the store was changing (R176) -/

theorem Store.powerLost_unchanged {st : Store} {p : ActionPoint} (h : st.action = none ∨ p = .beforeChange) :
    st.powerLost p = st := by
  unfold Store.powerLost
  rcases h with ha | rfl
  · rw [ha]
  · cases st.action <;> rfl

theorem Store.powerLost_changing {st : Store} {a : StoreAct} (ha : st.action = some a) :
    st.powerLost .changing = st.torn a := by
  unfold Store.powerLost
  rw [ha]

theorem Store.powerLost_changed {st : Store} {a : StoreAct} (ha : st.action = some a) :
    st.powerLost .changed = st.applied a := by
  unfold Store.powerLost
  rw [ha]

/-! ### The loss of main power and the power-on (R149, R151, R176, R177) -/

/-- The module once main power has failed (R151, R176): the main domain lost, the last-loss time captured. -/
def State.powerFailed (s : State) (p : ActionPoint) : State :=
  (State.mainLost { s with clock := s.clock.capture, store := s.store.powerLost p }).driveAlerts

theorem exec_mainPowerFail {s : State} (hp : s.power = true) (p : ActionPoint) :
    exec (.mainPowerFail p) s = .next (s.powerFailed p) := if_pos hp

theorem State.store_powerFailed (s : State) (p : ActionPoint) :
    (s.powerFailed p).store = { s.store.powerLost p with action := none, second := false, pending := [] } := rfl

theorem State.ctx_powerFailed (s : State) (p : ActionPoint) (l : LaneNo) (c : CtxNo) :
    ((s.powerFailed p).ctx l c).body = .free := by
  rw [State.powerFailed, State.ctx, State.driveAlerts_lane]
  exact congrArg Context.body (State.ctx_mainLost _ l c)

theorem State.lane_powerFailed (s : State) (p : ActionPoint) (l : LaneNo) :
    (s.powerFailed p).lanes[l].queue = [] ∧ (s.powerFailed p).lanes[l].port.answers = [] := by
  rw [State.powerFailed, State.driveAlerts_lane, State.lanes_mainLost]
  exact ⟨rfl, rfl⟩

theorem Clock.powerOn_eq (k : Clock) (low : Bool) :
    k.powerOn low =
      if k.stopMark then
        { k with
          seconds := 0, fraction := 0, pulse := 0, period := 0, timeValid := false, trimInUse := 0, stopMark := false
          lastLossValid := k.lastLossValid && k.lastLossIntact, backupLow := low, trimFromConfig := true
          running := true, periodStarted := false }
      else { k with backupLow := low, trimFromConfig := false } := rfl

/-- The module at power-on (R177): STARTING, with TIME_LOST latched where the stop mark was set. -/
theorem State.powerOn_eq (s : State) (low : Bool) :
    s.powerOn low =
      { s.mainLost with
        power := true
        clock := Clock.powerOn { s.clock with mono := 0, secondEvents := 0 } low
        flags := if s.clock.stopMark then 1 else 0 } := by
  unfold State.powerOn
  have hlatched : s.mainLost.flags ||| Flag.mask .timeLost = 1 :=
    (by decide : (0 : BitVec 21) ||| Flag.mask .timeLost = 1)
  dsimp only
  by_cases hstop : s.clock.stopMark = true
  · rw [if_pos hstop, if_pos hstop, State.latch]
    dsimp only
    rw [hlatched]
    rfl
  · rw [if_neg hstop, if_neg hstop]
    rfl

/-- Settles O59: the loss of main power part by part, and the power-on with and without the stop mark. -/
theorem mainPowerMoves : Obligations.MainPowerMoves := by
  refine ⟨fun s p hp => ⟨s.powerFailed p, exec_mainPowerFail hp p, rfl, rfl, rfl, rfl, rfl, rfl, rfl, s.ctx_powerFailed p,
    s.lane_powerFailed p, rfl, rfl, rfl, fun h => ?_, fun hc a ha => ?_, fun hc a ha => ?_⟩,
    fun s p hp => if_neg (by simp [hp]), fun s low hp => if_pos hp, fun s low hp => ?_⟩
  · rw [State.store_powerFailed, Store.powerLost_unchanged h]
    exact ⟨rfl, rfl, rfl⟩
  · subst hc
    rw [State.store_powerFailed, Store.powerLost_changing ha]
    cases a <;> rfl
  · subst hc
    rw [State.store_powerFailed, Store.powerLost_changed ha]
    cases a <;> rfl
  · have hon : exec (.powerOn low) s = .next (s.powerOn low).driveAlerts := if_neg (by simp [hp])
    rw [hon, State.powerOn_eq, Clock.powerOn_eq]
    rfl

end Sys2Proof.Machine
end

section
/-! Proofs for the station controller: no operation but POLL takes a SERVICE_CHANGED notice away (R26, R27, R157). -/

namespace Sys2Proof.Machine

/-- Every lane whose notice set holds SERVICE_CHANGED still holds it. -/
def State.NoticesStand (s t : State) : Prop :=
  ∀ l : LaneNo, s.lanes[l].notices.serviceChanged = true → t.lanes[l].notices.serviceChanged = true

/-- Every lane's notice set holds SERVICE_CHANGED (R157). -/
def State.AllNoticed (s : State) : Prop := ∀ l : LaneNo, s.lanes[l].notices.serviceChanged = true

theorem State.NoticesStand.trans {s t u : State} (h : s.NoticesStand t) (h' : t.NoticesStand u) : s.NoticesStand u :=
  fun l hl => h' l (h l hl)

theorem State.NoticesStand.of_lanes {s t : State} (h : t.lanes = s.lanes) : s.NoticesStand t := fun _ hl => by rwa [h]

/-- The notices of a state with the same lanes. -/
theorem State.NoticesStand.after {s t u : State} (h : t.NoticesStand u) (hl : t.lanes = s.lanes) : s.NoticesStand u :=
  (State.NoticesStand.of_lanes hl).trans h

theorem State.NoticesStand.refl (s : State) : s.NoticesStand s := .of_lanes rfl

theorem State.NoticesStand.ite {c : Prop} [Decidable c] {s t u : State} (ht : s.NoticesStand t) (hu : s.NoticesStand u) :
    s.NoticesStand (if c then t else u) := by
  split
  · exact ht
  · exact hu

/-- A fold lets stand what each of its steps does. -/
theorem State.NoticesStand.foldl {α : Type} {f : State → α → State}
    (step : ∀ (s : State) (a : α), s.NoticesStand (f s a)) (as : List α) (s : State) : s.NoticesStand (as.foldl f s) :=
  foldl_keeps (P := s.NoticesStand) (fun t a ht => ht.trans (step t a)) as s (.refl s)

/-- One lane replaced by one that keeps the notice. -/
theorem State.NoticesStand.onLane {s : State} {l : LaneNo} {f : Lane → Lane}
    (hf : s.lanes[l].notices.serviceChanged = true → (f s.lanes[l]).notices.serviceChanged = true) :
    s.NoticesStand (s.onLane l f) := fun k hk => by
  by_cases h : k = l
  · subst h
    rw [State.onLane_same]
    exact hf hk
  · rwa [State.onLane_other s l k f h]

section
variable (s : State)

/-! ### Endings (R5, R6, R29, R30, R32, R34) -/

theorem State.noticesStand_answerWaiting (l : LaneNo) (pick : Entry → Bool) (r : Reply) :
    s.NoticesStand (s.answerWaiting l pick r) := by
  rw [State.answerWaiting_eq]
  exact .onLane id

theorem Notices.afterEnd_serviceChanged (n : Notices) (c : CtxNo) (ticket : BitVec 8) (cause : EndCause) :
    (n.afterEnd c ticket cause).serviceChanged = n.serviceChanged := by
  cases cause <;> rfl

theorem State.noticesStand_endContext (l : LaneNo) (c : CtxNo) (cause : EndCause) :
    s.NoticesStand (s.endContext l c cause) := by
  have hfreed : s.NoticesStand (s.freeContext l c cause) := by
    rw [State.freeContext_eq]
    exact .onLane fun h => (Notices.afterEnd_serviceChanged ..).trans h
  exact hfreed.trans (.of_lanes (s.endContext_lanes l c cause))

theorem State.noticesStand_reachEnd (l : LaneNo) (c : CtxNo) (p : PendingEnd) : s.NoticesStand (s.reachEnd l c p) :=
  .ite (.refl s) (.ite (.onLane id) (s.noticesStand_endContext l c _))

theorem State.noticesStand_resetContexts (l : LaneNo) : s.NoticesStand (s.resetContexts l) :=
  .foldl (fun t c => t.noticesStand_reachEnd l c _) _ s

theorem State.noticesStand_addServiceChanged (l : LaneNo) : s.NoticesStand (s.addServiceChanged l) := .onLane fun _ => rfl

/-- Every waiting entry of a lane is answered, every context of it reached and the notice added (R30, R34). -/
theorem State.noticesStand_emptied (l : LaneNo) (r : Reply) :
    s.NoticesStand (((s.answerWaiting l (fun _ => true) r).resetContexts l).addServiceChanged l) :=
  ((s.noticesStand_answerWaiting l _ r).trans (State.noticesStand_resetContexts _ l)).trans
    (State.noticesStand_addServiceChanged _ l)

theorem State.noticesStand_latch (f : Flag) : s.NoticesStand (s.latch f) := .of_lanes rfl

theorem State.noticesStand_linkDown (l : LaneNo) : s.NoticesStand (s.linkDown l) :=
  (State.NoticesStand.trans (.onLane (f := Lane.cleared) id) (State.noticesStand_resetContexts _ l)).trans
    (State.noticesStand_latch _ _)

theorem State.noticesStand_withdrawContext (n : SlotNo) (l : LaneNo) (c : CtxNo) :
    s.NoticesStand (s.withdrawContext n l c) := by
  unfold State.withdrawContext
  split
  · exact .ite (s.noticesStand_endContext l c _) (.refl s)
  · exact .ite (.onLane id) (.refl s)
  · exact .ite (s.noticesStand_endContext l c _) (.refl s)
  · exact .refl s

theorem State.noticesStand_withdrawMaster (n : SlotNo) : s.NoticesStand (s.withdrawMaster n) :=
  .foldl (fun t l => (t.noticesStand_answerWaiting l _ _).trans
    (.foldl (fun u c => u.noticesStand_withdrawContext n l c) _ _)) _ s

theorem State.noticesStand_reformSigning : s.NoticesStand s.reformSigning :=
  .ite (.refl s) (State.NoticesStand.trans (t := { s with signing := s.formSigning }) (.of_lanes rfl)
    (.foldl (fun _ _ => .ite (.onLane id) (.refl _)) _ _))

/-! ### The start of the jobs (R15, R20, R115, R119) -/

theorem State.noticesStand_startEntry (l : LaneNo) (e : Entry) : s.NoticesStand (s.startEntry l e) := by
  have hrun (t : State) (ht : t.lanes = s.lanes) (j : Job) : s.NoticesStand ((t.setRunning l e).setJob j) :=
    (State.NoticesStand.of_lanes ht).trans (State.NoticesStand.onLane (s := t) (f := fun ln => ln.setRunning e) id)
  have hdiscard : s.NoticesStand (s.discardEntry l e) := .onLane id
  have hanswer (c : Code) : s.NoticesStand (s.answerAtStart l e c) := s.noticesStand_answerWaiting l _ _
  unfold State.startEntry
  split
  · unfold State.startOpen
    split
    · split
      · exact hrun s rfl _
      · exact (hanswer _).trans (State.noticesStand_endContext _ l _ _)
      · exact (hanswer _).trans (State.noticesStand_endContext _ l _ _)
    · exact hdiscard
  · unfold State.startProve
    split
    · exact hrun s rfl _
    · exact hdiscard
  · unfold State.startSeal
    split
    · split
      · exact (hanswer _).trans (.onLane id)
      · next g _ =>
        dsimp only
        exact .ite ((hrun (s.reference g.slot) rfl _).trans (State.noticesStand_latch _ _)) (hrun (s.reference g.slot) rfl _)
    · exact hdiscard

theorem State.noticesStand_startChoice (ch : Choice) : s.NoticesStand (s.startChoice ch) := by
  cases ch with
  | step l e => exact (State.noticesStand_startEntry _ l e).after rfl
  | admitting l e => exact (State.noticesStand_startEntry _ l e).after rfl
  | load req => exact .of_lanes rfl

theorem State.noticesStand_arbitrate : s.NoticesStand s.arbitrate := by
  unfold State.arbitrate
  generalize s.waitingCount + 1 = n
  induction n generalizing s with
  | zero => exact .refl s
  | succ n ih =>
    refine .ite (.refl s) ?_
    split
    · exact .refl s
    · exact (s.noticesStand_startChoice _).trans (ih _)

/-! ### The station requests (R154 to R156) -/

theorem State.noticesStand_runSetLane (body : List Byte) : s.NoticesStand (s.runSetLane body).1 := by
  have henabled (t : State) (l : LaneNo) (before after : Bool) : t.NoticesStand (t.applyEnabled l before after) :=
    .ite (.refl t) (.ite (t.noticesStand_addServiceChanged l) (t.noticesStand_emptied l _))
  have htimeout (t : State) (l : LaneNo) (v : BitVec 16) : t.NoticesStand (t.applyTimeout l v) :=
    .ite (.ite ((State.NoticesStand.onLane id).trans (State.noticesStand_linkDown _ l)) (.onLane id)) (.refl t)
  unfold State.runSetLane
  split
  · exact .refl s
  · exact State.NoticesStand.trans (t := s.setSettings _ _) (.of_lanes rfl) ((henabled _ _ _ _).trans (htimeout _ _ _))

theorem State.noticesStand_withdraw (n : SlotNo) (d : KeyData) : s.NoticesStand (s.withdraw n d) := by
  have hwrite : s.NoticesStand ((s.onSlot n fun sl => { sl with body := .held .withdrawn d }).requestStore (.writeSlot n)) :=
    .of_lanes (by simp)
  have hreached : s.NoticesStand (s.withdrawn n d) := .ite (hwrite.trans (State.noticesStand_withdrawMaster _ n)) hwrite
  rw [State.withdraw_eq]
  exact (hreached.trans (.of_lanes (State.eraseIfUnused_lanes _ n))).trans (State.noticesStand_reformSigning _)

/-- What an EXECUTING request does takes no SERVICE_CHANGED away (R156). -/
theorem State.noticesStand_execute (e : StationEntry) : s.NoticesStand (s.execute e).1 := by
  unfold State.execute
  cases e.kind <;> dsimp only
  case setLane => exact s.noticesStand_runSetLane e.body
  case setConfig =>
    unfold State.runSetConfig
    split
    · exact .refl s
    · exact .ite (.of_lanes rfl) ((State.noticesStand_reformSigning _).after rfl)
  case loadKey =>
    unfold State.runLoadKey
    split
    · exact .refl s
    split
    · exact .refl s
    split
    · exact .refl s
    · exact (State.noticesStand_arbitrate _).after rfl
  case withdrawKey =>
    unfold State.runWithdrawKey
    split
    · exact .refl s
    split
    · exact .refl s
    split
    case h_5 => exact s.noticesStand_withdraw _ _
    all_goals exact .refl s
  case setTime =>
    unfold State.runSetTime
    split
    · exact .refl s
    · exact (State.noticesStand_reformSigning _).after (by simp)
  case reseed | listSlot | setRoute | clearRoute =>
    simp only [State.runReseed, State.runListSlot, State.runSetRoute, State.runClearRoute, answers]
    split
    · exact .refl s
    · split <;> exact .of_lanes (by simp)
  case saveConfig | reset | queryPassage | setTrim | readTime =>
    simp only [State.runSaveConfig, State.runReset, State.runQueryPassage, State.runSetTrim, State.runReadTime,
      State.stationReply, answers]
    split <;> exact .of_lanes (by simp)

theorem State.noticesStand_answerExecuting (r : Reply) : s.NoticesStand (s.answerExecuting r) := by
  unfold State.answerExecuting
  split
  · exact .refl s
  · exact .of_lanes rfl

theorem State.noticesStand_runStationFor (n : Nat) : s.NoticesStand (s.runStationFor n) := by
  induction n generalizing s with
  | zero => exact .refl s
  | succ n ih =>
    unfold State.runStationFor
    split
    · exact .refl s
    · next e rest _ =>
      have hexec : s.NoticesStand ((s.withQueue ({ e with executing := true } :: rest)).execute e).1 :=
        (State.noticesStand_execute _ e).after rfl
      dsimp only
      split
      · exact (hexec.trans (State.noticesStand_answerExecuting _ _)).trans (ih _)
      · exact hexec

theorem State.noticesStand_finishExecuting (r : Reply) : s.NoticesStand (s.finishExecuting r) :=
  (s.noticesStand_answerExecuting r).trans (State.noticesStand_runStationFor _ _)

/-! ### Every lane noticed (R34, R157) -/

variable {s} in
theorem State.AllNoticed.stand {t : State} (h : s.AllNoticed) (hst : s.NoticesStand t) : t.AllNoticed :=
  fun l => hst l (h l)

/-- Driving the alert outputs leaves the notice sets. -/
theorem State.driveAlerts_notices (l : LaneNo) : s.driveAlerts.lanes[l].notices = s.lanes[l].notices := by
  rw [State.driveAlerts_lane]

theorem State.noticesStand_driveAlerts : s.NoticesStand s.driveAlerts := fun l hl => by rwa [State.driveAlerts_notices]

theorem State.allNoticed_enterServing : s.enterServing.AllNoticed := fun l => by
  rw [State.enterServing, State.serviceChangedAll_eq]
  simp

theorem State.noticesStand_leaveServiceLane (l : LaneNo) : s.NoticesStand (s.leaveServiceLane l) := s.noticesStand_emptied l _

theorem State.serviceChanged_leaveServiceLane (l : LaneNo) :
    (s.leaveServiceLane l).lanes[l].notices.serviceChanged = true := by
  unfold State.leaveServiceLane
  generalize State.resetContexts _ l = t
  exact congrArg (fun ln : Lane => ln.notices.serviceChanged) (t.onLane_same l _)

theorem State.allNoticed_leaveService : s.leaveService.AllNoticed := fun l => by
  obtain ⟨before, after, hsplit⟩ := List.append_of_mem (List.mem_finRange l)
  rw [State.leaveService, hsplit, List.foldl_append, List.foldl_cons]
  generalize before.foldl _ _ = t
  have hadded := t.serviceChanged_leaveServiceLane l
  generalize t.leaveServiceLane l = u at hadded ⊢
  exact State.NoticesStand.foldl State.noticesStand_leaveServiceLane after u l hadded

end

end Sys2Proof.Machine
end

section
/-! Proofs for the station controller: the service state through every command (R157, R181, R34, R169). The commands that cannot
move it are told apart from the seven that can, and each of these is looked at on its own. -/

namespace Sys2Proof.Machine

/-! ### Commands that leave the service state -/

section
variable (s : State)

theorem State.stands_handStation (f : Frame) : s.Stands (s.handStation f) := by
  unfold State.handStation
  split
  · exact (s.carries_produce _ _).toStands
  split
  · exact (s.carries_statusRequest _ _).toStands
  split
  · exact (s.carries_produce _ _).toStands
  · exact s.stands_stationRequest _ _ _

theorem State.stands_stationFrame {deal : State → State} (hd : ∀ t : State, t.Stands (deal t)) :
    s.Stands (s.stationFrame deal) := by
  have harr : s.Stands s.stationFrameArrives := s.stands_setStation _
  obtain heq | ⟨-, heq⟩ := s.stationFrame_cases deal <;> rw [heq]
  · exact harr
  · exact harr.trans (hd _)

theorem State.stands_portFrame (p : Port) (f : Frame) : s.Stands (s.portFrame p f) := by
  cases p with
  | lane l => exact (s.carries_laneFrame l fun t => t.carries_handLane l f).toStands
  | station => exact s.stands_stationFrame fun t => t.stands_handStation f

theorem State.stands_receive (p : Port) (c : LineChar) : s.Stands (s.receive p c) := by
  have hrx (rx : Rx) : s.Stands (s.onPort p fun ps => { ps with rx := rx }) := (s.carries_onPort p _).toStands
  unfold State.receive
  dsimp only
  split
  · exact hrx _
  · exact (hrx _).trans (State.carries_latch _ _).toStands
  · exact (hrx _).trans (State.stands_portFrame _ p _)

theorem State.stands_receiveAll (p : Port) (cs : List LineChar) : s.Stands (s.receiveAll p cs) :=
  foldl_keeps (P := s.Stands) (fun t c ht => ht.trans (t.stands_receive p c)) cs s (.refl s)

/-- A command heard only with main power present. -/
theorem State.service_powered {f : State → State} {t : State} (hx : s.powered f = .next t)
    (hf : (f s).service = s.service) : t.service = s.service := by
  obtain ⟨-, rfl⟩ | ⟨-, rfl⟩ := State.powered_cases hx
  · exact (State.driveAlerts_service _).trans hf
  · rfl

/-- The completions of the PROVE, SEAL and LOAD jobs leave the service state. -/
theorem State.service_completion {t : State}
    (hx : execProveCompletion s = .next t ∨ execSealCompletion s = .next t ∨ execLoadCompletion s = .next t) :
    t.service = s.service := by
  have settled (u : State) (hu : u.service = s.service) : u.arbitrate.driveAlerts.service = s.service :=
    u.carries_settle.service.trans hu
  obtain hx | hx | hx := hx
  · unfold execProveCompletion at hx
    split at hx <;> cases hx
    · exact settled _ (State.carries_applyProve _ _ _ _).service
    · rfl
  · unfold execSealCompletion at hx
    split at hx <;> cases hx
    · exact settled _ (State.carries_applySeal _ _ _ _ _ _ _ _ _).service
    · rfl
  · unfold execLoadCompletion at hx
    split at hx <;> cases hx
    · refine settled _ ?_
      split
      · exact State.requestStore_service _ _
      · exact (State.stands_finishExecuting _ _).service
    · rfl

end

/-- The commands that can move the service state. -/
def movesService : Instr → Bool
  | .openCompletion | .mainPowerFail _ | .powerOn _ | .startUp | .storeActionComplete | .storeActionFailed _
  | .answerTransmitted _ => true
  | _ => false

/-- Every other command leaves the service state. -/
theorem State.exec_service {s t : State} {i : Instr} (hi : movesService i = false) (hx : exec i s = .next t) :
    t.service = s.service := by
  have lane (l : LaneNo) (deal : State → State) (hx : (s.powered fun s => s.laneFrame l deal) = .next t)
      (hd : ∀ u : State, u.Carries (deal u)) : t.service = s.service :=
    s.service_powered hx (s.carries_laneFrame l hd).service
  have station (k : StationKind) (tag : Byte) (body : List Byte)
      (hx : (s.powered fun s => s.stationFrame fun t => t.stationRequest k tag body) = .next t) : t.service = s.service :=
    s.service_powered hx (s.stands_stationFrame fun u => u.stands_stationRequest k tag body).service
  cases i
  case openReq l tag body => exact lane l (fun t => t.openRequest l tag body) hx fun u => u.carries_openRequest l tag body
  case proveReq l tag body => exact lane l (fun t => t.proveRequest l tag body) hx fun u => u.carries_proveRequest l tag body
  case sealReq l tag body => exact lane l (fun t => t.sealRequest l tag body) hx fun u => u.carries_sealRequest l tag body
  case dropReq l tag body => exact lane l (fun t => t.dropRequest l tag body) hx fun u => u.carries_dropRequest l tag body
  case pollReq l tag body => exact lane l (fun t => t.pollRequest l tag body) hx fun u => u.carries_pollRequest l tag body
  case statusReq tag body =>
    exact s.service_powered (f := fun s => s.stationFrame fun t => t.statusRequest tag body) hx
      (s.stands_stationFrame fun u => (u.carries_statusRequest tag body).toStands).service
  case setLane | setConfig | saveConfig | reseed | resetReq | loadKey | withdrawKey | listSlot | setRoute | clearRoute
      | queryPassage | setTime | setTrim | readTime => exact station _ _ _ hx
  case malformedFrame p kind tag length body =>
    exact s.service_powered (f := fun s => s.portFrame p _) hx (s.stands_portFrame p _).service
  case frameDiscarded p cs =>
    exact s.service_powered (f := fun s => s.receiveAll p cs) hx (s.stands_receiveAll p cs).service
  case abortSequence p => exact s.service_powered (f := fun s => s.onPort p _) hx (s.carries_onPort p _).service
  case proveCompletion => exact s.service_completion (.inl hx)
  case sealCompletion => exact s.service_completion (.inr (.inl hx))
  case loadCompletion => exact s.service_completion (.inr (.inr hx))
  case fractionTick | oscillatorRestart | backupLowChange | storeVerifyRetry | oscillatorStopWhileOff =>
    simp only [exec, execFractionTick, execOscillatorRestart, execBackupLowChange, execStoreVerifyRetry,
      execOscillatorStopWhileOff] at hx
    split at hx <;> cases hx <;> rfl
  case periodStart =>
    cases hx
    rfl
  case secondEvent => exact (s.carries_execSecondEvent hx).service
  case contextExpiry l c => exact (s.carries_execContextExpiry hx).service
  case entryExpiry id => exact (s.carries_execEntryExpiry hx).service
  case linkExpiry l => exact (s.carries_execLinkExpiry hx).service
  case oscillatorStop => exact (s.carries_execOscillatorStop hx).service
  all_goals cases hi

/-! ### The end of a transmission and the OPEN completion (R34, R112, R169) -/

/-- A RESET's answer sent begins the warm reset; another answer sent leaves the service state. -/
theorem execAnswerTransmitted_service {s t : State} {p : Port} (hx : execAnswerTransmitted p s = .next t)
    (hne : t.service ≠ s.service) : t.service = .starting ∧ p = .station := by
  unfold execAnswerTransmitted at hx
  split at hx <;> cases hx
  · exact absurd rfl hne
  · next a _ _ =>
    rw [State.driveAlerts_service] at hne ⊢
    split at hne
    · next hreset =>
      rw [if_pos hreset]
      simp only [Answer.beginsReset, Bool.and_eq_true, beq_iff_eq] at hreset
      obtain ⟨⟨hp, -⟩, -⟩ := hreset
      exact ⟨rfl, hp⟩
    · exact absurd (s.carries_answerSent p a).service hne

/-- An exhaustion of the last boot count finds both counts at their last value (R112). -/
theorem Kfu.counts_of_lastExhaustion {k : Kfu} (h : k.lastExhaustion = true) :
    k.sequence = 0xFFFFFFFF ∧ k.bootCount = 0xFFFFFFFF := by
  rwa [Kfu.lastExhaustion, Bool.and_eq_true, beq_iff_eq, beq_iff_eq] at h

theorem State.leaveService_service (s : State) : s.leaveService.service = .seedWait :=
  (State.Carries.foldl (fun t l => t.carries_emptied l _) (List.finRange 4) { s with service := .seedWait }).service

/-- An OPEN completion takes the module out of SERVING by the exhaustion under the last boot count alone (R112). -/
theorem execOpenCompletion_service {s t : State} (hx : execOpenCompletion s = .next t) (hne : t.service ≠ s.service) :
    s.kfu.job ≠ none ∧ t.service = .seedWait ∧ s.kfu.sequence = 0xFFFFFFFF ∧ s.kfu.bootCount = 0xFFFFFFFF
      ∧ t.AllNoticed := by
  unfold execOpenCompletion at hx
  split at hx <;> cases hx
  · next l c mk id g i hj =>
    rw [State.driveAlerts_service, State.arbitrate_service] at hne ⊢
    split at hne
    · next hlast =>
      rw [if_pos hlast]
      obtain ⟨hseq, hboot⟩ := Kfu.counts_of_lastExhaustion hlast
      refine ⟨by rw [hj]; exact nofun, State.leaveService_service _, hseq, hboot, ?_⟩
      exact (State.allNoticed_leaveService _).stand
        ((State.noticesStand_arbitrate _).trans (State.noticesStand_driveAlerts _))
    · refine absurd ?_ hne
      exact ((State.carries_advanceSequence s.freeUnit).trans (State.carries_applyOpen _ _ _ _ _)).service
  · exact absurd rfl hne

/-! ### The ends of store actions (R113, R168, R175, R181) -/

/-- The moves that the end of a boot record write makes, completed or failed. -/
inductive State.BootMove (s t : State) : Bool → Prop where
  | started (hs : s.service = .starting) (ht : t.service = .serving) (hn : t.AllNoticed) : s.BootMove t true
  | unstarted (hs : s.service = .starting) (ht : t.service = .seedWait)
      (hn : ∀ l : LaneNo, t.lanes[l].notices = s.lanes[l].notices) : s.BootMove t false
  | exhausted (hs : s.service = .serving) (ht : t.service = .seedWait) (hn : t.AllNoticed) : s.BootMove t false
  | reseeded (hs : s.service = .seedWait) (ht : t.service = .serving) (hx : s.station.isExecuting .reseed = true)
      (hn : t.AllNoticed) : s.BootMove t true

/-- The move read from a state with the same service state, lanes and station queue. -/
theorem State.BootMove.after {s u t : State} {ok : Bool} (h : u.BootMove t ok) (hs : u.service = s.service)
    (hl : u.lanes = s.lanes) (hq : u.station.queue = s.station.queue) : s.BootMove t ok := by
  cases h with
  | started hu ht hn => exact .started (hs ▸ hu) ht hn
  | unstarted hu ht hn => exact .unstarted (hs ▸ hu) ht (hl ▸ hn)
  | exhausted hu ht hn => exact .exhausted (hs ▸ hu) ht hn
  | reseeded hu ht hx hn =>
    rw [Station.isExecuting, hq] at hx
    exact .reseeded (hs ▸ hu) ht hx hn

theorem State.enterServing_service (s : State) : s.enterServing.service = .serving :=
  State.serviceChangedAll_service _

theorem State.bootMove_startBootEnds {s : State} (hs : s.service = .starting) (ok : Bool) :
    s.BootMove (s.startBootEnds ok) ok := by
  cases ok with
  | true => exact .started hs s.enterServing_service s.allNoticed_enterServing
  | false => exact .unstarted hs rfl fun _ => rfl

theorem State.bootMove_exhaustionBootEnds {s : State} (hs : s.service = .serving) {ok : Bool}
    (hne : (s.exhaustionBootEnds ok).service ≠ s.service) : s.BootMove (s.exhaustionBootEnds ok) ok := by
  cases ok with
  | true => exact absurd (State.arbitrate_service s.clearHold) hne
  | false => exact .exhausted hs s.clearHold.leaveService_service s.clearHold.allNoticed_leaveService

theorem State.bootMove_reseedBootEnds {s : State} (hs : s.service = .seedWait) {b : BitVec 32} {ok : Bool}
    (hne : (s.reseedBootEnds b ok).service ≠ s.service) : s.BootMove (s.reseedBootEnds b ok) ok := by
  unfold State.reseedBootEnds at hne ⊢
  split at hne
  · next hx =>
    rw [if_pos hx]
    cases ok with
    | true =>
      rw [if_pos rfl]
      generalize hu : State.enterServing { s with kfu := { s.kfu with boot := some b, sequence := 0 } } = u
      have hserving : u.service = .serving := by rw [← hu, State.enterServing_service]
      have hnoticed : u.AllNoticed := by rw [← hu]; exact State.allNoticed_enterServing _
      exact .reseeded hs ((u.stands_finishExecuting _).service.trans hserving) hx
        (hnoticed.stand (u.noticesStand_finishExecuting _))
    | false => exact absurd (s.stands_finishExecuting _).service hne
  · exact absurd rfl hne

/-- A completed boot record write makes its count the one known to RESEED (R167). -/
def State.knowBoot (s : State) (b : BitVec 32) (ok : Bool) : State :=
  if ok then { s with station := { s.station with knownBoot := some b } } else s

theorem State.knowBoot_keeps (s : State) (b : BitVec 32) (ok : Bool) :
    (s.knowBoot b ok).service = s.service ∧ (s.knowBoot b ok).lanes = s.lanes
      ∧ (s.knowBoot b ok).station.queue = s.station.queue := by
  cases ok <;> exact ⟨rfl, rfl, rfl⟩

theorem State.bootWriteEnds_eq (s : State) (b : BitVec 32) (ok : Bool) :
    s.bootWriteEnds b ok = match s.service with
      | .starting => (s.knowBoot b ok).startBootEnds ok
      | .serving => (s.knowBoot b ok).exhaustionBootEnds ok
      | .seedWait => (s.knowBoot b ok).reseedBootEnds b ok := rfl

/-- A boot record write that ends moves the service state as R157 gives, or leaves it. -/
theorem State.bootMove_bootWriteEnds {s : State} {b : BitVec 32} {ok : Bool}
    (hne : (s.bootWriteEnds b ok).service ≠ s.service) : s.BootMove (s.bootWriteEnds b ok) ok := by
  obtain ⟨hservice, hlanes, hqueue⟩ := s.knowBoot_keeps b ok
  rw [State.bootWriteEnds_eq] at hne ⊢
  generalize s.knowBoot b ok = u at *
  rw [← hservice] at hne ⊢
  refine State.BootMove.after ?_ hservice hlanes hqueue
  cases hs : u.service with
  | starting => exact State.bootMove_startBootEnds hs ok
  | serving =>
    rw [hs] at hne
    exact State.bootMove_exhaustionBootEnds hs (hs ▸ hne)
  | seedWait =>
    rw [hs] at hne
    exact State.bootMove_reseedBootEnds hs (hs ▸ hne)

/-- A store action that is no boot record write ends without a move of the service state (R175). -/
theorem State.actionEnds_service (s : State) (a : StoreAct) (ok : Bool) :
    (s.actionEnds a ok).service = s.service ∨ ∃ b, a = .writeBoot b ∧ s.actionEnds a ok = s.bootWriteEnds b ok := by
  have hfinish (u : State) (r : Reply) : (u.finishExecuting r).service = u.service := (u.stands_finishExecuting r).service
  unfold State.actionEnds
  split
  · exact .inl rfl
  cases a with
  | writeSlot n r =>
    refine .inl ?_
    dsimp only [State.slotWriteEnds, State.firstWriteDone, State.firstWriteFailed]
    split
    · split <;> simp [hfinish]
    · rfl
  | eraseSlot n =>
    refine .inl ?_
    dsimp only [State.slotEraseEnds]
    split
    · split <;> rfl
    · rfl
  | writeImage i =>
    refine .inl ?_
    dsimp only [State.imageWriteEnds]
    split
    · exact hfinish _ _
    · rfl
  | writeBoot b => exact .inr ⟨b, rfl, rfl⟩

theorem State.BootMove.settled {s t : State} {ok : Bool} (h : s.BootMove t ok) : s.BootMove t.beginNext.driveAlerts ok := by
  have hservice : t.beginNext.driveAlerts.service = t.service := by simp
  have hstand : t.NoticesStand t.beginNext.driveAlerts :=
    (State.NoticesStand.of_lanes t.beginNext_lanes).trans (State.noticesStand_driveAlerts _)
  cases h with
  | started hs ht hn => exact .started hs (hservice.trans ht) (hn.stand hstand)
  | unstarted hs ht hn =>
    refine .unstarted hs (hservice.trans ht) fun l => ?_
    rw [State.driveAlerts_notices, State.beginNext_lanes, hn l]
  | exhausted hs ht hn => exact .exhausted hs (hservice.trans ht) (hn.stand hstand)
  | reseeded hs ht hx hn => exact .reseeded hs (hservice.trans ht) hx (hn.stand hstand)

/-- A store action ended, the next one begun and the alert outputs driven: only a boot record write moves the service state. -/
theorem State.bootMove_actionEnds {s : State} {a : StoreAct} {ok : Bool}
    (hne : (s.actionEnds a ok).beginNext.driveAlerts.service ≠ s.service) :
    ∃ b, a = .writeBoot b ∧ s.BootMove (s.actionEnds a ok).beginNext.driveAlerts ok := by
  rw [State.driveAlerts_service, State.beginNext_service] at hne
  obtain hsame | ⟨b, ha, heq⟩ := s.actionEnds_service a ok
  · exact absurd hsame hne
  · rw [heq] at hne ⊢
    exact ⟨b, ha, (State.bootMove_bootWriteEnds hne).settled⟩

theorem execStoreActionComplete_service {s t : State} (hx : execStoreActionComplete s = .next t)
    (hne : t.service ≠ s.service) : (∃ b, s.store.action = some (.writeBoot b)) ∧ s.BootMove t true := by
  unfold execStoreActionComplete at hx
  split at hx
  · cases hx
    exact absurd rfl hne
  · next a ha =>
    cases hx
    obtain ⟨b, rfl, hmove⟩ := State.bootMove_actionEnds hne
    exact ⟨⟨b, ha⟩, hmove.after rfl rfl rfl⟩

theorem execStoreActionFailed_service {s t : State} {x : AttemptLeft} (hx : execStoreActionFailed x s = .next t)
    (hne : t.service ≠ s.service) : (∃ b, s.store.action = some (.writeBoot b)) ∧ s.BootMove t false := by
  unfold execStoreActionFailed at hx
  split at hx
  · next a ha _ =>
    cases hx
    obtain ⟨b, rfl, hmove⟩ := State.bootMove_actionEnds hne
    exact ⟨⟨b, ha⟩, hmove.after rfl rfl rfl⟩
  · cases hx
    exact absurd rfl hne

/-! ### START_UP (R178 to R181) -/

/-- The loading of the boot record moves the module to SEED_WAIT alone (R181). -/
theorem State.loadBoot_moves {s : State} (hne : s.loadBoot.service ≠ s.service) :
    s.loadBoot.service = .seedWait ∧ s.loadBoot.lanes = s.lanes ∧ ∀ b, s.store.boot = .intact b → b = 0xFFFFFFFF := by
  unfold State.loadBoot at hne ⊢
  split at hne
  · next b hb =>
    dsimp only at hne
    split at hne
    · next hlast =>
      simp only [hb, if_pos hlast]
      refine ⟨trivial, trivial, ?_⟩
      rintro _ ⟨⟩
      exact hlast
    · exact absurd (State.requestStore_service _ _) hne
  · next hno => exact ⟨rfl, rfl, fun b hb => absurd hb (hno b)⟩

theorem State.loadConfig_notices (s : State) (l : LaneNo) : s.loadConfig.lanes[l].notices = s.lanes[l].notices := by
  unfold State.loadConfig
  dsimp only
  split <;> simp [Lane.configured]

theorem State.requestStore_boot (s : State) (r : StoreReq) : (s.requestStore r).store.boot = s.store.boot := by
  unfold State.requestStore
  split
  · rfl
  · split <;> rfl

theorem State.foldl_requestStore_boot (ns : List SlotNo) (u : State) :
    (ns.foldl (fun (t : State) n => t.requestStore (.writeSlot n)) u).store.boot = u.store.boot :=
  foldl_keeps (P := fun t => t.store.boot = u.store.boot) (fun t _ ht => (t.requestStore_boot _).trans ht) ns u rfl

theorem State.evaluate_boot (s : State) : s.evaluate.store.boot = s.store.boot := by
  have hwrites := State.foldl_requestStore_boot s.evaluationChanges s.evaluateSlots
  rw [State.evaluateSlots_store] at hwrites
  unfold State.evaluate
  split
  · dsimp only
    split
    · exact hwrites
    · exact hwrites
  · rfl

theorem State.loadSlotRecord_boot (s : State) (n : SlotNo) : (s.loadSlotRecord n).store.boot = s.store.boot := by
  have hlatch : (if s.store.slots[n] == .failing then s.latch .slotLost else s).store.boot = s.store.boot := by
    split <;> rfl
  unfold State.loadSlotRecord
  dsimp only
  split
  · exact (State.requestStore_boot _ _).trans hlatch
  · exact hlatch

theorem State.foldl_loadSlotRecord_boot (ns : List SlotNo) (u : State) :
    (ns.foldl (fun s n => s.loadSlotRecord n) u).store.boot = u.store.boot :=
  foldl_keeps (P := fun t => t.store.boot = u.store.boot) (fun t n ht => (t.loadSlotRecord_boot n).trans ht) ns u rfl

/-- Reading the slot records leaves the boot record (R179, R180). -/
theorem State.startSlots_boot (s : State) : s.startSlots.store.boot = s.store.boot := by
  have hloaded : s.loadSlots.store.boot = s.store.boot := by
    unfold State.loadSlots
    rw [State.foldl_loadSlotRecord_boot]
  have heval := s.loadSlots.evaluate_boot.trans hloaded
  unfold State.startSlots
  dsimp only
  generalize s.loadSlots.evaluate = t at heval ⊢
  exact heval

/-- START_UP ends in SEED_WAIT where the boot record is not intact or holds the last boot count (R181). -/
theorem execStartUp_service {s t : State} (hx : execStartUp s = .next t) (hne : t.service ≠ s.service) :
    s.service = .starting ∧ t.service = .seedWait ∧ (∀ b, s.store.boot = .intact b → b = 0xFFFFFFFF)
      ∧ ∀ l : LaneNo, t.lanes[l].notices = s.lanes[l].notices := by
  unfold execStartUp at hx
  split at hx <;> rw [Host.Outcome.next.injEq] at hx <;> subst hx
  · next hready =>
    obtain ⟨-, hs, -, -⟩ := State.startReady_iff.mp hready
    obtain ⟨hservice, -, -, -, -⟩ := s.loadConfig_frame
    obtain ⟨hservice', -, -, hlanes, -⟩ := s.loadConfig.startSlots_frame
    have hboot := s.loadConfig.startSlots_boot
    have hnotices := s.loadConfig_notices
    rw [s.loadConfig_store] at hboot
    rw [← hlanes] at hnotices
    have hstart := hservice'.trans hservice
    generalize s.loadConfig.startSlots = u at *
    rw [State.driveAlerts_service] at hne ⊢
    rw [← hstart] at hne
    obtain ⟨ht, hlanes', hlast⟩ := State.loadBoot_moves (s := { u with loaded := true }) hne
    refine ⟨hs, ht, hboot ▸ hlast, fun l => ?_⟩
    rw [State.driveAlerts_notices, hlanes']
    exact hnotices l
  · exact absurd rfl hne

/-! ### The table of R157 -/

/-- At a power-on the module is STARTING (R177). -/
theorem execPowerOn_service {s t : State} {low : Bool} (hp : s.power = false) (hx : execPowerOn low s = .next t) :
    t.service = .starting := by
  rw [execPowerOn, if_neg (by simp [hp]), Host.Outcome.next.injEq] at hx
  rw [← hx, State.driveAlerts_service, State.powerOn_eq]
  rfl

/-- Settles O10: the command that moved the service state is one of the five that can with main power present, each of which
gives its own rows of the table. -/
theorem serviceStateMoves : Obligations.ServiceStateMoves := by
  refine ⟨fun c s t hstart hx hps hpt hne => ?_, fun low s t hp hx => execPowerOn_service hp hx⟩
  by_cases hc : movesService c = false
  · exact absurd (State.exec_service hc hx) hne
  cases c
  case answerTransmitted p =>
    obtain ⟨ht, rfl⟩ := execAnswerTransmitted_service hx hne
    exact .inl ⟨ht, rfl⟩
  case storeActionComplete =>
    obtain ⟨hboot, hmove⟩ := execStoreActionComplete_service hx hne
    cases hmove with
    | started hs ht hn => exact .inr (.inl ⟨hs, ht, rfl, hboot, hn⟩)
    | reseeded hs ht hex hn => exact .inr (.inr (.inr (.inr ⟨hs, ht, rfl, hboot, hex, hn⟩)))
  case startUp =>
    obtain ⟨hs, ht, hboot, hn⟩ := execStartUp_service hx hne
    exact .inr (.inr (.inl ⟨hs, ht, .inl ⟨rfl, hboot⟩, hn⟩))
  case storeActionFailed x =>
    obtain ⟨⟨b, hboot⟩, hmove⟩ := execStoreActionFailed_service hx hne
    cases hmove with
    | unstarted hs ht hn => exact .inr (.inr (.inl ⟨hs, ht, .inr ⟨x, b, rfl, hboot⟩, hn⟩))
    | exhausted hs ht hn => exact .inr (.inr (.inr (.inl ⟨hs, ht, .inr ⟨x, b, rfl, hboot⟩, hn⟩)))
  case openCompletion =>
    obtain ⟨hjob, ht, hseq, hboot, hn⟩ := execOpenCompletion_service hx hne
    have hs : s.service = .serving := by
      cases hs : s.service with
      | starting => exact absurd (hstart.2 hs).1 hjob
      | seedWait => exact absurd (ht.trans hs.symm) hne
      | serving => rfl
    exact .inr (.inr (.inr (.inl ⟨hs, ht, .inl ⟨rfl, hseq, hboot⟩, hn⟩)))
  case mainPowerFail p =>
    rw [exec_mainPowerFail hps, Host.Outcome.next.injEq] at hx
    rw [← hx] at hpt
    cases hpt
  case powerOn low =>
    simp only [exec, execPowerOn, hps, if_true, Host.Outcome.next.injEq] at hx
    exact absurd (congrArg State.service hx).symm hne
  all_goals exact absurd rfl hc

end Sys2Proof.Machine
end

section
/-! Proofs for the station controller: how a station request is admitted (R154 to R156, R202), and STATUS (R159, R160). -/

namespace Sys2Proof.Machine

/-! ### A frame on the station port with a free answer place (R155, R186) -/

theorem State.powered_stationFrame {s : State} (hp : s.power = true) (hf : s.station.placesHeld < 6) (deal : State → State) :
    (s.powered fun s => s.stationFrame deal) = .next (deal s.stationFrameArrives).driveAlerts := by
  have hfree : ¬ answerPlaces ≤ s.stationFrameArrives.station.placesHeld := Nat.not_le.mpr hf
  rw [State.powered_eq hp, State.stationFrame, if_neg hfree]

/-- The rows of the station port but STATUS are requests of one kind each, dealt with alike (R155, R200). -/
theorem Instr.stationKind_of_request {i : Instr} {kind tag : Byte} {body : List Byte}
    (hi : i.request = some (.station, kind, tag, body)) (hk : kind ≠ 0x10) :
    ∃ k : StationKind, k.code = kind
      ∧ ∀ s, exec i s = s.powered fun s => s.stationFrame fun t => t.stationRequest k tag body := by
  cases i <;> cases hi
  case statusReq => exact absurd rfl hk
  all_goals exact ⟨_, rfl, fun _ => rfl⟩

/-! ### The take (R154, R155) -/

section
variable {s : State} (k : StationKind) (tag : Byte) (body : List Byte)

theorem State.stationRequest_starting (hs : s.service = .starting) :
    s.stationRequest k tag body = s.stationReply k.code tag (.code .notReady) := if_pos hs

theorem State.stationRequest_full (hs : s.service ≠ .starting) (hq : 2 ≤ s.station.queue.length) :
    s.stationRequest k tag body = s.stationReply k.code tag (.code .busy) := (if_neg hs).trans (if_pos hq)

theorem State.stationRequest_behind (hs : s.service ≠ .starting) (hq : s.station.queue.length = 1) :
    s.stationRequest k tag body = s.withQueue
      (s.station.queue ++ [{ kind := k, tag := tag, body := body, executing := false, answered := false }]) := by
  have hroom : ¬ stationQueueSize ≤ s.station.queue.length := by
    rw [hq]
    decide
  have hne : s.station.queue ≠ [] := List.ne_nil_of_length_eq_add_one hq
  exact (if_neg hs).trans ((if_neg hroom).trans (if_neg hne))

end

/-! ### A body of a wrong length (R156, R202) -/

/-- The body length of each request (R202). -/
def StationKind.bodyLength : StationKind → Nat
  | .setLane => 6
  | .setConfig => 12
  | .saveConfig => 0
  | .reseed => 4
  | .reset => 0
  | .loadKey => 33
  | .withdrawKey => 1
  | .listSlot => 1
  | .setRoute => 17
  | .clearRoute => 1
  | .queryPassage => 6
  | .setTime => 4
  | .setTrim => 1
  | .readTime => 0

theorem readSetConfig_of_length {b : List Byte} (h : b.length ≠ 12) : readSetConfig b = none := by
  unfold readSetConfig
  split
  · exact if_neg fun hx => h hx.1
  · rfl

theorem readLoadKey_of_length {b : List Byte} (h : b.length ≠ 33) : readLoadKey b = none := by
  unfold readLoadKey
  dsimp only
  split
  · exact if_neg fun hx => h hx.1
  · rfl

/-- An EXECUTING request of a wrong length is answered MALFORMED and changes nothing (R156). -/
theorem State.execute_malformed (s : State) {e : StationEntry} (h : e.body.length ≠ e.kind.bodyLength) :
    s.execute e = answers s .malformed := by
  obtain ⟨kind, tag, body, executing, answered⟩ := e
  change body.length ≠ kind.bodyLength at h
  unfold State.execute
  cases kind <;> dsimp only [StationKind.bodyLength] at h ⊢
  case setLane =>
    have hread : readSetLane body = none := dif_neg fun hx => h hx.1
    rw [State.runSetLane, hread]
  case setConfig => rw [State.runSetConfig, readSetConfig_of_length h]
  case saveConfig => rw [State.runSaveConfig, readEmpty, if_neg h]
  case reseed => rw [State.runReseed, readReseed, if_neg h]
  case reset => rw [State.runReset, readEmpty, if_neg h]
  case loadKey => rw [State.runLoadKey, readLoadKey_of_length h]
  case withdrawKey => rw [State.runWithdrawKey, readByte, if_neg h]
  case listSlot => rw [State.runListSlot, readByte, if_neg h]
  case setRoute =>
    have hread : readSetRoute body = none := if_neg fun hx => h hx.1
    rw [State.runSetRoute, hread]
  case clearRoute => rw [State.runClearRoute, readByte, if_neg h]
  case queryPassage => rw [State.runQueryPassage, readTagId, if_neg h]
  case setTime => rw [State.runSetTime, readSetTime, if_neg h]
  case setTrim => rw [State.runSetTrim, readSetTrim, if_neg h]
  case readTime => rw [State.runReadTime, readEmpty, if_neg h]

theorem State.stationReady_of_empty {s : State} (hp : s.power = true) (hf : s.station.placesHeld < 6)
    (hs : s.service ≠ .starting) (hq : s.station.queue = []) : s.StationReady := by
  refine ⟨hp, hs, hq, ?_⟩
  rwa [Station.placesHeld, hq] at hf

/-- The table of R202 names each kind's own length. -/
theorem StationKind.bodyLength_of_mem {k : StationKind} {n : Nat}
    (h : (k.code, n) ∈ ([(0x11, 6), (0x12, 12), (0x13, 0), (0x14, 4), (0x15, 0), (0x20, 33), (0x21, 1), (0x22, 1), (0x28, 17),
      (0x29, 1), (0x30, 6), (0x38, 4), (0x39, 1), (0x3A, 0)] : List (Byte × Nat))) : k.bodyLength = n := by
  cases k <;> simp [StationKind.code] at h <;> exact h.symm

/-- Settles O46: the take by the service state and the queue's length, and a wrong length at the execution. -/
theorem stationRequestAdmitted : Obligations.StationRequestAdmitted := by
  intro i s kind tag body hi hk hp hf f refused
  obtain ⟨k, rfl, hexec⟩ := Instr.stationKind_of_request hi hk
  have hdealt : exec i s = .next (f.stationRequest k tag body).driveAlerts :=
    (hexec s).trans (State.powered_stationFrame hp hf _)
  refine ⟨fun hs => ?_, fun hs hq => ?_, fun hs hq => ⟨k, rfl, ?_⟩, fun hs hq n hn hlen => ?_⟩
  · rw [hdealt, State.stationRequest_starting (s := f) k tag body hs]
    rfl
  · rw [hdealt, State.stationRequest_full (s := f) k tag body hs hq]
    rfl
  · rw [hdealt, State.stationRequest_behind (s := f) k tag body hs hq]
    rfl
  · rw [hexec s]
    refine (State.stationReady_of_empty hp hf hs hq).answered fun q => State.execute_malformed _ ?_
    rwa [StationKind.bodyLength_of_mem hn]

/-! ### STATUS (R159, R160) -/

theorem Store.busy_eq (st : Store) : st.busy = (st.action.isSome || st.pending != []) := by
  cases hp : st.pending <;> simp [Store.busy, hp]

/-- The report written out (R160). -/
theorem State.statusReport_eq (s : State) :
    s.statusReport =
      { flags := s.flags, service := s.service, timeValid := s.clock.timeValid, backupLow := s.clock.backupLow
        storeBusy := s.store.action.isSome || s.store.pending != []
        lanes := Vector.ofFn fun l : LaneNo =>
          if s.config.lanes[l].enabled then (if s.lanes[l].linkUp then .up else .down) else .off
        entries := s.table.entries.length, boot := s.kfu.boot } := by
  rw [← Store.busy_eq]
  rfl

/-- Settles O47: the mask read, then the report as it stood before the flags were cleared. -/
theorem statusServed : Obligations.StatusServed := by
  intro s tag hp hf f
  have hdealt (body : List Byte) : exec (.statusReq tag body) s = .next (f.statusRequest tag body).driveAlerts :=
    State.powered_stationFrame hp hf _
  refine ⟨fun mask => ?_, fun body hlen => ?_⟩
  · rw [hdealt, State.statusRequest, readStatus_wire]
    dsimp only
    rw [State.statusReport_eq]
    rfl
  · rw [hdealt, State.statusRequest, readStatus, if_neg hlen]
    rfl

end Sys2Proof.Machine
end

section
/-! Proofs for the station controller: SET_LANE and SET_CONFIG (R162 to R165, R30, R31, R82, R194). -/

namespace Sys2Proof.Machine

/-! ### The link timeout applied (R191, R194) -/

/-- A lane's link deadline replaced. -/
def State.withLinkDeadline (s : State) (l : LaneNo) (d : Option Nat) : State :=
  s.onLane l fun ln => { ln with linkDeadline := d }

theorem State.linkDeadlineReached_withLinkDeadline {s : State} {l : LaneNo} (hup : s.lanes[l].linkUp = true)
    (d : Option Nat) : (s.withLinkDeadline l d).linkDeadlineReached l = d.any fun t => decide (t ≤ s.now) := by
  unfold State.linkDeadlineReached State.withLinkDeadline
  rw [State.onLane_same]
  dsimp only
  rw [hup]
  cases d <;> rfl

theorem State.applyTimeout_down {s : State} {l : LaneNo} (hdown : s.lanes[l].linkUp = false) (timeout : BitVec 16) :
    s.applyTimeout l timeout = s := if_neg (Bool.eq_false_iff.mp hdown)

/-- The deadline a new link timeout gives (R194). -/
def State.timeoutDeadline (s : State) (l : LaneNo) (timeout : BitVec 16) : Option Nat :=
  if timeout = 0 then none else some (s.lastFrameTick l + ticksOf timeout)

/-- On an UP link the deadline is set, and one already reached takes the link down (R194). -/
theorem State.applyTimeout_up {s : State} {l : LaneNo} (hup : s.lanes[l].linkUp = true) (timeout : BitVec 16) :
    s.applyTimeout l timeout =
      if (s.withLinkDeadline l (s.timeoutDeadline l timeout)).linkDeadlineReached l
      then (s.withLinkDeadline l (s.timeoutDeadline l timeout)).linkDown l
      else s.withLinkDeadline l (s.timeoutDeadline l timeout) := if_pos hup

section
variable {s : State} {l : LaneNo} (hup : s.lanes[l].linkUp = true) {timeout : BitVec 16}
include hup

theorem State.applyTimeout_off (ht : timeout = 0) : s.applyTimeout l timeout = s.withLinkDeadline l none := by
  rw [State.applyTimeout_up hup, State.timeoutDeadline, if_pos ht, State.linkDeadlineReached_withLinkDeadline hup]
  rfl

theorem State.applyTimeout_ahead (ht : timeout ≠ 0) (h : s.now < s.lastFrameTick l + ticksOf timeout) :
    s.applyTimeout l timeout = s.withLinkDeadline l (some (s.lastFrameTick l + ticksOf timeout)) := by
  rw [State.applyTimeout_up hup, State.timeoutDeadline, if_neg ht, State.linkDeadlineReached_withLinkDeadline hup]
  exact if_neg (by simpa using h)

theorem State.linkExpiry_of_reached (ht : timeout ≠ 0) (h : s.lastFrameTick l + ticksOf timeout ≤ s.now) :
    exec (.linkExpiry l) (s.withLinkDeadline l (some (s.lastFrameTick l + ticksOf timeout))) =
      .next (s.applyTimeout l timeout).driveAlerts := by
  have hreached : (s.withLinkDeadline l (some (s.lastFrameTick l + ticksOf timeout))).linkDeadlineReached l = true := by
    rw [State.linkDeadlineReached_withLinkDeadline hup]
    exact decide_eq_true h
  rw [State.applyTimeout_up hup, State.timeoutDeadline, if_neg ht, if_pos hreached]
  exact if_pos hreached

end

/-! ### SET_LANE (R162, R163, R30, R31) -/

theorem enabledOf_eq_none {b : Byte} (h : 1 < b.toNat) : enabledOf b = none := by
  have h0 : b ≠ 0 := by bv_omega
  have h1 : b ≠ 1 := by bv_omega
  rw [enabledOf, if_neg h0, if_neg h1]

/-- A lane above 3 or an enabled indication above 1 is malformed (R162). -/
theorem readSetLane_malformed {b0 b1 : Byte} {rest : List Byte} (h : 3 < b0.toNat ∨ 1 < b1.toNat) :
    readSetLane ([b0, b1] ++ rest) = none := by
  unfold readSetLane
  dsimp only
  split
  · next hx =>
    obtain h0 | h1 := h
    · exact absurd hx.2 (Nat.not_lt.mpr h0)
    · exact congrArg (Option.map _) (enabledOf_eq_none h1)
  · rfl

/-- The settings as SET_LANE stores them (R162). -/
def laneStored (on : Bool) (dwell timeout : BitVec 16) : LaneSettings :=
  { enabled := on, dwell := clamp 10 500 dwell, linkTimeout := clampTimeout timeout }

section
variable (s : State) (l : LaneNo)

/-- The lane after SET_LANE: the settings stored, a changed enabled state acted on, the link timeout applied (R163). -/
def State.laneSet (stored : LaneSettings) : State :=
  ((s.setSettings l stored).applyEnabled l (s.settings l).enabled stored.enabled).applyTimeout l stored.linkTimeout

theorem State.runSetLane_served (on : Bool) (dwell timeout : BitVec 16) :
    s.runSetLane ([BitVec.ofNat 8 l.val, if on then 1 else 0] ++ wire 2 dwell ++ wire 2 timeout) =
      (s.laneSet l (laneStored on dwell timeout),
        some (.lane (clamp 10 500 dwell != dwell || clampTimeout timeout != timeout) l (laneStored on dwell timeout))) := by
  rw [State.runSetLane, readSetLane_wire]
  rfl

theorem State.applyEnabled_withQueue (q : List StationEntry) (before after : Bool) :
    (s.withQueue q).applyEnabled l before after = (s.applyEnabled l before after).withQueue q := by
  unfold State.applyEnabled
  split
  · rfl
  · split
    · rfl
    · exact State.disableLane_withQueue s q l

theorem State.laneSet_withQueue (q : List StationEntry) (stored : LaneSettings) :
    (s.withQueue q).laneSet l stored = (s.laneSet l stored).withQueue q := by
  rw [State.laneSet, State.laneSet, ← State.applyTimeout_withQueue, ← State.applyEnabled_withQueue]
  rfl

theorem State.laneSet_station (stored : LaneSettings) : (s.laneSet l stored).station = s.station := by
  have htimeout (t : State) : (t.applyTimeout l stored.linkTimeout).station = t.station := by
    cases hlink : t.lanes[l].linkUp with
    | false => rw [State.applyTimeout_down hlink]
    | true =>
      rw [State.applyTimeout_up hlink]
      split
      · rw [State.linkDown_station, State.withLinkDeadline, State.onLane_station]
      · rw [State.withLinkDeadline, State.onLane_station]
  have henabled (t : State) (before : Bool) : (t.applyEnabled l before stored.enabled).station = t.station := by
    unfold State.applyEnabled
    split
    · rfl
    · split
      · rfl
      · exact State.disableLane_station t l
  rw [State.laneSet, htimeout, henabled]
  rfl

theorem State.applyEnabled_same {before after : Bool} (h : before = after) : s.applyEnabled l before after = s := if_pos h

theorem State.applyEnabled_on {before : Bool} (h : before ≠ true) :
    s.applyEnabled l before true = s.addServiceChanged l := if_neg h

theorem State.applyEnabled_off {before : Bool} (h : before ≠ false) :
    s.applyEnabled l before false = s.disableLane l := if_neg h

/-- A disable answers the waiting entries, reaches the contexts one after another and adds the notice (R30). -/
theorem State.disableLane_eq :
    s.disableLane l =
      ((((s.answerWaiting l (fun _ => true) (.code .laneOff)).reachEnd l 0 .laneReset).reachEnd l 1 .laneReset).reachEnd l 2
        .laneReset).addServiceChanged l := by
  rw [State.disableLane, State.resetContexts_eq]

end

/-- SET_LANE on a ready station. -/
theorem State.StationReady.setLane {s : State} (h : s.StationReady) (tag : Byte) (l : LaneNo) (on : Bool)
    (dwell timeout : BitVec 16) :
    exec (.setLane tag ([BitVec.ofNat 8 l.val, if on then 1 else 0] ++ wire 2 dwell ++ wire 2 timeout)) s =
      .next ((s.stationFrameArrives.laneSet l (laneStored on dwell timeout)).produce .station
        { kind := 0x11, tag := tag, serial := none
          reply := .lane (clamp 10 500 dwell != dwell || clampTimeout timeout != timeout) l
            (laneStored on dwell timeout) }).driveAlerts := by
  refine State.stationRequest_answered s h .setLane tag _ _ _ (fun q => ?_) ?_
  · rw [← State.laneSet_withQueue]
    exact State.runSetLane_served _ l on dwell timeout
  · rw [State.laneSet_station]
    exact h.queue_nil

/-- Settles O48: the request as executed, its malformed forms, and the link timeout by the link and the deadline. -/
theorem setLaneServed : Obligations.SetLaneServed := by
  refine ⟨fun s tag l on dwell timeout h => ?_, fun s tag b0 b1 rest h hlen hbad => ?_, fun s l timeout => ?_⟩
  · intro stored f set noticed
    have hset : f.setSettings l stored = set := rfl
    have hnoticed : ∀ u, noticed u = u.addServiceChanged l := fun _ => rfl
    clear_value set noticed
    intro acted
    have hacted : (f.setSettings l stored).applyEnabled l (f.settings l).enabled on = acted := by
      rw [hset]
      by_cases hsame : s.config.lanes[l].enabled = on
      · rw [State.applyEnabled_same (before := (f.settings l).enabled) _ _ hsame]
        exact (if_pos hsame).symm
      · cases on with
        | true =>
          rw [State.applyEnabled_on (before := (f.settings l).enabled) _ _ hsame, ← hnoticed]
          exact ((if_neg hsame).trans (if_pos rfl)).symm
        | false =>
          rw [State.applyEnabled_off (before := (f.settings l).enabled) _ _ hsame, State.disableLane_eq, ← hnoticed]
          exact ((if_neg hsame).trans (if_neg Bool.false_ne_true)).symm
    refine (h.setLane tag l on dwell timeout).trans ?_
    rw [State.laneSet]
    exact congrArg (fun t : State => Host.Outcome.next ((t.applyTimeout l stored.linkTimeout).produce _ _).driveAlerts) hacted
  · refine h.answered (k := .setLane) fun q => ?_
    show State.runSetLane _ _ = _
    rw [State.runSetLane, readSetLane_malformed hbad]
    rfl
  · intro withDeadline
    refine ⟨fun hdown => State.applyTimeout_down hdown timeout, fun hup ht => State.applyTimeout_off hup ht,
      fun hup ht => ?_⟩
    obtain ⟨hlow, hhigh⟩ := ticksOf_bounds timeout
    exact ⟨ticksOf timeout, hlow, hhigh, State.applyTimeout_ahead hup ht, State.linkExpiry_of_reached hup ht⟩

/-! ### SET_CONFIG (R164, R165, R82) -/

theorem modeOf_byte (m : ArbMode) : modeOf m.byte = some m := by
  cases m <;> rfl

theorem rateOf_byte (r : Rate) : rateOf r.byte = some r := by
  cases r <;> rfl

theorem modeOf_eq_none {b : Byte} (h : 2 < b.toNat) : modeOf b = none := by
  have h0 : b ≠ 0 := by bv_omega
  have h1 : b ≠ 1 := by bv_omega
  have h2 : b ≠ 2 := by bv_omega
  rw [modeOf, if_neg h0, if_neg h1, if_neg h2]

theorem rateOf_eq_none {b : Byte} (h : 3 < b.toNat) : rateOf b = none := by
  have h0 : b ≠ 0 := by bv_omega
  have h1 : b ≠ 1 := by bv_omega
  have h2 : b ≠ 2 := by bv_omega
  have h3 : b ≠ 3 := by bv_omega
  rw [rateOf, if_neg h0, if_neg h1, if_neg h2, if_neg h3]

theorem clamp_zero (hi v : BitVec 16) : clamp 0 hi v = if hi < v then hi else v :=
  if_neg (by bv_omega)

/-- The body of a SET_CONFIG, field by field (R202). -/
def configBody (gantry : BitVec 16) (home : Byte) (window holdover : BitVec 16) (mode : Byte) (mask : BitVec 24)
    (rate : Byte) : List Byte :=
  wire 2 gantry ++ [home] ++ wire 2 window ++ wire 2 holdover ++ [mode] ++ wire 3 mask ++ [rate]

/-- The items as SET_CONFIG stores them (R164). -/
def configStored (gantry : BitVec 16) (home : Byte) (window holdover : BitVec 16) (m : ArbMode) (mask : BitVec 24)
    (r : Rate) : ConfigItems :=
  { gantry := gantry, home := home
    window := if window < 1 then 1 else if 3600 < window then 3600 else window
    holdover := if 1440 < holdover then 1440 else holdover
    mode := m, mask := mask.setWidth 21, rate := r }

section
variable {gantry : BitVec 16} {home : Byte} {window holdover : BitVec 16} {mode : Byte} {mask : BitVec 24} {rate : Byte}

theorem readSetConfig_malformed (h : home = 255 ∨ 2 < mode.toNat ∨ 3 < rate.toNat) :
    readSetConfig (configBody gantry home window holdover mode mask rate) = none := by
  rw [configBody, readSetConfig_wire]
  obtain h | h | h := h
  · cases modeOf mode <;> cases rateOf rate <;> simp [h]
  · rw [modeOf_eq_none h]
  · rw [rateOf_eq_none h]
    cases modeOf mode <;> rfl

theorem readSetConfig_formed (h : home ≠ 255) (m : ArbMode) (r : Rate) :
    readSetConfig (configBody gantry home window holdover m.byte mask r.byte) =
      some
        { items := configStored gantry home window holdover m mask r
          clamped := (configStored gantry home window holdover m mask r).window != window
            || (configStored gantry home window holdover m mask r).holdover != holdover } := by
  rw [configBody, readSetConfig_wire, modeOf_byte, rateOf_byte]
  dsimp only
  rw [if_pos h, clamp_zero]
  rfl

end

/-- The module after SET_CONFIG: the items stored, and a changed home issuer followed (R165, R82). -/
def State.configSet (s : State) (items : ConfigItems) : State :=
  if items.home = s.config.items.home then { s with config := { s.config with items := items } }
  else State.reformSigning { s with config := { s.config with items := items } }

theorem State.configSet_withQueue (s : State) (q : List StationEntry) (items : ConfigItems) :
    (s.withQueue q).configSet items = (s.configSet items).withQueue q := by
  by_cases hhome : items.home = s.config.items.home
  · rw [State.configSet, State.configSet, if_pos hhome]
    exact if_pos hhome
  · rw [State.configSet, State.configSet, if_neg hhome, ← State.reformSigning_withQueue]
    exact if_neg hhome

theorem State.configSet_station (s : State) (items : ConfigItems) : (s.configSet items).station = s.station := by
  unfold State.configSet
  split
  · rfl
  · exact State.reformSigning_station _

/-- Settles O49: the body read, the items stored. -/
theorem setConfigServed : Obligations.SetConfigServed := by
  intro s tag gantry home window holdover mode mask rate h f body
  refine ⟨fun hbad => h.answered (k := .setConfig) fun q => ?_, fun m r hhome hm hr => ?_⟩
  · show State.runSetConfig _ (configBody gantry home window holdover mode mask rate) = _
    rw [State.runSetConfig, readSetConfig_malformed hbad]
    rfl
  · subst hm hr
    intro items set
    refine State.stationRequest_answered s h .setConfig tag body (f.configSet items) _ (fun q => ?_) ?_
    · rw [← State.configSet_withQueue]
      show State.runSetConfig _ (configBody gantry home window holdover m.byte mask r.byte) = _
      rw [State.runSetConfig, readSetConfig_formed hhome]
      rfl
    · rw [State.configSet_station]
      exact h.queue_nil

end Sys2Proof.Machine
end

section
/-! Proofs for the station controller: SAVE_CONFIG, RESEED and RESET, and the warm reset (R166, R167, R169, R177, R189). -/

namespace Sys2Proof.Machine

/-! ### The requests at their execution (R166, R167, R169) -/

/-- A RESEED value is refused where it stands at or below a known stored boot count (R167 check 4). -/
theorem not_aboveKnown_iff {known : Option (BitVec 32)} {v : BitVec 32} :
    ¬ aboveKnown known v = true ↔ ∃ k, known = some k ∧ v ≤ k := by
  cases known with
  | none => simp [aboveKnown]
  | some k => simp [aboveKnown, BitVec.not_lt]

/-- What refuses a RESEED (R167). -/
def State.ReseedRefused (s : State) (v : BitVec 32) : Prop :=
  s.service = .serving ∨ v = 0 ∨ v = 0xFFFFFFFF ∨ ∃ k, s.station.knownBoot = some k ∧ v ≤ k

theorem State.reseedRefused_iff {s : State} {v : BitVec 32} :
    s.ReseedRefused v ↔ s.service = .serving ∨ v = 0 ∨ v = lastCount ∨ ¬ aboveKnown s.station.knownBoot v := by
  rw [State.ReseedRefused, not_aboveKnown_iff]
  rfl

theorem State.runReseed_refused {s : State} {v : BitVec 32} (h : s.ReseedRefused v) :
    s.runReseed (wire 4 v) = answers s .valueRange := by
  rw [State.runReseed, readReseed_wire]
  exact if_pos (State.reseedRefused_iff.mp h)

theorem State.runReseed_taken {s : State} {v : BitVec 32} (h : ¬ s.ReseedRefused v) :
    s.runReseed (wire 4 v) = (s.requestStore (.writeBoot v), none) := by
  rw [State.runReseed, readReseed_wire]
  exact if_neg (State.reseedRefused_iff.not.mp h)

/-! ### The warm reset (R7, R37, R123, R152, R177, R189) -/

/-- The answer of a RESET sent, the warm reset begins (R169). -/
theorem exec_resetTransmitted {s : State} {a : Answer} {rest : List Answer} (hq : s.station.port.answers = a :: rest)
    (hk : a.kind = 0x15) (hr : a.reply = .code .ok) :
    exec (.answerTransmitted .station) s = .next (s.answerSent .station a).warmReset.driveAlerts := by
  have hreset : a.beginsReset .station = true := by
    rw [Answer.beginsReset, hk, hr]
    rfl
  have hport : (s.portOf .station).answers = a :: rest := hq
  rw [exec, execAnswerTransmitted, hport]
  dsimp only
  rw [if_pos hreset]

/-- The warm reset puts the station port at rest, whatever answers still stood in it (R187). -/
theorem State.warmReset_answerSent (s : State) (a : Answer) : (s.answerSent .station a).warmReset = s.warmReset := rfl

/-- Settles O50: each request as executed, and the warm reset field by field. -/
theorem saveReseedAndReset : Obligations.SaveReseedAndReset := by
  refine ⟨fun s tag h => ?_, fun s tag h => ?_, fun s a rest hq hk hr => ?_⟩
  · intro f executing
    refine ⟨State.stationRequest_executing s h .saveConfig tag [] _ rfl, fun v => ?_⟩
    intro refused
    refine ⟨fun hv => h.answered (k := .reseed) fun q => ?_, fun hv => ?_⟩
    · exact State.runReseed_refused (s := s.stationFrameArrives.withQueue q) hv
    · exact State.stationRequest_executing s h .reseed tag (wire 4 v) _
        (State.runReseed_taken (s := executing .reseed (wire 4 v)) hv)
  · exact State.stationRequest_executing s h .reset tag [] _ rfl
  · rw [exec_resetTransmitted hq hk hr, State.warmReset_answerSent]
    rfl

end Sys2Proof.Machine
end

section
/-! Proofs for the store and the starts (Chapter 9): what a store request does to the pending write list and to the action in
progress, and the content a write takes. -/

namespace Sys2Proof.Machine

/-! ### Store requests (R172, R173) -/

/-- A request for a record already listed replaces that record's entry in place. -/
theorem State.requestStore_listed {s : State} {r : StoreReq} (h : ∃ q ∈ s.store.pending, q.sameRecord r = true) :
    s.requestStore r =
      { s with store := { s.store with pending := s.store.pending.map fun q => if q.sameRecord r then r else q } } :=
  if_pos (List.any_eq_true.mpr h)

/-- On an idle store the action begins at once. -/
theorem State.requestStore_idle {s : State} {r : StoreReq} (ha : s.store.action = none) (hp : s.store.pending = []) :
    s.requestStore r = s.beginAction r := by
  rw [State.requestStore, if_neg (by simp [hp]), if_pos ⟨ha, hp⟩]

/-- A request for a record not listed is appended while the store is at work. -/
theorem State.requestStore_busy {s : State} {r : StoreReq} (h : ¬ ∃ q ∈ s.store.pending, q.sameRecord r = true)
    (hbusy : s.store.action ≠ none ∨ s.store.pending ≠ []) :
    s.requestStore r = { s with store := { s.store with pending := s.store.pending ++ [r] } } := by
  rw [State.requestStore, if_neg (fun hx => h (List.any_eq_true.mp hx)), if_neg (not_and_or.mpr hbusy)]

/-- The content of a slot is the content its write takes (R173). -/
theorem State.actionOf_writeSlot {s : State} {n : SlotNo} {r : SlotRecord} (h : s.slots[n].record = some r) :
    s.actionOf (.writeSlot n) = .writeSlot n r := by
  simp only [State.actionOf, h]

/-- Settles O57, by the three cases of a request; the content of a write is read off the state of its slot. -/
theorem storeRequestsQueued : Obligations.StoreRequestsQueued := by
  refine ⟨fun s r => ⟨State.requestStore_listed, fun _ => State.requestStore_idle, State.requestStore_busy⟩,
    fun s n d st h => State.actionOf_writeSlot ?_, fun _ _ => rfl, fun _ _ => rfl, fun _ _ => rfl⟩
  obtain hb | ⟨l, hb, ⟨rfl, rfl⟩ | ⟨rfl, rfl⟩⟩ := h
  · rw [Slot.record, hb]
    cases st <;> rfl
  · rw [Slot.record, hb]
  · rw [Slot.record, hb]

end Sys2Proof.Machine
end

section
/-! Proofs for the store and the starts (Chapter 9): START_UP loads the configuration image, the slot records and the boot record. -/

namespace Sys2Proof.Machine

/-! ### The configuration (R90, R149, R178, R183, R190) -/

/-- The trim handed over at the loading, and the period start raised before it (R142, R149). -/
theorem Clock.configured_eq (k : Clock) (trim : BitVec 8) :
    k.configured trim =
      if k.trimFromConfig then
        { k with
          trimInUse := if k.periodStarted then k.trimSet else k.trimInUse
          periodStarted := false, trimSet := trim, trimFromConfig := false }
      else k := by
  rw [Clock.configured, Clock.takePeriodStart_eq]

/-- The image that START_UP takes. -/
theorem Store.imageOrDefaults_intact {st : Store} {i : Image} (h : st.image = .intact i) : st.imageOrDefaults = i := by
  rw [Store.imageOrDefaults, h]

theorem Store.imageOrDefaults_not_intact {st : Store} (h : ∀ i, st.image ≠ .intact i) :
    st.imageOrDefaults = { config := WorkingConfig.defaults, routes := Vector.replicate 32 Route.cleared, trim := 0 } := by
  unfold Store.imageOrDefaults
  split
  · next i hi => exact absurd hi (h i)
  · rfl

theorem State.loadConfig_lane (s : State) (l : LaneNo) :
    s.loadConfig.lanes[l] = s.lanes[l].configured s.store.imageOrDefaults.config.lanes[l]
      (s.store.imageOrDefaults.config.items.rate != s.laneRate) s.now := by
  unfold State.loadConfig
  dsimp only
  split <;> simp

/-- A lane when the configuration is loaded: its receiver by the rate, its link deadline by its timeout (R183, R190). -/
theorem Lane.configured_spec (ln : Lane) (set : LaneSettings) (old new : Rate) (now : Nat) :
    let after := ln.configured set (new != old) now
    after = { ln with
        port := { ln.port with rx := if new = old then ln.port.rx else .hunt }
        linkDeadline := after.linkDeadline }
      ∧ (set.linkTimeout = 0 → after.linkDeadline = none)
      ∧ (set.linkTimeout ≠ 0 → ∃ d, after.linkDeadline = some (now + d)
          ∧ set.linkTimeout.toNat * 1024 ≤ d * 1000 ∧ d * 1000 < set.linkTimeout.toNat * 1024 + 1000) := by
  refine ⟨?_, fun h => if_pos h, fun h => ⟨ticksOf set.linkTimeout, if_neg h, ticksOf_bounds _⟩⟩
  by_cases hrate : new = old <;> simp [Lane.configured, hrate]

/-- What the loading of the configuration changes, the flags by the condition of the image. -/
theorem State.loadConfig_eq (s : State) :
    s.loadConfig =
      { s with
        config := s.store.imageOrDefaults.config
        routes := s.store.imageOrDefaults.routes
        laneRate := s.store.imageOrDefaults.config.items.rate
        loadTick := s.clock.mono
        clock := s.clock.configured s.store.imageOrDefaults.trim
        lanes := s.loadConfig.lanes
        flags := if s.store.image.isIntact then s.flags else s.flags ||| 4#21 } := by
  unfold State.loadConfig
  dsimp only
  split <;> rfl

/-! ### The slot records (R65, R179) -/

theorem State.requestStore_latch (s : State) (f : Flag) (r : StoreReq) :
    (s.latch f).requestStore r = (s.requestStore r).latch f := by
  unfold State.requestStore State.beginAction State.latch
  dsimp only
  split
  · rfl
  · split
    · cases r <;> rfl
    · rfl

/-- SLOT_LOST latched where a failing record is among those read. -/
def State.latchLost (s : State) (lost : Bool) : State := if lost then s.latch .slotLost else s

theorem State.requestStore_latchLost (s : State) (lost : Bool) (r : StoreReq) :
    (s.latchLost lost).requestStore r = (s.requestStore r).latchLost lost := by
  cases lost with
  | false => rfl
  | true => exact s.requestStore_latch _ r

theorem State.latchLost_latchLost (s : State) (a b : Bool) : (s.latchLost a).latchLost b = s.latchLost (a || b) := by
  cases a with
  | false => rfl
  | true =>
    cases b with
    | false => rfl
    | true => simp [State.latchLost, State.latch, BitVec.or_assoc]

theorem State.latchLost_store (s : State) (lost : Bool) : (s.latchLost lost).store = s.store := by
  cases lost <;> rfl

theorem State.requestStore_records (s : State) (r : StoreReq) : (s.requestStore r).store.slots = s.store.slots := by
  unfold State.requestStore
  split
  · rfl
  · split <;> rfl

theorem State.loadSlotRecord_eq (s : State) (n : SlotNo) :
    s.loadSlotRecord n =
      if eraseAtStart s.store.slots[n] then (s.latchLost (s.store.slots[n] == .failing)).requestStore (.eraseSlot n)
      else s.latchLost (s.store.slots[n] == .failing) := rfl

/-- The records read one after another: the flag, and the erases in slot order. -/
theorem State.foldl_loadSlotRecord (ns : List SlotNo) {s : State} {recs : Vector (Rec SlotRecord) 24}
    (h : s.store.slots = recs) :
    ns.foldl (fun s n => s.loadSlotRecord n) s =
      (ns.filter fun n => eraseAtStart recs[n]).foldl (fun (u : State) n => u.requestStore (.eraseSlot n))
        (s.latchLost (ns.any fun n => recs[n] == .failing)) := by
  induction ns generalizing s with
  | nil => rfl
  | cons n ns ih =>
    have hlatch : (s.latchLost (recs[n] == .failing)).store.slots = recs := by rw [State.latchLost_store, h]
    rw [List.foldl_cons, List.any_cons, List.filter_cons, s.loadSlotRecord_eq]
    simp only [h]
    split
    · rw [ih ((State.requestStore_records _ _).trans hlatch), ← State.requestStore_latchLost, State.latchLost_latchLost,
        List.foldl_cons]
    · rw [ih hlatch, State.latchLost_latchLost]

/-- The slot table filled from the records, SLOT_LOST and the erases (R179). -/
theorem State.loadSlots_eq (s : State) :
    s.loadSlots =
      ((List.finRange 24).filter fun n => eraseAtStart s.store.slots[n]).foldl
        (fun (u : State) n => u.requestStore (.eraseSlot n))
        { s with
          slots := Vector.ofFn fun n : SlotNo => slotFrom s.store.slots[n]
          flags := if ∃ n : SlotNo, s.store.slots[n] = .failing then s.flags ||| 2#21 else s.flags } := by
  rw [State.loadSlots, State.foldl_loadSlotRecord _ rfl]
  congr 1
  unfold State.latchLost
  simp only [List.any_eq_true, List.mem_finRange, true_and, beq_iff_eq]
  split <;> rfl

/-- A slot from its record, with the states a record holds written out. -/
theorem slotFrom_eq (x : Rec SlotRecord) :
    slotFrom x =
      { refs := 0
        body :=
          match x with
          | .intact { data := d, st := .staged } => .held .staged d
          | .intact { data := d, st := .active } => .held .active d
          | .intact { data := d, st := .expired } => .held .expired d
          | .intact { data := d, st := .withdrawn } => .held .erasing d
          | _ => .empty } := by
  obtain _ | ⟨d, st⟩ | _ := x
  · rfl
  · cases st <;> rfl
  · rfl

/-! ### The boot record (R110, R181) -/

theorem State.loadBoot_intact {s : State} {b : BitVec 32} (h : s.store.boot = .intact b) (hb : b ≠ 0xFFFFFFFF) :
    s.loadBoot = State.requestStore
      { s with
        station := { s.station with knownBoot := some b }
        kfu := { s.kfu with boot := some (b + 1) } } (.writeBoot (b + 1)) := by
  rw [State.loadBoot, h]
  exact if_neg hb

theorem State.loadBoot_last {s : State} (h : s.store.boot = .intact 0xFFFFFFFF) :
    s.loadBoot =
      { s with
        service := .seedWait
        station := { s.station with knownBoot := some 0xFFFFFFFF }
        kfu := { s.kfu with boot := some 0xFFFFFFFF } } := by
  rw [State.loadBoot, h]
  rfl

theorem State.loadBoot_lost {s : State} (h : ∀ b, s.store.boot ≠ .intact b) :
    s.loadBoot =
      { s with
        service := .seedWait
        station := { s.station with knownBoot := none }
        kfu := { s.kfu with boot := none }
        flags := s.flags ||| 8#21 } := by
  unfold State.loadBoot
  split
  · next b hb => exact absurd hb (h b)
  · rfl

/-! ### The start -/

theorem State.startReady_iff_idle {s : State} :
    s.startReady = true ↔
      s.power = true ∧ s.service = .starting ∧ s.loaded = false ∧ s.store.action = none ∧ s.store.pending = [] := by
  rw [State.startReady_iff, Store.busy, Bool.or_eq_false_iff, Option.isSome_eq_false_iff, Option.isNone_iff_eq_none,
    Bool.not_eq_false', List.isEmpty_iff]

/-- START_UP at its point of the start. -/
theorem exec_startUp {s : State} (h : s.startReady = true) :
    exec .startUp s = .next (State.loadBoot { s.loadConfig.startSlots with loaded := true }).driveAlerts := if_pos h

/-- What START_UP has loaded before it reads the boot record. -/
theorem State.startSlots_loaded (s : State) :
    ({ s.startSlots with loaded := true } : State) =
      { s.loadSlots.evaluate with signing := s.loadSlots.evaluate.formSigning, loaded := true } := by
  unfold State.startSlots
  generalize s.loadSlots.evaluate = t
  rfl

/-- Settles O60: the configuration, the slot records and the boot record, each by its own equation. -/
theorem startUpLoads : Obligations.StartUpLoads := by
  refine ⟨fun s hpower hservice hloaded haction hpending => ?_, fun s hno => ?_⟩
  · have hrun := exec_startUp (State.startReady_iff_idle.mpr ⟨hpower, hservice, hloaded, haction, hpending⟩)
    have hboot : s.loadConfig.loadSlots.evaluate.store.boot = s.store.boot := by
      rw [State.evaluate_boot, State.loadSlots, State.foldl_loadSlotRecord_boot, State.loadConfig_store]
    rw [State.startSlots_loaded] at hrun
    refine ⟨s.store.imageOrDefaults, s.loadConfig, s.loadConfig.loadSlots, fun j => Store.imageOrDefaults_intact,
      Store.imageOrDefaults_not_intact, ?_, fun l => ?_, ?_, ?_⟩
    · rw [← Clock.configured_eq]
      refine s.loadConfig_eq.trans ?_
      cases s.store.image <;> rfl
    · rw [s.loadConfig_lane l]
      exact Lane.configured_spec ..
    · refine s.loadConfig.loadSlots_eq.trans ?_
      rw [s.loadConfig_store]
      simp only [slotFrom_eq]
      rfl
    · generalize s.loadConfig.loadSlots.evaluate = u at hboot hrun ⊢
      intro ready
      replace hrun : exec .startUp s = .next ready.loadBoot.driveAlerts := hrun
      replace hboot : ready.store.boot = s.store.boot := hboot
      clear_value ready
      rw [← hboot, hrun]
      refine ⟨fun b hb hlast => ?_, fun hb => ?_, fun hb => ?_⟩
      · rw [State.loadBoot_intact hb hlast]
      · rw [State.loadBoot_last hb]
      · rw [State.loadBoot_lost hb]
  · refine if_neg fun hready => ?_
    obtain ⟨hpower, hservice, hloaded, haction, hpending⟩ := State.startReady_iff_idle.mp hready
    simp [hpower, hservice, hloaded, haction, hpending] at hno

end Sys2Proof.Machine
end

section
/-! Proofs for the store and the starts (Chapter 9): how a store action ends, what its end does, and the action that begins next. -/

namespace Sys2Proof.Machine

/-! ### The commands (R173, R174) -/

theorem exec_storeActionComplete {s : State} {a : StoreAct} (h : s.store.action = some a) :
    exec .storeActionComplete s =
      .next ((State.actionEnds { s with store := (s.store.applied a).idle } a true).beginNext).driveAlerts := by
  simp only [exec, execStoreActionComplete, h]

/-- In its second attempt a failing action latches STORE_FAULT, and only its record is other than before (R174). -/
theorem exec_storeActionFailed {s : State} {a : StoreAct} (h : s.store.action = some a) (h2 : s.store.second = true)
    (left : AttemptLeft) :
    exec (.storeActionFailed left) s =
      .next ((State.actionEnds
        { s with
          store :=
            { s.store with
              action := none, second := false, slots := (s.store.left a left).slots
              image := (s.store.left a left).image, boot := (s.store.left a left).boot }
          flags := s.flags ||| 128#21 } a false).beginNext).driveAlerts := by
  rw [← Store.left_idle]
  simp only [exec, execStoreActionFailed, h, h2]
  rfl

theorem exec_storeActionFailed_first {s : State} (h : s.store.action = none ∨ s.store.second = false) (left : AttemptLeft) :
    exec (.storeActionFailed left) s = .next s := by
  obtain h | h := h
  · simp only [exec, execStoreActionFailed, h]
  · cases ha : s.store.action <;> simp only [exec, execStoreActionFailed, ha, h]

theorem exec_storeVerifyRetry {s : State} (h : s.store.action ≠ none) (h2 : s.store.second = false) :
    exec .storeVerifyRetry s = .next { s with store := { s.store with second := true } } :=
  if_pos (by simp [Option.isSome_iff_ne_none.mpr h, h2])

theorem exec_storeVerifyRetry_same {s : State} (h : s.store.action = none ∨ s.store.second = true) :
    exec .storeVerifyRetry s = .next s :=
  if_neg (by obtain h | h := h <;> simp [h])

/-! ### The consequence (R70, R71, R86, R113, R166, R168, R175, R181) -/

section
variable {s : State} {n : SlotNo} {ok : Bool}

/-- The table of R175 is in force but while a warm reset drains the list (R177). -/
def State.Draining (s : State) : Prop := s.service = .starting ∧ s.loaded = false

theorem State.actionEnds_draining (h : s.Draining) (a : StoreAct) : s.actionEnds a ok = s :=
  if_pos ⟨h.1, by simp [h.2]⟩

theorem State.actionEnds_live (h : ¬ s.Draining) (a : StoreAct) :
    s.actionEnds a ok =
      match a with
      | .writeSlot n _ => s.slotWriteEnds n ok
      | .eraseSlot n => s.slotEraseEnds n ok
      | .writeImage _ => s.imageWriteEnds ok
      | .writeBoot b => s.bootWriteEnds b ok := by
  refine (if_neg (by simpa [State.Draining] using h)).trans ?_
  cases a <;> rfl

/-- The end of a slot's first write (R70, R71). -/
theorem State.firstWriteEnds (h : ¬ s.Draining) {stored : LoadState} {d : KeyData}
    (hb : s.slots[n].body = .held (.loading stored) d) {r : SlotRecord} :
    s.actionEnds (.writeSlot n r) ok = if ok then s.firstWriteDone n stored d else s.firstWriteFailed n := by
  rw [State.actionEnds_live h]
  dsimp only
  rw [State.slotWriteEnds, hb]

theorem State.laterWriteEnds (h : ¬ s.Draining) (hb : ∀ stored d, s.slots[n].body ≠ .held (.loading stored) d)
    {r : SlotRecord} : s.actionEnds (.writeSlot n r) ok = s := by
  rw [State.actionEnds_live h]
  dsimp only [State.slotWriteEnds]
  split
  · next hl => exact absurd hl (hb _ _)
  · rfl

/-- The end of the erase that empties an ERASING slot (R86). -/
theorem State.erasingEnds (h : ¬ s.Draining) {d : KeyData} (hb : s.slots[n].body = .held .erasing d) :
    s.actionEnds (.eraseSlot n) ok = if ok then s.onSlot n (fun sl => { sl with body := .empty }) else s := by
  rw [State.actionEnds_live h]
  dsimp only
  rw [State.slotEraseEnds, hb]

theorem State.otherEraseEnds (h : ¬ s.Draining) (hb : ∀ d, s.slots[n].body ≠ .held .erasing d) :
    s.actionEnds (.eraseSlot n) ok = s := by
  rw [State.actionEnds_live h]
  dsimp only [State.slotEraseEnds]
  split
  · next he => exact absurd he (hb _)
  · rfl

/-- The end of the image write of a SAVE_CONFIG (R166). -/
theorem State.saveEnds (h : ¬ s.Draining) (hx : s.station.isExecuting .saveConfig = true) {i : Image} :
    s.actionEnds (.writeImage i) ok = s.finishExecuting (.code (if ok then .ok else .storeFailed)) :=
  (State.actionEnds_live h _).trans (if_pos hx)

theorem State.enterServing_eq (s : State) :
    s.enterServing =
      { s with
        service := .serving
        lanes := Vector.ofFn fun l : LaneNo =>
          { s.lanes[l] with notices := { s.lanes[l].notices with serviceChanged := true } } } :=
  State.serviceChangedAll_eq _

theorem State.startBootWriteEnds (h : ¬ s.Draining) (hs : s.service = .starting) {b : BitVec 32} :
    s.actionEnds (.writeBoot b) ok = if ok then (s.knowBoot b true).enterServing else { s with service := .seedWait } := by
  rw [State.actionEnds_live h]
  dsimp only
  rw [State.bootWriteEnds_eq, hs]
  cases ok <;> rfl

/-- The end of the boot record write of an exhaustion (R113). -/
theorem State.exhaustionWriteEnds (h : ¬ s.Draining) (hs : s.service = .serving) {b : BitVec 32} :
    s.actionEnds (.writeBoot b) ok =
      if ok then (s.knowBoot b true).clearHold.arbitrate else s.clearHold.leaveService := by
  rw [State.actionEnds_live h]
  dsimp only
  rw [State.bootWriteEnds_eq, hs]
  cases ok <;> simp [State.exhaustionBootEnds, State.knowBoot]

/-- The end of the boot record write of a RESEED (R168). -/
theorem State.reseedWriteEnds (h : ¬ s.Draining) (hs : s.service = .seedWait) (hx : s.station.isExecuting .reseed = true)
    {b : BitVec 32} :
    s.actionEnds (.writeBoot b) ok =
      if ok then
        (State.enterServing { s.knowBoot b true with kfu := { s.kfu with boot := some b, sequence := 0 } }).finishExecuting
          (.code .ok)
      else s.finishExecuting (.code .storeFailed) := by
  rw [State.actionEnds_live h]
  dsimp only
  rw [State.bootWriteEnds_eq, hs]
  cases ok <;> exact if_pos hx

end

/-! ### The next action and the next request (R154, R156, R173) -/

theorem State.beginNext_eq (s : State) :
    s.beginNext =
      match s.store.action, s.store.pending with
      | none, r :: rest =>
        { s with store := { s.store with action := some (s.actionOf r), second := false, pending := rest } }
      | _, _ => s := by
  unfold State.beginNext
  cases s.store.action <;> cases s.store.pending <;> rfl

theorem Store.left_eq (st : Store) (a : StoreAct) (x : AttemptLeft) :
    st.left a x =
      match x, a with
      | .former, _ => st
      | .new, .writeSlot n r => { st with slots := st.slots.set n (.intact r) }
      | .new, .eraseSlot n => { st with slots := st.slots.set n .blank }
      | .new, .writeImage i => { st with image := .intact i }
      | .new, .writeBoot b => { st with boot := .intact b }
      | .failing, .writeSlot n _ => { st with slots := st.slots.set n .failing }
      | .failing, .eraseSlot n => { st with slots := st.slots.set n .failing }
      | .failing, .writeImage _ => { st with image := .failing }
      | .failing, .writeBoot _ => { st with boot := .failing } := by
  cases x <;> cases a <;> rfl

/-- The request answered leaves, and the queue behind it runs (R154). -/
theorem State.finishExecuting_cons {s : State} {e : StationEntry} {rest : List StationEntry}
    (h : s.station.queue = e :: rest) (r : Reply) :
    s.finishExecuting r =
      ((s.withQueue rest).produce .station { kind := e.kind.code, tag := e.tag, reply := r, serial := none }).runStation := by
  simp only [State.finishExecuting, State.answerExecuting, h, State.stationReply]

/-- A request that waited becomes EXECUTING as one that arrives at an empty queue does (R154, R156). -/
theorem State.runStation_single {s : State} {e : StationEntry} (hs : s.service ≠ .starting) (hq : s.station.queue = [e])
    (ha : e.answered = false) : s.runStation = (s.withQueue []).stationRequest e.kind e.tag e.body := by
  obtain ⟨kind, tag, body, executing, answered⟩ := e
  cases ha
  have hno : (s.withQueue []).service ≠ .starting := hs
  rw [State.stationRequest, if_neg hno, if_neg (by simp [stationQueueSize])]
  simp only [State.withQueue_station, List.nil_append, if_true, State.runStation, hq, List.length_singleton,
    State.runStationFor]
  rfl

/-- Beside the store and the flags the state is as before. -/
def State.Recorded (s t : State) : Prop := ∃ st flags, t = { s with store := st, flags := flags }

section
variable {s t : State} (h : s.Recorded t)
include h

theorem State.Recorded.live (hlive : ¬ s.Draining) : ¬ t.Draining := by
  obtain ⟨st, flags, rfl⟩ := h
  exact hlive

theorem State.Recorded.service : t.service = s.service := by
  obtain ⟨st, flags, rfl⟩ := h
  rfl

theorem State.Recorded.slots : t.slots = s.slots := by
  obtain ⟨st, flags, rfl⟩ := h
  rfl

theorem State.Recorded.station : t.station = s.station := by
  obtain ⟨st, flags, rfl⟩ := h
  rfl

end

section
variable {s : State} {a : StoreAct} (h : s.store.action = some a) {f : State → State}
include h

/-- A completed action does what `f` says of the state with the record written. -/
theorem State.completes_as {st : Store} (hst : (s.store.applied a).idle = st)
    (hf : ∀ t, s.Recorded t → t.actionEnds a true = f t) :
    exec .storeActionComplete s = .next ((f { s with store := st }).beginNext).driveAlerts := by
  rw [exec_storeActionComplete h, hst, hf _ ⟨st, s.flags, rfl⟩]

/-- A failed action does what `f` says of the state with the record as the attempt left it and STORE_FAULT latched. -/
theorem State.fails_as (hf : ∀ t, s.Recorded t → t.actionEnds a false = f t) (h2 : s.store.second = true)
    (left : AttemptLeft) :
    exec (.storeActionFailed left) s =
      .next ((f { s with
        store :=
          { s.store with
            action := none, second := false, slots := (s.store.left a left).slots
            image := (s.store.left a left).image, boot := (s.store.left a left).boot }
        flags := s.flags ||| 128#21 }).beginNext).driveAlerts := by
  rw [exec_storeActionFailed h h2, hf _ ⟨_, _, rfl⟩]

end

/-- Settles O58: the commands by the action in progress and its attempt, the consequence by the record written. -/
theorem storeActionsEnd : Obligations.StoreActionsEnd := by
  refine ⟨State.beginNext_eq, Store.left_eq, fun s h => ?_, fun s h => ?_, fun s r e rest h => State.finishExecuting_cons h r,
    fun s e hs hq ha => State.runStation_single hs hq ha, fun s a h hs hl => ?_, fun s a h hlive => ?_⟩
  · exact ⟨by simp only [exec, execStoreActionComplete, h], exec_storeVerifyRetry_same (.inl h),
      exec_storeActionFailed_first (.inl h)⟩
  · exact ⟨fun h2 => ⟨exec_storeVerifyRetry h h2, exec_storeActionFailed_first (.inr h2)⟩,
      fun h2 => exec_storeVerifyRetry_same (.inr h2)⟩
  · have hdrain (st : Store) (flags : BitVec 21) : State.Draining { s with store := st, flags := flags } := ⟨hs, hl⟩
    refine ⟨?_, fun h2 left => ?_⟩
    · rw [exec_storeActionComplete h, State.actionEnds_draining (hdrain _ _)]
      rfl
    · rw [exec_storeActionFailed h h2, ← Store.left_idle, State.actionEnds_draining (hdrain _ _)]
      rfl
  · intro wrote completed failed
    have hcompleted {st : Store} {f : State → State} (hst : (s.store.applied a).idle = st)
        (hf : ∀ t, s.Recorded t → t.actionEnds a true = f t) : completed st f := State.completes_as h hst hf
    have hfailed {f : State → State} (hf : ∀ t, s.Recorded t → t.actionEnds a false = f t) : failed f := State.fails_as h hf
    clear_value completed failed
    refine ⟨fun n r ha => ?_, fun n ha => ?_, fun i ha hx => ?_, fun b ha => ?_⟩ <;> subst ha
    · refine ⟨fun l d hb => ⟨hcompleted rfl fun t ht => ?_, hfailed fun t ht => ?_⟩,
        fun hb => ⟨hcompleted rfl fun t ht => ?_, hfailed fun t ht => ?_⟩⟩
      · rw [State.firstWriteEnds (ht.live hlive) (ht.slots ▸ hb)]
        cases l <;> rfl
      · exact State.firstWriteEnds (ht.live hlive) (ht.slots ▸ hb)
      · exact State.laterWriteEnds (ht.live hlive) (ht.slots ▸ hb)
      · exact State.laterWriteEnds (ht.live hlive) (ht.slots ▸ hb)
    · exact ⟨fun d hb => ⟨hcompleted rfl fun t ht => State.erasingEnds (ht.live hlive) (ht.slots ▸ hb),
          hfailed fun t ht => State.erasingEnds (ht.live hlive) (ht.slots ▸ hb)⟩,
        fun hb => ⟨hcompleted rfl fun t ht => State.otherEraseEnds (ht.live hlive) (ht.slots ▸ hb),
          hfailed fun t ht => State.otherEraseEnds (ht.live hlive) (ht.slots ▸ hb)⟩⟩
    · exact ⟨hcompleted rfl fun t ht => State.saveEnds (ht.live hlive) (ht.station ▸ hx),
        hfailed fun t ht => State.saveEnds (ht.live hlive) (ht.station ▸ hx)⟩
    · refine ⟨fun hs => ⟨hcompleted rfl fun t ht => ?_, hfailed fun t ht => ?_⟩,
        fun hs => ⟨hcompleted rfl fun t ht => ?_, hfailed fun t ht => ?_⟩,
        fun hs hx => ⟨hcompleted rfl fun t ht => ?_, hfailed fun t ht => ?_⟩⟩
      · exact (State.startBootWriteEnds (ht.live hlive) (ht.service.trans hs)).trans (State.enterServing_eq _)
      · exact State.startBootWriteEnds (ht.live hlive) (ht.service.trans hs)
      · exact State.exhaustionWriteEnds (ht.live hlive) (ht.service.trans hs)
      · exact State.exhaustionWriteEnds (ht.live hlive) (ht.service.trans hs)
      · refine (State.reseedWriteEnds (ht.live hlive) (ht.service.trans hs) (ht.station ▸ hx)).trans ?_
        exact congrArg (State.finishExecuting · (.code .ok)) (State.enterServing_eq _)
      · exact State.reseedWriteEnds (ht.live hlive) (ht.service.trans hs) (ht.station ▸ hx)

end Sys2Proof.Machine
end

section
/-! Proofs for the store and the starts (Chapter 9): the pending write list read record by record. A store request leaves one entry
a record, and lets nothing wait on an idle store. -/

namespace Sys2Proof.Machine

/-! ### The records the list names -/

/-- The record a request names: a slot's, the configuration image (`false`) or the boot record (`true`). -/
def StoreReq.record : StoreReq → SlotNo ⊕ Bool
  | .writeSlot n => .inl n
  | .eraseSlot n => .inl n
  | .writeImage _ => .inr false
  | .writeBoot _ => .inr true

theorem StoreReq.sameRecord_iff (a b : StoreReq) : a.sameRecord b = true ↔ a.record = b.record := by
  cases a <;> cases b <;> simp [StoreReq.sameRecord, StoreReq.record]

/-- The records of the pending write list, in its order. -/
def Store.listed (st : Store) : List (SlotNo ⊕ Bool) := st.pending.map StoreReq.record

theorem Store.listed_eq_nil (st : Store) : st.listed = [] ↔ st.pending = [] := List.map_eq_nil_iff

theorem Store.mem_listed (st : Store) (q : StoreReq) : q.record ∈ st.listed ↔ ∃ p ∈ st.pending, p.sameRecord q = true := by
  simp only [Store.listed, List.mem_map, StoreReq.sameRecord_iff]

/-- Nothing waits while no action is in progress (R173). -/
def Store.NoneWaits (st : Store) : Prop := st.action = none → st.listed = []

theorem Store.listSound_iff (st : Store) : st.ListSound ↔ st.listed.Nodup ∧ st.NoneWaits := by
  rw [Store.ListSound, Store.NoneWaits, Store.listed_eq_nil, Store.listed, List.Nodup, List.pairwise_map]
  simp only [← Bool.not_eq_true, StoreReq.sameRecord_iff, ne_eq]

/-- A request of a listed record in place of its entry names the same records. -/
theorem StoreReq.record_replace (q p : StoreReq) : (if p.sameRecord q then q else p).record = p.record := by
  split
  · next h => exact ((p.sameRecord_iff q).mp h).symm
  · rfl

/-- What a request does to the records listed (R172). -/
theorem State.requestStore_listed_cases (s : State) (q : StoreReq) :
    (s.requestStore q).store.listed = s.store.listed ∧ (s.requestStore q).store.action = s.store.action
      ∨ (s.requestStore q).store.listed = [] ∧ (s.requestStore q).store.action ≠ none
      ∨ (s.requestStore q).store.listed = s.store.listed ++ [q.record] ∧ q.record ∉ s.store.listed
        ∧ (s.requestStore q).store.action = s.store.action ∧ (s.store.action ≠ none ∨ s.store.listed ≠ []) := by
  rw [Store.mem_listed]
  by_cases hlist : ∃ p ∈ s.store.pending, p.sameRecord q = true
  · rw [State.requestStore_listed hlist]
    refine .inl ⟨?_, rfl⟩
    rw [Store.listed, Store.listed, List.map_map]
    exact List.map_congr_left fun p _ => StoreReq.record_replace q p
  by_cases hbusy : s.store.action ≠ none ∨ s.store.pending ≠ []
  · rw [State.requestStore_busy hlist hbusy]
    exact .inr (.inr ⟨List.map_append, hlist, rfl, hbusy.imp_right s.store.listed_eq_nil.not.mpr⟩)
  · obtain ⟨ha, hp⟩ := not_or.mp hbusy
    rw [State.requestStore_idle (not_not.mp ha) (not_not.mp hp)]
    exact .inr (.inl ⟨s.store.listed_eq_nil.mpr (not_not.mp hp), nofun⟩)

/-! ### Requests one after another -/

/-- A store and the store after one request, in whatever state the module is. -/
def Store.AskedOnce (a b : Store) : Prop := ∃ (s : State) (q : StoreReq), s.store = a ∧ b = (s.requestStore q).store

/-- Requests, one after another, make a store of another. -/
def Store.Asked : Store → Store → Prop := Relation.ReflTransGen Store.AskedOnce

theorem Store.Asked.refl (a : Store) : a.Asked a := Relation.ReflTransGen.refl

theorem Store.Asked.nodup {a b : Store} (h : a.Asked b) (ha : a.listed.Nodup) : b.listed.Nodup := by
  induction h with
  | refl => exact ha
  | tail _ hstep ih =>
    obtain ⟨s, q, rfl, rfl⟩ := hstep
    obtain ⟨hl, -⟩ | ⟨hl, -⟩ | ⟨hl, hmem, -⟩ := s.requestStore_listed_cases q <;> rw [hl]
    · exact ih
    · exact List.nodup_nil
    · exact (List.concat_eq_append ▸ ih.concat hmem)

theorem Store.Asked.noneWaits {a b : Store} (h : a.Asked b) (ha : a.NoneWaits) : b.NoneWaits := by
  induction h with
  | refl => exact ha
  | tail _ hstep ih =>
    obtain ⟨s, q, rfl, rfl⟩ := hstep
    intro hnone
    obtain ⟨hl, hact⟩ | ⟨hl, -⟩ | ⟨-, -, hact, hbusy⟩ := s.requestStore_listed_cases q
    · exact hl.trans (ih (hact.symm.trans hnone))
    · exact hl
    · have hidle := hact.symm.trans hnone
      exact absurd hbusy (not_or.mpr ⟨not_not.mpr hidle, not_not.mpr (ih hidle)⟩)

theorem Store.Asked.listSound {a b : Store} (h : a.Asked b) (ha : a.ListSound) : b.ListSound := by
  rw [Store.listSound_iff] at *
  exact ⟨h.nodup ha.1, h.noneWaits ha.2⟩

/-- When the next action has begun nothing waits on an idle store (R173). -/
theorem State.listSound_beginNext {s : State} (h : s.store.listed.Nodup) : s.beginNext.store.ListSound := by
  rw [Store.listSound_iff]
  unfold State.beginNext
  split
  · next q rest _ hp =>
    rw [Store.listed, hp] at h
    exact ⟨h.of_cons, nofun⟩
  · next hno =>
    refine ⟨h, fun hnone => ?_⟩
    rw [Store.listed_eq_nil, List.eq_nil_iff_forall_not_mem]
    intro q hq
    obtain ⟨p, rest, hp⟩ := List.exists_cons_of_ne_nil (List.ne_nil_of_mem hq)
    exact hno p rest hnone hp

end Sys2Proof.Machine
end

section
/-! Proofs for the store and the starts (Chapter 9): every operation leaves the store as it was or as requests make it. -/

namespace Sys2Proof.Machine

/-- Requests make the store of one state of that of another: beside the ends of actions and the losses of power, every
operation leaves the store so. -/
def State.Asks (s t : State) : Prop := s.store.Asked t.store

theorem State.Asks.refl (s : State) : s.Asks s := Store.Asked.refl _

/-- A fold asks what its steps ask. -/
theorem State.Asks.foldl {α : Type} {r : State} {f : State → α → State}
    (step : ∀ (s : State) (a : α), r.Asks s → r.Asks (f s a)) (as : List α) {s : State} (h : r.Asks s) :
    r.Asks (as.foldl f s) :=
  foldl_keeps (P := r.Asks) step as s h

theorem State.Asks.ite {r : State} {c : Prop} [Decidable c] {t u : State} (ht : r.Asks t) (hu : r.Asks u) :
    r.Asks (if c then t else u : State) := by
  split
  · exact ht
  · exact hu

section
variable {r s : State} (h : r.Asks s)
include h

/-- What leaves the store alone asks nothing. -/
theorem State.Asks.quiet {t : State} (ht : t.store = s.store) : r.Asks t := by
  rwa [State.Asks, ht]

theorem State.Asks.onCtx (l : LaneNo) (c : CtxNo) (f : Context → Context) : r.Asks (s.onCtx l c f) := h.quiet rfl

theorem State.Asks.latch (f : Flag) : r.Asks (s.latch f) := h.quiet rfl

theorem State.Asks.addServiceChanged (l : LaneNo) : r.Asks (s.addServiceChanged l) := h.quiet rfl

theorem State.Asks.produce (p : Port) (a : Answer) : r.Asks (s.produce p a) := h.quiet (s.produce_store p a)

theorem State.Asks.answerWaiting (l : LaneNo) (pick : Entry → Bool) (x : Reply) : r.Asks (s.answerWaiting l pick x) :=
  h.quiet (s.answerWaiting_store l pick x)

theorem State.Asks.answerRunning (l : LaneNo) (c : CtxNo) (x : Reply) : r.Asks (s.answerRunning l c x) :=
  h.quiet (s.answerRunning_store l c x)

theorem State.Asks.freeContext (l : LaneNo) (c : CtxNo) (cause : EndCause) : r.Asks (s.freeContext l c cause) :=
  h.quiet (s.freeContext_store l c cause)

theorem State.Asks.reformSigning : r.Asks s.reformSigning := h.quiet s.reformSigning_store

theorem State.Asks.enterServing : r.Asks s.enterServing := h.quiet s.enterServing_store

theorem State.Asks.driveAlerts : r.Asks s.driveAlerts := h.quiet s.driveAlerts_store

theorem State.Asks.requestStore (q : StoreReq) : r.Asks (s.requestStore q) :=
  Relation.ReflTransGen.tail h ⟨s, q, rfl, rfl⟩

/-! ### Slots, endings and notices (R5, R6, R29, R30, R32, R34, R72, R83, R86) -/

theorem State.Asks.eraseIfUnused (n : SlotNo) : r.Asks (s.eraseIfUnused n) := by
  unfold State.eraseIfUnused
  split
  · exact .ite (.requestStore (h.quiet (by rfl)) _) h
  · exact h

theorem State.Asks.release (n : SlotNo) : r.Asks (s.release n) := .eraseIfUnused (h.quiet (by rfl)) n

theorem State.Asks.endContext (l : LaneNo) (c : CtxNo) (cause : EndCause) : r.Asks (s.endContext l c cause) := by
  unfold State.endContext
  dsimp only
  have hfree {t : State} (ht : r.Asks t) :
      r.Asks ((if (s.ctx l c).body.hasClaim then t.releaseClaim l c else t).freeContext l c cause) :=
    .freeContext (.ite (ht.quiet (by simp)) ht) l c cause
  cases (s.ctx l c).body.master with
  | none => exact hfree h
  | some n => exact hfree (h.release n)

theorem State.Asks.reachEnd (l : LaneNo) (c : CtxNo) (p : PendingEnd) : r.Asks (s.reachEnd l c p) :=
  .ite h (.ite (h.quiet (by simp)) (h.endContext l c _))

theorem State.Asks.applyPending (l : LaneNo) (c : CtxNo) : r.Asks (s.applyPending l c) := by
  unfold State.applyPending
  split
  · exact h
  · exact .ite h (h.endContext l c _)

theorem State.Asks.resetContexts (l : LaneNo) : r.Asks (s.resetContexts l) :=
  .foldl (fun _ c h => h.reachEnd l c _) _ h

/-- The treatment of every lane that is disabled or leaves SERVING (R30, R34). -/
theorem State.Asks.emptied (l : LaneNo) (x : Reply) :
    r.Asks (((s.answerWaiting l (fun _ => true) x).resetContexts l).addServiceChanged l) :=
  ((h.answerWaiting l _ x).resetContexts l).addServiceChanged l

theorem State.Asks.leaveService : r.Asks s.leaveService := .foldl (fun _ l h => h.emptied l _) _ (h.quiet (by rfl))

theorem State.Asks.linkDown (l : LaneNo) : r.Asks (s.linkDown l) := .latch (.resetContexts (h.quiet (by rfl)) l) _

theorem State.Asks.withdrawContext (n : SlotNo) (l : LaneNo) (c : CtxNo) : r.Asks (s.withdrawContext n l c) := by
  unfold State.withdrawContext
  split
  · exact .ite (h.endContext l c _) h
  · exact .ite (h.quiet (by simp)) h
  · exact .ite (h.endContext l c _) h
  · exact h

theorem State.Asks.withdrawMaster (n : SlotNo) : r.Asks (s.withdrawMaster n) :=
  .foldl (fun _ l h => .foldl (fun _ c h => h.withdrawContext n l c) _ (h.answerWaiting l _ _)) _ h

theorem State.Asks.evaluate : r.Asks s.evaluate := by
  have hwrites : r.Asks (s.evaluationChanges.foldl (fun t n => t.requestStore (.writeSlot n)) s.evaluateSlots) :=
    .foldl (fun _ _ h => h.requestStore _) _ (h.quiet s.evaluateSlots_store)
  exact .ite (.ite (hwrites.quiet (by rfl)) hwrites) h

/-! ### Jobs (R15, R17, R20, R21, R111, R112, R115, R119) -/

theorem State.Asks.answerAtStart (l : LaneNo) (e : Entry) (c : Code) : r.Asks (s.answerAtStart l e c) :=
  h.answerWaiting l _ _

theorem State.Asks.startEntry (l : LaneNo) (e : Entry) : r.Asks (s.startEntry l e) := by
  unfold State.startEntry
  split
  · unfold State.startOpen
    split
    · split
      · exact h
      · exact (h.answerAtStart l e _).endContext l _ _
      · exact (h.answerAtStart l e _).endContext l _ _
    · exact h
  · unfold State.startProve
    split <;> exact h
  · unfold State.startSeal
    split
    · split
      · exact h.answerAtStart l e _
      · exact .ite h h
    · exact h

theorem State.Asks.startChoice (ch : Choice) : r.Asks (s.startChoice ch) := by
  cases ch with
  | step l e => exact .startEntry (h.quiet (by rfl)) l e
  | admitting l e => exact .startEntry (h.quiet (by rfl)) l e
  | load q => exact h

theorem State.Asks.arbitrate : r.Asks s.arbitrate := by
  unfold State.arbitrate
  generalize s.waitingCount + 1 = n
  induction n generalizing s with
  | zero => exact h
  | succ n ih =>
    unfold State.arbitrateFor
    split
    · exact h
    · split
      · exact h
      · exact ih (h.startChoice _)

theorem State.Asks.advanceSequence : r.Asks s.advanceSequence :=
  .ite (h.quiet (by rfl)) (.ite (h.quiet (by rfl)) (.requestStore (h.quiet (by rfl)) _))

theorem State.Asks.applyOpen (l : LaneNo) (c : CtxNo) (key : Block) (ch : Mac) : r.Asks (s.applyOpen l c key ch) := by
  unfold State.applyOpen
  split
  · exact .applyPending (.answerRunning (h.quiet (by rfl)) l c _) l c
  · exact h

theorem State.Asks.applyMatch (l : LaneNo) (c : CtxNo) (o : Occupancy) (p : TagProof) :
    r.Asks (s.applyMatch l c o p) := by
  have hclass : r.Asks (s.classify l c o.tagId o.counter o.strict).1 := h.quiet (by rw [State.classify_frame])
  unfold State.applyMatch
  dsimp only
  split
  · exact .applyPending ((hclass.answerRunning l c _).onCtx l c _) l c
  · exact (hclass.answerRunning l c _).freeContext l c _

theorem State.Asks.applyProve (l : LaneNo) (c : CtxNo) (same : Bool) : r.Asks (s.applyProve l c same) := by
  unfold State.applyProve
  split
  · next o m p _ =>
    have hfree : r.Asks ((s.clearMark l c).release m) := .release (h.quiet (by rfl)) m
    exact .ite (hfree.applyMatch l c o p) ((hfree.answerRunning l c _).freeContext l c _)
  · exact h

theorem State.Asks.applySeal (l : LaneNo) (c : CtxNo) (n : SlotNo) (key : Block) (g : Gen) (holdover : Bool)
    (cls : BitVec 4) (ref : BitVec 16) : r.Asks (s.applySeal l c n key g holdover cls ref) := by
  unfold State.applySeal
  split
  · have hfree (k : Counter) (t : Seconds) : r.Asks ((s.sealClaim l c k t).release n) :=
      .release (h.quiet (s.sealClaim_store l c k t)) n
    exact .answerRunning (.freeContext ((hfree _ _).quiet (by rfl)) l c _) l c _
  · exact h

/-! ### The lane requests (R11 to R14, R16, R19, R22, R27) -/

theorem State.Asks.openRequest (l : LaneNo) (tag : Byte) (body : List Byte) : r.Asks (s.openRequest l tag body) := by
  unfold State.openRequest
  dsimp only
  split
  · exact h.produce _ _
  split
  · exact h.produce _ _
  split
  · exact h.produce _ _
  split
  · exact h.produce _ _
  split
  · exact h.produce _ _
  · exact .arbitrate (h.quiet (by rfl))

theorem State.Asks.proveRequest (l : LaneNo) (tag : Byte) (body : List Byte) : r.Asks (s.proveRequest l tag body) := by
  unfold State.proveRequest
  dsimp only
  split
  · exact h.produce _ _
  split
  · exact h.produce _ _
  split
  · exact h.produce _ _
  split
  · exact h.produce _ _
  split
  · exact .arbitrate (h.quiet (by rfl))
  · exact h

theorem State.Asks.sealRequest (l : LaneNo) (tag : Byte) (body : List Byte) : r.Asks (s.sealRequest l tag body) := by
  unfold State.sealRequest
  dsimp only
  split
  · exact h.produce _ _
  split
  · exact h.produce _ _
  split
  · exact h.produce _ _
  split
  · exact h.produce _ _
  split
  · exact .arbitrate (h.quiet (by rfl))
  · exact h

theorem State.Asks.removeAndEnd (l : LaneNo) (c : CtxNo) (p : PendingEnd) (code : Code) :
    r.Asks (s.removeAndEnd l c p code) := .reachEnd (h.answerWaiting l _ _) l c p

theorem State.Asks.dropRequest (l : LaneNo) (tag : Byte) (body : List Byte) : r.Asks (s.dropRequest l tag body) := by
  refine .ite (h.produce _ _) ?_
  split
  · exact h.produce _ _
  · exact .ite (h.produce _ _) ((h.removeAndEnd l _ _ _).produce _ _)

theorem State.Asks.pollRequest (l : LaneNo) (tag : Byte) (body : List Byte) : r.Asks (s.pollRequest l tag body) := by
  refine .ite (h.produce _ _) ?_
  split
  · exact h.produce _ _
  · exact .produce (h.quiet (by rfl)) _ _

theorem State.Asks.handLane (l : LaneNo) (f : Frame) : r.Asks (s.handLane l f) := by
  refine .ite (h.produce _ _) ?_
  split
  · exact h.produce _ _
  · exact h.openRequest l _ _
  · exact h.proveRequest l _ _
  · exact h.sealRequest l _ _
  · exact h.dropRequest l _ _
  · exact h.pollRequest l _ _

theorem State.Asks.laneFrame (l : LaneNo) {deal : State → State} (hd : ∀ t : State, r.Asks t → r.Asks (deal t)) :
    r.Asks (s.laneFrame l deal) := .ite (h.quiet (by rfl)) (hd _ (h.quiet (by rfl)))

/-! ### The station requests (R154 to R156) -/

theorem State.Asks.statusRequest (tag : Byte) (body : List Byte) : r.Asks (s.statusRequest tag body) := by
  unfold State.statusRequest
  split
  · exact h.produce _ _
  · exact .produce (h.quiet (by rfl)) _ _

theorem State.Asks.withdraw (n : SlotNo) (d : KeyData) : r.Asks (s.withdraw n d) := by
  have hwrite : r.Asks ((s.onSlot n fun sl => { sl with body := .held .withdrawn d }).requestStore (.writeSlot n)) :=
    .requestStore (h.quiet (by rfl)) _
  exact .reformSigning (.eraseIfUnused (.ite (hwrite.withdrawMaster n) hwrite) n)

theorem State.Asks.applyEnabled (l : LaneNo) (before after : Bool) : r.Asks (s.applyEnabled l before after) :=
  .ite h (.ite (h.quiet (by rfl)) (h.emptied l _))

theorem State.Asks.applyTimeout (l : LaneNo) (t : BitVec 16) : r.Asks (s.applyTimeout l t) :=
  .ite (.ite (.linkDown (h.quiet (by rfl)) l) (h.quiet (by rfl))) h

theorem State.Asks.runLoadKey (body : List Byte) : r.Asks (s.runLoadKey body).1 := by
  unfold State.runLoadKey
  split
  · exact h
  split
  · exact h
  split
  · exact h
  · exact .arbitrate (h.quiet (by rfl))

theorem State.Asks.runWithdrawKey (body : List Byte) : r.Asks (s.runWithdrawKey body).1 := by
  unfold State.runWithdrawKey
  split
  · exact h
  split
  · exact h
  split
  case h_5 => exact h.withdraw _ _
  all_goals exact h

/-- What an EXECUTING request asks of the store (R156). -/
theorem State.Asks.execute (e : StationEntry) : r.Asks (s.execute e).1 := by
  unfold State.execute
  cases e.kind <;> dsimp only
  case loadKey => exact h.runLoadKey _
  case withdrawKey => exact h.runWithdrawKey _
  case setLane =>
    unfold State.runSetLane
    split
    · exact h
    · exact .applyTimeout (.applyEnabled (h.quiet (by rfl)) _ _ _) _ _
  case setConfig =>
    unfold State.runSetConfig
    split
    · exact h
    · exact .ite (h.quiet (by rfl)) (.reformSigning (h.quiet (by rfl)))
  case saveConfig =>
    unfold State.runSaveConfig
    split
    · exact h
    · exact h.requestStore _
  case reseed =>
    unfold State.runReseed
    split
    · exact h
    · split
      · exact h
      · exact h.requestStore _
  case setTime =>
    unfold State.runSetTime
    split
    · exact h
    · exact .reformSigning (.evaluate (h.quiet (by rfl)))
  case reset | setTrim | queryPassage | readTime =>
    simp only [State.runReset, State.runSetTrim, State.runQueryPassage, State.runReadTime]
    split <;> exact h
  case listSlot | setRoute | clearRoute =>
    simp only [State.runListSlot, State.runSetRoute, State.runClearRoute]
    split
    · exact h
    · split <;> exact h

theorem State.Asks.answerExecuting (x : Reply) : r.Asks (s.answerExecuting x) := by
  unfold State.answerExecuting
  split
  · exact h
  · exact .produce (h.quiet (by rfl)) _ _

theorem State.Asks.runStation : r.Asks s.runStation := by
  unfold State.runStation
  generalize s.station.queue.length = n
  induction n generalizing s with
  | zero => exact h
  | succ n ih =>
    unfold State.runStationFor
    split
    · exact h
    · next e rest _ =>
      have hexec : r.Asks ((s.withQueue ({ e with executing := true } :: rest)).execute e).1 :=
        .execute (h.quiet (by rfl)) e
      dsimp only
      split
      · exact ih (hexec.answerExecuting _)
      · exact hexec

theorem State.Asks.finishExecuting (x : Reply) : r.Asks (s.finishExecuting x) := (h.answerExecuting x).runStation

theorem State.Asks.stationRequest (k : StationKind) (tag : Byte) (body : List Byte) :
    r.Asks (s.stationRequest k tag body) :=
  .ite (h.produce _ _) (.ite (h.produce _ _) (.ite (.runStation (h.quiet (by rfl))) (h.quiet (by rfl))))

theorem State.Asks.handStation (f : Frame) : r.Asks (s.handStation f) := by
  refine .ite (h.produce _ _) (.ite (h.statusRequest _ _) ?_)
  split
  · exact h.produce _ _
  · exact h.stationRequest _ _ _

theorem State.Asks.stationFrame {deal : State → State} (hd : ∀ t : State, r.Asks t → r.Asks (deal t)) :
    r.Asks (s.stationFrame deal) := .ite (h.quiet (by rfl)) (hd _ (h.quiet (by rfl)))

/-! ### The ports (R184, R186, R187) -/

theorem State.Asks.portFrame (p : Port) (f : Frame) : r.Asks (s.portFrame p f) := by
  cases p with
  | lane l => exact h.laneFrame l fun _ h => h.handLane l f
  | station => exact h.stationFrame fun _ h => h.handStation f

theorem State.Asks.receive (p : Port) (c : LineChar) : r.Asks (s.receive p c) := by
  have hrx (x : Rx) : r.Asks (s.onPort p fun ps => { ps with rx := x }) := h.quiet (s.onPort_store p _)
  unfold State.receive
  dsimp only
  split
  · exact hrx _
  · exact (hrx _).quiet (by rfl)
  · exact (hrx _).portFrame p _

theorem State.Asks.receiveAll (p : Port) (cs : List LineChar) : r.Asks (s.receiveAll p cs) :=
  .foldl (fun _ c h => h.receive p c) cs h

/-! ### The ends of store actions (R70, R71, R86, R113, R166, R168, R175) -/

theorem State.Asks.slotWriteEnds (n : SlotNo) (ok : Bool) : r.Asks (s.slotWriteEnds n ok) := by
  unfold State.slotWriteEnds
  split
  · exact .ite (.finishExecuting (.reformSigning (.evaluate (h.quiet (by rfl)))) _)
      (.finishExecuting (.requestStore (h.quiet (by rfl)) _) _)
  · exact h

theorem State.Asks.slotEraseEnds (n : SlotNo) (ok : Bool) : r.Asks (s.slotEraseEnds n ok) := by
  unfold State.slotEraseEnds
  split
  · exact .ite (h.quiet (by rfl)) h
  · exact h

theorem State.Asks.imageWriteEnds (ok : Bool) : r.Asks (s.imageWriteEnds ok) := .ite (h.finishExecuting _) h

theorem State.Asks.bootWriteEnds (b : BitVec 32) (ok : Bool) : r.Asks (s.bootWriteEnds b ok) := by
  have hknown : r.Asks (s.knowBoot b ok) := .ite (h.quiet (by rfl)) h
  rw [State.bootWriteEnds_eq]
  cases s.service with
  | starting => exact .ite hknown.enterServing (hknown.quiet (by rfl))
  | serving => exact .ite (.arbitrate (hknown.quiet (by rfl))) (.leaveService (hknown.quiet (by rfl)))
  | seedWait => exact .ite (.ite (.finishExecuting (.enterServing (hknown.quiet (by rfl))) _) (hknown.finishExecuting _)) hknown

theorem State.Asks.actionEnds (a : StoreAct) (ok : Bool) : r.Asks (s.actionEnds a ok) := by
  refine .ite h ?_
  cases a with
  | writeSlot n _ => exact h.slotWriteEnds n ok
  | eraseSlot n => exact h.slotEraseEnds n ok
  | writeImage _ => exact h.imageWriteEnds ok
  | writeBoot b => exact h.bootWriteEnds b ok

/-! ### START_UP (R178 to R181) -/

theorem State.Asks.loadSlotRecord (n : SlotNo) : r.Asks (s.loadSlotRecord n) := by
  have hlost : r.Asks (s.latchLost (s.store.slots[n] == .failing)) := h.quiet (s.latchLost_store _)
  rw [State.loadSlotRecord_eq]
  exact .ite (hlost.requestStore _) hlost

theorem State.Asks.startSlots : r.Asks s.startSlots := by
  have hslots : r.Asks s.loadSlots := .foldl (fun _ n h => h.loadSlotRecord n) _ (h.quiet (by rfl))
  have heval := hslots.evaluate
  unfold State.startSlots
  generalize s.loadSlots.evaluate = t at heval
  exact heval

theorem State.Asks.loadBoot : r.Asks s.loadBoot := by
  unfold State.loadBoot
  split
  · exact .ite (h.quiet (by rfl)) (.requestStore (h.quiet (by rfl)) _)
  · exact h

end

/-! ### Every command -/

/-- The machine goes on with a sound list. -/
def GoesOnListed (o : Host.Outcome State Fault Refusal) : Prop := ∃ t, o = .next t ∧ t.store.ListSound

theorem GoesOnListed.ite {c : Prop} [Decidable c] {a b : Host.Outcome State Fault Refusal} (ha : GoesOnListed a)
    (hb : GoesOnListed b) : GoesOnListed (if c then a else b) := by
  split
  · exact ha
  · exact hb

/-- With nothing waiting the list is sound. -/
theorem Store.listSound_of_pending {st : Store} (h : st.pending = []) : st.ListSound :=
  ⟨by simp [h], fun _ => h⟩

section
variable {s : State} (h : s.store.ListSound)
include h

theorem GoesOnListed.same : GoesOnListed (.next s) := ⟨s, rfl, h⟩

theorem GoesOnListed.asked {t : State} (ht : s.Asks t) : GoesOnListed (.next t) := ⟨t, rfl, Store.Asked.listSound ht h⟩

/-- The alert outputs are driven at the end. -/
theorem GoesOnListed.driven {t : State} (ht : s.Asks t) : GoesOnListed (.next t.driveAlerts) := .asked h ht.driveAlerts

theorem GoesOnListed.powered {f : State → State} (hf : s.Asks (f s)) : GoesOnListed (s.powered f) :=
  .ite (.driven h hf) (.same h)

/-- An action has ended, its record as some attempt left it; its consequence follows, and the next action begins (R173). -/
theorem GoesOnListed.ended {u : State} (hu : u.store.listed = s.store.listed) (a : StoreAct) (ok : Bool) :
    GoesOnListed (.next (u.actionEnds a ok).beginNext.driveAlerts) := by
  have hnodup : u.store.listed.Nodup := hu ▸ (s.store.listSound_iff.mp h).1
  refine ⟨_, rfl, ?_⟩
  rw [State.driveAlerts_store]
  exact State.listSound_beginNext (Store.Asked.nodup ((State.Asks.refl u).actionEnds a ok) hnodup)

/-- Every command keeps the list sound (R172, R173). -/
theorem State.exec_listed (i : Instr) : GoesOnListed (exec i s) := by
  have hs := State.Asks.refl s
  have lane (l : LaneNo) (deal : State → State) (hd : ∀ t : State, s.Asks t → s.Asks (deal t)) :
      GoesOnListed (s.powered fun s => s.laneFrame l deal) := .powered (f := fun s => s.laneFrame l deal) h (hs.laneFrame l hd)
  have station (k : StationKind) (tag : Byte) (body : List Byte) :
      GoesOnListed (s.powered fun s => s.stationFrame fun t => t.stationRequest k tag body) :=
    .powered (f := fun s => s.stationFrame fun t => t.stationRequest k tag body) h
      (hs.stationFrame fun _ ht => ht.stationRequest k tag body)
  cases i
  case openReq l tag body => exact lane l (fun t => t.openRequest l tag body) fun _ ht => ht.openRequest l tag body
  case proveReq l tag body => exact lane l (fun t => t.proveRequest l tag body) fun _ ht => ht.proveRequest l tag body
  case sealReq l tag body => exact lane l (fun t => t.sealRequest l tag body) fun _ ht => ht.sealRequest l tag body
  case dropReq l tag body => exact lane l (fun t => t.dropRequest l tag body) fun _ ht => ht.dropRequest l tag body
  case pollReq l tag body => exact lane l (fun t => t.pollRequest l tag body) fun _ ht => ht.pollRequest l tag body
  case statusReq tag body =>
    exact .powered (f := fun s => s.stationFrame fun t => t.statusRequest tag body) h
      (hs.stationFrame fun _ ht => ht.statusRequest tag body)
  case setLane tag body => exact station .setLane tag body
  case setConfig tag body => exact station .setConfig tag body
  case saveConfig tag body => exact station .saveConfig tag body
  case reseed tag body => exact station .reseed tag body
  case resetReq tag body => exact station .reset tag body
  case loadKey tag body => exact station .loadKey tag body
  case withdrawKey tag body => exact station .withdrawKey tag body
  case listSlot tag body => exact station .listSlot tag body
  case setRoute tag body => exact station .setRoute tag body
  case clearRoute tag body => exact station .clearRoute tag body
  case queryPassage tag body => exact station .queryPassage tag body
  case setTime tag body => exact station .setTime tag body
  case setTrim tag body => exact station .setTrim tag body
  case readTime tag body => exact station .readTime tag body
  case malformedFrame p kind tag length body => exact .powered (f := fun s => s.portFrame p _) h (hs.portFrame p _)
  case frameDiscarded p cs => exact .powered (f := fun s => s.receiveAll p cs) h (hs.receiveAll p cs)
  case abortSequence p =>
    exact .powered (f := fun s => s.onPort p fun ps => { ps with rx := Rx.opened }) h (hs.quiet (by simp))
  case openCompletion =>
    simp only [exec, execOpenCompletion]
    split
    · have hopen (l : LaneNo) (c : CtxNo) (key : Block) (ch : Mac) :
          s.Asks (s.freeUnit.advanceSequence.applyOpen l c key ch) := .applyOpen (.advanceSequence (hs.quiet (by rfl))) l c key ch
      exact .driven h (.arbitrate (.ite (hopen ..).leaveService (hopen ..)))
    · exact .same h
  case proveCompletion =>
    simp only [exec, execProveCompletion]
    split
    · exact .driven h (.arbitrate (.applyProve (hs.quiet (by rfl)) _ _ _))
    · exact .same h
  case sealCompletion =>
    simp only [exec, execSealCompletion]
    split
    · exact .driven h (.arbitrate (.applySeal (hs.quiet (by rfl)) _ _ _ _ _ _ _ _))
    · exact .same h
  case loadCompletion =>
    simp only [exec, execLoadCompletion]
    split
    · refine .driven h (.arbitrate (.ite (.requestStore (hs.quiet ?_) _) (.finishExecuting (hs.quiet ?_) _))) <;> rfl
    · exact .same h
  case secondEvent =>
    exact .ite (.same h) (.ite (.driven h (.reformSigning (.evaluate (hs.quiet (by rfl))))) (.asked h (hs.quiet (by rfl))))
  case contextExpiry l c => exact .ite (.driven h (hs.removeAndEnd l c _ _)) (.same h)
  case entryExpiry id =>
    simp only [exec, execEntryExpiry]
    split
    · split
      · exact .ite (.asked h (hs.quiet (by rfl))) (.same h)
      · exact .same h
    · exact .same h
  case linkExpiry l => exact .ite (.driven h (hs.linkDown l)) (.same h)
  case fractionTick => exact .ite (.asked h (hs.quiet (by rfl))) (.same h)
  case periodStart => exact .asked h (hs.quiet (by rfl))
  case oscillatorStop => exact .ite (.driven h (.latch (hs.quiet (by rfl)) _)) (.same h)
  case oscillatorRestart => exact .ite (.same h) (.asked h (hs.quiet (by rfl)))
  case backupLowChange low => exact .ite (.asked h (hs.quiet (by rfl))) (.same h)
  case oscillatorStopWhileOff lost => exact .ite (.asked h (hs.quiet (by rfl))) (.same h)
  case mainPowerFail p => exact .ite ⟨_, rfl, Store.listSound_of_pending rfl⟩ (.same h)
  case powerOn low =>
    refine .ite (.same h) ⟨_, rfl, Store.listSound_of_pending ?_⟩
    rw [State.driveAlerts_store, State.powerOn_eq]
    rfl
  case startUp =>
    have hslots : s.Asks s.loadConfig.startSlots := .startSlots (hs.quiet s.loadConfig_store)
    refine .ite (.driven h (.loadBoot ?_)) (.same h)
    generalize s.loadConfig.startSlots = t at hslots ⊢
    exact hslots.quiet rfl
  case storeActionComplete =>
    simp only [exec, execStoreActionComplete]
    split
    · exact .same h
    · next a _ => exact .ended h (by cases a <;> rfl) a true
  case storeVerifyRetry => exact .ite ⟨_, rfl, h⟩ (.same h)
  case storeActionFailed left =>
    simp only [exec, execStoreActionFailed]
    split
    · next a _ _ => exact .ended h (by cases left <;> cases a <;> rfl) a false
    · exact .same h
  case answerTransmitted p =>
    simp only [exec, execAnswerTransmitted]
    split
    · exact .same h
    · refine .driven h (.ite (hs.quiet ?_) (hs.quiet ?_)) <;> cases p <;> rfl

end

/-- Settles O7: what requests make of the list stays sound, and at the end of an action the next one begins. -/
theorem storeListKept : Obligations.StoreListKept := by
  intro s t h hx
  unfold step at hx
  split at hx
  · cases hx
    exact h
  · next c rest _ =>
    obtain ⟨u, hu, hsound⟩ := State.exec_listed (s := { s with pending := rest }) h c
    cases hx.symm.trans hu
    exact hsound

end Sys2Proof.Machine
end

section
/-! Proofs for the ports: the CRC and the receiver's table (R184, R185). -/

namespace Sys2Proof.Machine

/-! ### The CRC (R185) -/

/-- One bit of the CRC: the bit shifted out is bit 15. -/
theorem crcBit_eq (reg : BitVec 16) (bit : Bool) :
    crcBit reg bit = if reg.getLsbD 15 = bit then reg <<< 1 else (reg <<< 1) ^^^ 0x1021#16 := by
  simp [crcBit, BitVec.msb_eq_getLsbD_last]

/-- A byte is taken bit by bit, most significant bit first. -/
theorem crc16_snoc (bs : List Byte) (b : Byte) :
    crc16 (bs ++ [b]) =
      crcBit (crcBit (crcBit (crcBit (crcBit (crcBit (crcBit (crcBit (crc16 bs) (b.getLsbD 7)) (b.getLsbD 6)) (b.getLsbD 5))
        (b.getLsbD 4)) (b.getLsbD 3)) (b.getLsbD 2)) (b.getLsbD 1)) (b.getLsbD 0) :=
  crc16_append bs [b]

/-! ### The receiver's table (R184) -/

section
variable (buf : List Byte) (b : Byte)

/-- A content byte is stored while the frame holds fewer than 64. -/
theorem rxStore_eq :
    rxStore buf b = if buf.length < 64 then (.assemble (buf ++ [b]) false, .quiet) else (.hunt, .fault) := by
  unfold rxStore
  by_cases h : buf.length < 64
  · rw [if_neg (Nat.not_le.mpr h), if_pos h]
  · rw [if_pos (Nat.not_lt.mp h), if_neg h]

theorem rxStep_flag : rxStep (.assemble buf false) (.byte 0x7E) = rxClose buf := rfl

theorem rxStep_escape : rxStep (.assemble buf false) (.byte 0x7D) = (.assemble buf true, .quiet) := rfl

theorem rxStep_abort : rxStep (.assemble buf true) (.byte 0x7E) = (.assemble [] false, .quiet) := rfl

theorem rxStep_error (escape : Bool) : rxStep (.assemble buf escape) .error = (.hunt, .fault) := by
  cases escape <;> rfl

variable {b}

theorem rxStep_content (hflag : b ≠ 0x7E) (hescape : b ≠ 0x7D) :
    rxStep (.assemble buf false) (.byte b) = rxStore buf b := (if_neg hflag).trans (if_neg hescape)

/-- The byte behind an escape byte stands for 7E hex or 7D hex. -/
theorem rxStep_escaped {stored : Byte} (h : b = 0x5E ∧ stored = 0x7E ∨ b = 0x5D ∧ stored = 0x7D) :
    rxStep (.assemble buf true) (.byte b) = rxStore buf stored := by
  obtain ⟨rfl, rfl⟩ | ⟨rfl, rfl⟩ := h <;> rfl

theorem rxStep_badEscape (h1 : b ≠ 0x5E) (h2 : b ≠ 0x5D) (hflag : b ≠ 0x7E) :
    rxStep (.assemble buf true) (.byte b) = (.hunt, .fault) := (if_neg h1).trans ((if_neg h2).trans (if_neg hflag))

end

theorem framePasses_iff (content : List Byte) :
    framePasses content = true ↔
      5 ≤ content.length ∧ crc16 (content.take (content.length - 2)) = fieldAt 16 content (content.length - 2) 2 := by
  rw [framePasses, Bool.and_eq_true, decide_eq_true_iff, beq_iff_eq]

/-- Settles O13: the CRC bit by bit, then the receiver row by row of its table. -/
theorem receiverFollowsTable : Obligations.ReceiverFollowsTable := by
  refine ⟨⟨rfl, fun bs b => ?_⟩, fun _ => rfl, rfl, fun buf => ?_, rxStep_escape, fun buf b hflag hescape => ?_,
    fun buf b stored h => ?_, rxStep_abort, fun buf b h1 h2 hflag => rxStep_badEscape buf h1 h2 hflag, rxStep_error⟩
  · simp only [crc16_snoc, crcBit_eq]
  · simp only [rxStep_flag, rxClose, framePasses_iff]
  · rw [rxStep_content buf hflag hescape, rxStore_eq]
  · rw [rxStep_escaped buf h, rxStore_eq]

end Sys2Proof.Machine
end

section
/-! Proofs for the ports: a frame formed for the line is received as that frame (R184, R185, R188, R199). -/

namespace Sys2Proof.Machine

/-! ### Runs of characters -/

/-- Reading the characters brings the receiver from one state to another, with no frame and no fault on the way. -/
def QuietRun (rx : Rx) (cs : List LineChar) (rx' : Rx) : Prop :=
  (rxRun rx cs).1 = rx' ∧ ∀ e ∈ (rxRun rx cs).2, e = .quiet

theorem QuietRun.nil (rx : Rx) : QuietRun rx [] rx := ⟨rfl, nofun⟩

theorem quietRun_cons {rx rx' : Rx} {c : LineChar} {cs : List LineChar} :
    QuietRun rx (c :: cs) rx' ↔ (rxStep rx c).2 = .quiet ∧ QuietRun (rxStep rx c).1 cs rx' := by
  simp only [QuietRun, rxRun, List.forall_mem_cons]
  exact and_left_comm

theorem QuietRun.cons {rx rx₁ rx' : Rx} {c : LineChar} {cs : List LineChar} (hstep : rxStep rx c = (rx₁, .quiet))
    (h : QuietRun rx₁ cs rx') : QuietRun rx (c :: cs) rx' :=
  quietRun_cons.mpr (by rw [hstep]; exact ⟨rfl, h⟩)

theorem QuietRun.append {rx rx₁ rx₂ : Rx} {cs ds : List LineChar} (h : QuietRun rx cs rx₁) (hd : QuietRun rx₁ ds rx₂) :
    QuietRun rx (cs ++ ds) rx₂ := by
  induction cs generalizing rx with
  | nil =>
    obtain ⟨rfl, -⟩ := h
    exact hd
  | cons c cs ih =>
    obtain ⟨hq, hrest⟩ := quietRun_cons.mp h
    exact quietRun_cons.mpr ⟨hq, ih hrest⟩

/-- One more character behind a quiet run: its step gives the receiver and the one event that may be none of quiet. -/
theorem QuietRun.snoc {rx rx₁ rx' : Rx} {cs : List LineChar} {c : LineChar} {e : RxEvent} (h : QuietRun rx cs rx₁)
    (hstep : rxStep rx₁ c = (rx', e)) :
    (rxRun rx (cs ++ [c])).1 = rx' ∧ (rxRun rx (cs ++ [c])).2.filter (· != .quiet) = [e].filter (· != .quiet) := by
  induction cs generalizing rx with
  | nil =>
    obtain ⟨rfl, -⟩ := h
    simp only [List.nil_append, rxRun]
    rw [show rxStep rx c = (rx', e) from hstep]
    exact ⟨rfl, rfl⟩
  | cons d cs ih =>
    obtain ⟨hq, hrest⟩ := quietRun_cons.mp h
    obtain ⟨hrx, hev⟩ := ih hrest
    refine ⟨hrx, ?_⟩
    rw [List.cons_append, rxRun, hq]
    exact hev

/-! ### A frame on the line (R188) -/

/-- A content byte is read back from its escaped form. -/
theorem quietRun_escaped {buf : List Byte} (hroom : buf.length < 64) (b : Byte) :
    QuietRun (.assemble buf false) ((escaped b).map LineChar.byte) (.assemble (buf ++ [b]) false) := by
  have hstore : rxStore buf b = (.assemble (buf ++ [b]) false, .quiet) := (rxStore_eq buf b).trans (if_pos hroom)
  unfold escaped
  split
  · next h =>
    subst h
    exact .cons (rxStep_escape buf) (.cons ((rxStep_escaped buf (.inl ⟨rfl, rfl⟩)).trans hstore) (.nil _))
  split
  · next h =>
    subst h
    exact .cons (rxStep_escape buf) (.cons ((rxStep_escaped buf (.inr ⟨rfl, rfl⟩)).trans hstore) (.nil _))
  · next hflag hescape => exact .cons ((rxStep_content buf hflag hescape).trans hstore) (.nil _)

/-- Content of up to 64 bytes is assembled byte by byte. -/
theorem quietRun_content {buf content : List Byte} (hroom : buf.length + content.length ≤ 64) :
    QuietRun (.assemble buf false) ((content.flatMap escaped).map LineChar.byte) (.assemble (buf ++ content) false) := by
  induction content generalizing buf with
  | nil => simpa using QuietRun.nil _
  | cons b content ih =>
    rw [List.length_cons] at hroom
    rw [List.flatMap_cons, List.map_append, show buf ++ b :: content = (buf ++ [b]) ++ content by simp]
    exact (quietRun_escaped (by omega) b).append (ih (by simp; omega))

/-- The opening flag opens a frame in HUNT, and none is closed by it in an open empty frame (R184, R185). -/
theorem rxStep_openingFlag {rx : Rx} (h : rx = .hunt ∨ rx = Rx.opened) : rxStep rx (.byte 0x7E) = (Rx.opened, .quiet) := by
  obtain rfl | rfl := h <;> rfl

/-- A frame up to its closing flag. -/
def frameFront (content : List Byte) : List LineChar := (0x7E :: content.flatMap escaped).map LineChar.byte

theorem frameLine_chars (content : List Byte) :
    (frameLine content).map LineChar.byte = frameFront content ++ [.byte 0x7E] := by
  simp [frameLine, frameFront]

theorem quietRun_frameFront {rx : Rx} (hrx : rx = .hunt ∨ rx = Rx.opened) {content : List Byte}
    (hlen : content.length ≤ 64) : QuietRun rx (frameFront content) (.assemble content false) :=
  .cons (rxStep_openingFlag hrx) (quietRun_content (by simpa using hlen))

/-! ### The content of a frame (R185, R199) -/

/-- The frame whose content is formed for the line: its length byte is that of its body (R199). -/
def formedFrame (kind tag : Byte) (body : List Byte) : Frame :=
  { kind := kind, tag := tag, length := BitVec.ofNat 8 body.length, body := body }

section
variable (kind tag : Byte) (body : List Byte)

theorem frameContent_length : (frameContent kind tag body).length = body.length + 5 := by simp [frameContent]

theorem framePasses_frameContent : framePasses (frameContent kind tag body) = true := by
  have hcut : (frameContent kind tag body).length - 2 = ([kind, tag, BitVec.ofNat 8 body.length] ++ body).length := by
    simp [frameContent]
  rw [framePasses_iff, hcut, frameContent_length]
  refine ⟨Nat.le_add_left 5 _, ?_⟩
  have hfield := fieldAt_append ([kind, tag, BitVec.ofNat 8 body.length] ++ body) 2
    (crc16 ([kind, tag, BitVec.ofNat 8 body.length] ++ body)) [] _ rfl (by omega)
  rw [List.append_nil] at hfield
  rw [frameContent, List.take_left, hfield]

theorem frameOf_frameContent :
    frameOf (frameContent kind tag body) = formedFrame kind tag body := by
  rw [frameOf, frameContent_length]
  simp [frameContent, formedFrame]

/-- The closing flag hands the frame off and opens the next one. -/
theorem rxStep_closingFlag :
    rxStep (.assemble (frameContent kind tag body) false) (.byte 0x7E) =
      (Rx.opened, .frame (formedFrame kind tag body)) := by
  have hne : frameContent kind tag body ≠ [] := by simp [frameContent]
  rw [rxStep_flag, rxClose, if_neg hne, if_pos (framePasses_frameContent kind tag body), frameOf_frameContent]
  rfl

variable {body}

theorem frameContent_fits (h : body.length ≤ maxBody) : (frameContent kind tag body).length ≤ 64 := by
  rw [frameContent_length]
  exact Nat.add_le_add_right h 5

theorem formedFrame_length (h : body.length ≤ maxBody) : (formedFrame kind tag body).length.toNat = body.length :=
  Nat.mod_eq_of_lt (Nat.lt_of_le_of_lt h (by decide))

end

/-- Settles O11: the content read back quietly, then the closing flag with the frame check passed. -/
theorem frameRoundTrip : Obligations.FrameRoundTrip := by
  intro kind tag body rx hlen hrx content
  obtain ⟨hopen, hframe⟩ :=
    (quietRun_frameFront hrx (frameContent_fits kind tag hlen)).snoc (rxStep_closingFlag kind tag body)
  rw [frameLine_chars, frameOf_frameContent]
  exact ⟨framePasses_frameContent kind tag body, rfl, hopen, hframe⟩

end Sys2Proof.Machine
end

section
/-! Proofs for the ports: characters received, the hand-off of a frame, and a frame's arrival (R184 to R186, R190, R192). -/

namespace Sys2Proof.Machine

/-! ### Characters received on a port (R184, R185) -/

theorem State.portOf_onPort (s : State) (p : Port) (f : PortState → PortState) :
    (s.onPort p f).portOf p = f (s.portOf p) := by
  cases p with
  | lane l =>
    change ((s.onLane l fun ln => { ln with port := f ln.port }).lanes[l]).port = _
    rw [State.onLane_same]
    rfl
  | station => rfl

/-- The receiver of a port replaced. -/
def State.withRx (s : State) (p : Port) (rx : Rx) : State := s.onPort p fun ps => { ps with rx := rx }

theorem State.withRx_lane (s : State) (l : LaneNo) (rx : Rx) :
    s.withRx (.lane l) rx = s.onLane l fun ln => { ln with port := { ln.port with rx := rx } } := rfl

theorem State.withRx_withRx (s : State) (p : Port) (rx rx' : Rx) : (s.withRx p rx).withRx p rx' = s.withRx p rx' := by
  cases p with
  | lane l => simp only [State.withRx_lane, State.onLane_onLane]
  | station => rfl

@[simp] theorem State.portOf_withRx_rx (s : State) (p : Port) (rx : Rx) : ((s.withRx p rx).portOf p).rx = rx :=
  congrArg PortState.rx (s.portOf_onPort p _)

theorem State.withRx_same (s : State) (p : Port) : s.withRx p (s.portOf p).rx = s := by
  cases p with
  | lane l => exact (State.onLane_congr rfl).trans (s.onLane_id l)
  | station => rfl

section
variable {s : State} {p : Port} {rx rx' : Rx} {c : LineChar}

theorem State.receive_quiet (h : rxStep (s.portOf p).rx c = (rx, .quiet)) : s.receive p c = s.withRx p rx := by
  simp only [State.receive, h]
  rfl

theorem State.receive_fault (h : rxStep (s.portOf p).rx c = (rx, .fault)) :
    s.receive p c = (s.withRx p rx).latch (.frameFault p) := by
  simp only [State.receive, h]
  rfl

theorem State.receive_frame {f : Frame} (h : rxStep (s.portOf p).rx c = (rx, .frame f)) :
    s.receive p c = (s.withRx p rx).portFrame p f := by
  simp only [State.receive, h]
  rfl

theorem State.receiveAll_snoc (s : State) (p : Port) (cs : List LineChar) (c : LineChar) :
    s.receiveAll p (cs ++ [c]) = (s.receiveAll p cs).receive p c := List.foldl_concat ..

/-- Characters that only fill a frame change the receiver alone. -/
theorem State.receiveAll_quiet {cs : List LineChar} (h : QuietRun (s.portOf p).rx cs rx) :
    s.receiveAll p cs = s.withRx p rx := by
  induction cs generalizing s with
  | nil =>
    obtain ⟨rfl, -⟩ := h
    exact (s.withRx_same p).symm
  | cons d cs ih =>
    obtain ⟨hq, hrest⟩ := quietRun_cons.mp h
    have hd : s.receive p d = s.withRx p (rxStep (s.portOf p).rx d).1 := State.receive_quiet (Prod.ext rfl hq)
    change (s.receive p d).receiveAll p cs = _
    rw [hd, ih (by rwa [State.portOf_withRx_rx]), State.withRx_withRx]

/-- A quiet run and the character that discards the frame: the receiver, and the frame fault of the port (R185). -/
theorem State.receiveAll_fault {cs : List LineChar} (h : QuietRun (s.portOf p).rx cs rx)
    (hstep : rxStep rx c = (rx', .fault)) :
    s.receiveAll p (cs ++ [c]) = (s.withRx p rx').latch (.frameFault p) := by
  rw [State.receiveAll_snoc, State.receiveAll_quiet h, State.receive_fault (rx := rx') (by rwa [State.portOf_withRx_rx]),
    State.withRx_withRx]

/-- What a valid frame does begins with the receiver, whatever it held before (R184). -/
theorem State.portFrame_withRx (s : State) (p : Port) (rx : Rx) (f : Frame) :
    (s.withRx p rx).portFrame p f = s.portFrame p f := by
  cases p with
  | lane l =>
    have harrives : (s.withRx (.lane l) rx).laneFrameArrives l = s.laneFrameArrives l := by
      rw [State.withRx_lane, State.laneFrameArrives, State.onLane_onLane]
      rfl
    simp only [State.portFrame, State.laneFrame, harrives]
  | station => rfl

/-- A quiet run and the closing flag of a valid frame: the frame is handed off (R186). -/
theorem State.receiveAll_frame {cs : List LineChar} {f : Frame} (h : QuietRun (s.portOf p).rx cs rx)
    (hstep : rxStep rx c = (rx', .frame f)) : s.receiveAll p (cs ++ [c]) = s.portFrame p f := by
  rw [State.receiveAll_snoc, State.receiveAll_quiet h, State.receive_frame (rx := rx') (by rwa [State.portOf_withRx_rx]),
    State.portFrame_withRx, State.portFrame_withRx]

end

/-- Settles O14: the run and the discarding character, and the abort sequence, each on both kinds of port. -/
theorem discardsAndAbortsAtThePort : Obligations.DiscardsAndAbortsAtThePort := by
  refine ⟨fun s p cs c rx rx' hp hrx hquiet hstep => ⟨(s.withRx p rx').latch (.frameFault p), ?_, ?_⟩,
    fun s p hp => ⟨s.withRx p Rx.opened, State.powered_eq hp fun s => s.withRx p Rx.opened, ?_⟩⟩
  · rw [← State.receiveAll_fault ⟨hrx, hquiet⟩ hstep]
    exact State.powered_eq hp fun s => s.receiveAll p (cs ++ [c])
  · cases p <;> rfl
  · cases p <;> rfl

/-! ### The hand-off of a valid frame (R186, R200) -/

/-- A lane request of each kind, dealt with. -/
def State.laneRequest (s : State) (l : LaneNo) (k : LaneKind) (tag : Byte) (body : List Byte) : State :=
  match k with
  | .openReq => s.openRequest l tag body
  | .proveReq => s.proveRequest l tag body
  | .sealReq => s.sealRequest l tag body
  | .dropReq => s.dropRequest l tag body
  | .pollReq => s.pollRequest l tag body

/-- The rows of a lane port are requests of one kind each. -/
theorem Instr.laneKind_of_request {i : Instr} {l : LaneNo} {kind tag : Byte} {body : List Byte}
    (hi : i.request = some (.lane l, kind, tag, body)) :
    ∃ k : LaneKind, k.code = kind
      ∧ ∀ s, exec i s = s.powered fun s => s.laneFrame l fun t => t.laneRequest l k tag body := by
  cases i <;> cases hi
  case openReq => exact ⟨.openReq, rfl, fun _ => rfl⟩
  case proveReq => exact ⟨.proveReq, rfl, fun _ => rfl⟩
  case sealReq => exact ⟨.sealReq, rfl, fun _ => rfl⟩
  case dropReq => exact ⟨.dropReq, rfl, fun _ => rfl⟩
  case pollReq => exact ⟨.pollReq, rfl, fun _ => rfl⟩

theorem laneKind_code (k : LaneKind) : laneKind k.code = some k := by cases k <;> rfl

theorem stationKind_code (k : StationKind) : stationKind k.code = some k := by cases k <;> rfl

theorem StationKind.code_ne_statusKind (k : StationKind) : k.code ≠ statusKind := by cases k <;> decide

theorem laneKind_eq_none {kind : Byte} (h : kind ∉ ([0x01, 0x02, 0x03, 0x04, 0x05] : List Byte)) : laneKind kind = none := by
  refine List.find?_eq_none.mpr fun k _ hk => h ?_
  rw [← beq_iff_eq.mp hk]
  cases k <;> decide

theorem stationKind_eq_none {kind : Byte}
    (h : kind ∉ ([0x11, 0x12, 0x13, 0x14, 0x15, 0x20, 0x21, 0x22, 0x28, 0x29, 0x30, 0x38, 0x39, 0x3A] : List Byte)) :
    stationKind kind = none := by
  refine List.find?_eq_none.mpr fun k _ hk => h ?_
  rw [← beq_iff_eq.mp hk]
  cases k <;> decide

section
variable (s : State) (l : LaneNo) {f : Frame}

theorem State.handLane_request (k : LaneKind) (hlen : f.length.toNat = f.body.length) (hk : f.kind = k.code) :
    s.handLane l f = s.laneRequest l k f.tag f.body := by
  rw [State.handLane, if_neg (not_not.mpr hlen), hk, laneKind_code]
  cases k <;> rfl

theorem State.handStation_status (hlen : f.length.toNat = f.body.length) (hk : f.kind = statusKind) :
    s.handStation f = s.statusRequest f.tag f.body := (if_neg (not_not.mpr hlen)).trans (if_pos hk)

theorem State.handStation_request (k : StationKind) (hlen : f.length.toNat = f.body.length) (hk : f.kind = k.code) :
    s.handStation f = s.stationRequest k f.tag f.body := by
  rw [State.handStation, if_neg (not_not.mpr hlen), hk, if_neg k.code_ne_statusKind, stationKind_code]

/-- A length byte that disagrees with the body, or a kind unknown to the port, is answered MALFORMED. -/
theorem State.handLane_malformed
    (h : f.length.toNat ≠ f.body.length ∨ f.kind ∉ ([0x01, 0x02, 0x03, 0x04, 0x05] : List Byte)) :
    s.handLane l f = s.laneReply l f.kind f.tag (.code .malformed) := by
  rw [State.handLane]
  split
  · rfl
  · next hlen => rw [laneKind_eq_none (h.resolve_left hlen)]

theorem State.handStation_malformed
    (h : f.length.toNat ≠ f.body.length
      ∨ f.kind ∉ ([0x10, 0x11, 0x12, 0x13, 0x14, 0x15, 0x20, 0x21, 0x22, 0x28, 0x29, 0x30, 0x38, 0x39, 0x3A] : List Byte)) :
    s.handStation f = s.stationReply f.kind f.tag (.code .malformed) := by
  rw [State.handStation]
  split
  · rfl
  · next hlen =>
    obtain ⟨hstatus, hqueued⟩ := not_or.mp (List.mem_cons.not.mp (h.resolve_left hlen))
    rw [if_neg (show f.kind ≠ statusKind from hstatus), stationKind_eq_none hqueued]

end

/-- Settles O15: with a free place the hand-off follows the arrival. -/
theorem malformedFrameAnswered : Obligations.MalformedFrameAnswered := by
  refine ⟨fun s l kind tag length body hready hbad => ?_, fun s kind tag length body hp hfree hbad => ?_⟩
  · refine (State.powered_laneFrame hready _).trans ?_
    rw [State.handLane_malformed _ l hbad]
    rfl
  · refine (State.powered_stationFrame hp hfree _).trans ?_
    rw [State.handStation_malformed _ hbad]
    rfl

/-- The row of the station port whose kind is STATUS. -/
theorem Instr.status_of_request {i : Instr} {tag : Byte} {body : List Byte}
    (hi : i.request = some (.station, statusKind, tag, body)) : i = .statusReq tag body := by
  cases i <;> cases hi
  rfl

/-- A request's row does what a valid frame of its kind does on its port. -/
theorem exec_request {i : Instr} {p : Port} {f : Frame} (hi : i.request = some (p, f.kind, f.tag, f.body))
    (hlen : f.length.toNat = f.body.length) (s : State) : exec i s = s.powered fun s => s.portFrame p f := by
  cases p with
  | lane l =>
    obtain ⟨k, hk, hexec⟩ := Instr.laneKind_of_request hi
    simp only [hexec, State.portFrame, State.handLane_request _ l k hlen hk.symm]
  | station =>
    by_cases hstatus : f.kind = statusKind
    · rw [hstatus] at hi
      rw [Instr.status_of_request hi]
      simp only [State.portFrame, State.handStation_status _ hlen hstatus]
      rfl
    · obtain ⟨k, hk, hexec⟩ := Instr.stationKind_of_request hi hstatus
      simp only [hexec, State.portFrame, State.handStation_request _ k hlen hk.symm]

/-- Settles O12: the characters come down to the frame handed off, and so does the row. -/
theorem requestFrameReceivedIsItsRow : Obligations.RequestFrameReceivedIsItsRow := by
  intro i p kind tag body s hi hlen hrx
  have hfront := quietRun_frameFront hrx (frameContent_fits kind tag hlen)
  have hreceived : s.receiveAll p ((frameLine (frameContent kind tag body)).map LineChar.byte) =
      s.portFrame p (formedFrame kind tag body) := by
    rw [frameLine_chars]
    exact State.receiveAll_frame hfront (rxStep_closingFlag kind tag body)
  rw [exec_request (f := formedFrame kind tag body) hi (formedFrame_length kind tag hlen), State.powered, State.powered,
    hreceived]

/-! ### The arrival of a valid frame (R33, R184, R190, R192) -/

/-- Settles O17: the lane after the arrival, its deadline by the timeout. -/
theorem frameArrival : Obligations.FrameArrival := by
  refine ⟨fun _ => rfl, fun s l => ?_⟩
  intro t ln old
  have hlane : ln = { old with
      port := { old.port with rx := Rx.opened }
      linkUp := true
      linkDeadline := s.frameDeadline l old.linkDeadline
      lastFrame := some s.now
      notices := { old.notices with serviceChanged := old.notices.serviceChanged || !old.linkUp } } :=
    s.onLane_same l _
  have hnotices : ({ old.notices with serviceChanged := old.notices.serviceChanged || !old.linkUp } : Notices) =
      if old.linkUp then old.notices else { old.notices with serviceChanged := true } := by
    cases old.linkUp <;> simp
  have hdeadline : ln.linkDeadline = s.frameDeadline l old.linkDeadline := congrArg Lane.linkDeadline hlane
  refine ⟨rfl, fun k hk => s.laneFrameArrives_other hk, ?_, fun h => ?_, fun h => ?_⟩
  · rw [hdeadline, ← hnotices]
    exact hlane
  · exact hdeadline.trans (if_pos h)
  · exact ⟨_, hdeadline.trans (if_neg h), ticksOf_bounds _⟩

end Sys2Proof.Machine
end

section
/-! Proofs for the ports: the answer queue, the end of a transmission, and the expiry of a link (R8, R10, R32, R187 to R191). -/

namespace Sys2Proof.Machine

/-! ### The answer queue (R187, R188) -/

theorem PortState.enqueue_tx_busy {ps : PortState} (h : ps.answers ≠ []) (rate : Rate) (a : Answer) :
    (ps.enqueue rate a).tx = ps.tx := if_neg h

theorem PortState.enqueue_tx_first {ps : PortState} (h : ps.answers = []) (rate : Rate) (a : Answer) :
    (ps.enqueue rate a).tx = .sending a.line rate := if_pos h

theorem PortState.sent_tx (ps : PortState) (rate : Rate) :
    (ps.sent rate).tx = match ps.answers.drop 1 with | [] => .idle | b :: _ => .sending b.line rate := by
  cases h : ps.answers.drop 1 <;> simp only [PortState.sent, h]

theorem State.portOf_produce (s : State) (p : Port) (a : Answer) :
    (s.produce p a).portOf p = (s.portOf p).enqueue (s.rateOfPort p) a := s.portOf_onPort p _

/-- A lane after the answer at the head of its queue has been sent (R187, R8). -/
def Lane.answerSent (ln : Lane) (rate : Rate) (serial : Option Nat) : Lane :=
  { ln with port := ln.port.sent rate, queue := ln.queue.filter fun e => serial != some e.serial }

theorem State.answerSent_lane (s : State) (l : LaneNo) (a : Answer) :
    s.answerSent (.lane l) a = s.onLane l fun ln => ln.answerSent s.laneRate a.serial := by
  have hdrop (ln : Lane) : ln.dropEntry a.serial = { ln with queue := ln.queue.filter fun e => a.serial != some e.serial } := by
    rw [← Lane.queue_dropEntry]
    cases a.serial <;> rfl
  change (s.onLane l fun ln => { ln with port := ln.port.sent s.laneRate }).onLane l (fun ln => ln.dropEntry a.serial) = _
  simp only [State.onLane_onLane, hdrop]
  rfl

section
variable {s : State} {p : Port} {a : Answer} {rest : List Answer}

/-- The answer of a RESET is the only one whose end does more than free its place (R187, R169). -/
theorem exec_answerTransmitted (hq : (s.portOf p).answers = a :: rest) (hreset : a.beginsReset p = false) :
    exec (.answerTransmitted p) s = .next (s.answerSent p a).driveAlerts := by
  rw [exec, execAnswerTransmitted, hq]
  simp only [hreset, Bool.false_eq_true, if_false]

theorem Answer.beginsReset_station (a : Answer) (h : ¬ (a.kind = 0x15 ∧ a.reply = .code .ok)) :
    a.beginsReset .station = false := by
  refine Bool.eq_false_iff.mpr fun hreset => h ?_
  simpa [Answer.beginsReset, StationKind.code] using hreset

end

/-- Settles O18: the queue at a production, and the port and the lane queue at the end of a transmission. -/
theorem answersQueueInOrder : Obligations.AnswersQueueInOrder := by
  refine ⟨fun s p a => ?_, fun s l a rest hq => ?_, fun s a rest hq hno => ?_⟩
  · intro t
    have hport : t.portOf p = (s.portOf p).enqueue (s.rateOfPort p) a := s.portOf_produce p a
    refine ⟨by rw [hport, PortState.enqueue_answers], by rw [hport, PortState.enqueue_rx], fun h => ?_, fun h => ?_, ?_⟩
    · rw [hport, PortState.enqueue_tx_busy h]
    · rw [hport, PortState.enqueue_tx_first h]
      cases p <;> rfl
    · cases p with
      | lane l =>
        refine ⟨rfl, fun k hk => s.onLane_other l k _ hk, ?_⟩
        have hlane : t.lanes[l] = { s.lanes[l] with port := s.lanes[l].port.enqueue s.laneRate a } := s.onLane_same l _
        rw [hlane]
      | station => rfl
  · refine ⟨_, exec_answerTransmitted (p := .lane l) hq rfl, ?_⟩
    rw [State.answerSent_lane]
    refine ⟨rfl, fun k hk => s.onLane_other l k _ hk, ?_⟩
    rw [State.onLane_same]
    refine ⟨rfl, ?_, PortState.sent_rx _ _, ?_, rfl⟩
    · exact (PortState.sent_answers _ _).trans (by rw [hq]; rfl)
    · exact (PortState.sent_tx _ _).trans (by rw [hq]; rfl)
  · refine ⟨_, exec_answerTransmitted (p := .station) hq (a.beginsReset_station hno), rfl, ?_, PortState.sent_rx _ _, ?_⟩
    · exact (PortState.sent_answers _ _).trans (by rw [hq]; rfl)
    · exact (PortState.sent_tx _ _).trans (by rw [hq]; rfl)

/-! ### A flag latched before or after the endings of contexts

No ending reads a latched flag. -/

section
variable (s : State) (f : Flag)

theorem State.release_latch (n : SlotNo) : (s.latch f).release n = (s.release n).latch f := by
  have herase (s : State) : (s.latch f).eraseIfUnused n = (s.eraseIfUnused n).latch f := by
    unfold State.eraseIfUnused
    rw [State.latch_slots]
    split
    · split
      · rw [← State.requestStore_latch]
        rfl
      · rfl
    · rfl
  exact herase (s.onSlot n fun sl => { sl with refs := sl.refs - 1 })

theorem State.releaseClaim_latch (l : LaneNo) (c : CtxNo) : (s.latch f).releaseClaim l c = (s.releaseClaim l c).latch f := by
  rw [State.releaseClaim_frame, State.releaseClaim_frame s, State.releaseClaim_table, State.releaseClaim_table]
  rfl

theorem State.endContext_latch (l : LaneNo) (c : CtxNo) (cause : EndCause) :
    (s.latch f).endContext l c cause = (s.endContext l c cause).latch f := by
  have hfree (s : State) : (s.latch f).freeContext l c cause = (s.freeContext l c cause).latch f := by cases cause <;> rfl
  unfold State.endContext
  dsimp only
  rw [show (s.latch f).ctx l c = s.ctx l c from rfl]
  cases (s.ctx l c).body.master <;> cases (s.ctx l c).body.hasClaim <;>
    simp only [Bool.false_eq_true, if_true, if_false, State.release_latch, State.releaseClaim_latch, hfree]

theorem State.reachEnd_latch (l : LaneNo) (c : CtxNo) (p : PendingEnd) :
    (s.latch f).reachEnd l c p = (s.reachEnd l c p).latch f := by
  unfold State.reachEnd
  rw [show (s.latch f).ctx l c = s.ctx l c from rfl]
  split
  · rfl
  · split
    · rfl
    · exact s.endContext_latch f l c p.cause

end

/-! ### LINK_EXPIRY (R32, R189, R191) -/

/-- The lane cleared and LANE_DOWN latched, before its contexts are reached. -/
theorem State.linkDown_eq (s : State) (l : LaneNo) :
    s.linkDown l =
      ((((s.onLane l Lane.cleared).latch (.laneDown l)).reachEnd l 0 .laneReset).reachEnd l 1 .laneReset).reachEnd l 2
        .laneReset := by
  rw [State.linkDown, State.resetContexts_eq]
  simp only [State.reachEnd_latch]

section
variable {s : State} {l : LaneNo}

theorem State.linkDeadlineReached_iff :
    s.linkDeadlineReached l = true ↔
      s.lanes[l].linkUp = true ∧ ∃ d, s.lanes[l].linkDeadline = some d ∧ d ≤ s.now := by
  unfold State.linkDeadlineReached
  cases s.lanes[l].linkUp <;> cases s.lanes[l].linkDeadline <;> simp

theorem execLinkExpiry_reached (h : s.linkDeadlineReached l = true) :
    exec (.linkExpiry l) s = .next (s.linkDown l).driveAlerts := if_pos h

theorem execLinkExpiry_ahead (h : ¬ s.linkDeadlineReached l = true) : exec (.linkExpiry l) s = .next s := if_neg h

end

/-- Settles O30: the lane cleared, then the contexts; and no event without a deadline reached on an UP link. -/
theorem linkExpires : Obligations.LinkExpires := by
  refine fun s l => ⟨fun d hup hdeadline hd => ⟨(s.onLane l Lane.cleared).latch (.laneDown l), ?_, rfl, ?_, ?_⟩,
    fun h => execLinkExpiry_ahead fun hreached => ?_⟩
  · rw [execLinkExpiry_reached (State.linkDeadlineReached_iff.mpr ⟨hup, d, hdeadline, hd⟩), State.linkDown_eq]
  · exact fun k hk => s.onLane_other l k _ hk
  · exact s.onLane_same l _
  · obtain ⟨hup, d, hdeadline, hd⟩ := State.linkDeadlineReached_iff.mp hreached
    obtain hdown | hahead := h
    · exact Bool.false_ne_true (hdown.symm.trans hup)
    · exact Nat.not_le.mpr (hahead d hdeadline) hd

end Sys2Proof.Machine
end

section
/-! Proofs for the message layouts: the readers of the lane request bodies (R201) and the bodies they refuse (R11). -/

namespace Sys2Proof.Machine

/-! ### The context number (R11) -/

theorem ctxNo_of_lt {n : Nat} (h : n < 3) : ctxNo n = some ⟨n, h⟩ := dif_pos h

theorem ctxNo_of_gt {n : Nat} (h : 2 < n) : ctxNo n = none := dif_neg (by omega)

/-! ### Bodies written out field by field (R201) -/

theorem readOpen_wire (id : TagId) (g : Gen) (c : Counter) (n : BitVec 32) :
    readOpen (wire 6 id ++ wire 2 g ++ wire 2 c ++ wire 4 n) =
      if 1 ≤ g.toNat ∧ g.toNat ≤ 4095 then some { tagId := id, generation := g, counter := c, nonce := n } else none := by
  unfold readOpen
  simp only [List.append_assoc]
  simp (disch := omega) [fieldAt_wire_skip, fieldAt_head, fieldAt_whole]

theorem readProve_wire (ctx ticket : Byte) (r : Mac) :
    readProve ([ctx, ticket] ++ wire 8 r) =
      (ctxNo ctx.toNat).map fun c => { ctx := c, ticket := ticket, response := r } := by
  simp (disch := omega) [readProve, fieldAt_cons, fieldAt_whole]

theorem readSeal_wire (first ticket : Byte) (ref : BitVec 16) :
    readSeal ([first, ticket] ++ wire 2 ref) =
      if first.toNat % 64 ≤ 15 then
        (ctxNo (first.toNat / 64)).map fun c =>
          { ctx := c, ticket := ticket, vehicleClass := BitVec.ofNat 4 (first.toNat % 64), readerRef := ref }
      else none := by
  simp (disch := omega) [readSeal, fieldAt_cons, fieldAt_whole]

theorem readDrop_pair (ctx ticket : Byte) :
    readDrop [ctx, ticket] = (ctxNo ctx.toNat).map fun c => { ctx := c, ticket := ticket } := rfl

/-! ### Bodies of another length (R11, R197) -/

theorem readOpen_length {b : List Byte} (h : b.length ≠ 14) : readOpen b = none := if_neg fun hb => h hb.1

theorem readProve_length {b : List Byte} (h : b.length ≠ 10) : readProve b = none := if_neg h

theorem readSeal_length {b : List Byte} (h : b.length ≠ 4) : readSeal b = none := if_neg fun hb => h hb.1

theorem readDrop_length {b : List Byte} (h : b.length ≠ 2) : readDrop b = none := if_neg h

theorem readEmpty_eq_none_iff (b : List Byte) : readEmpty b = none ↔ b ≠ [] := by
  simp [readEmpty]

/-- Settles O21: each reader on a body written out, by the range of its context number, and on a body of another length. -/
theorem laneBodiesRead : Obligations.LaneBodiesRead := by
  refine ⟨readOpen_wire, fun ctx ticket r => ⟨fun h => ?_, fun h => ?_⟩, fun first ticket ref => ⟨fun h hclass => ?_, fun h => ?_⟩,
    fun ctx ticket => ⟨fun h => ?_, fun h => ?_⟩, fun _ => readOpen_length, fun _ => readProve_length,
    fun _ => readSeal_length, fun _ => readDrop_length, readEmpty_eq_none_iff⟩
  · rw [readProve_wire, ctxNo_of_lt h, Option.map_some]
  · rw [readProve_wire, ctxNo_of_gt h, Option.map_none]
  · rw [readSeal_wire, if_pos hclass, ctxNo_of_lt h, Option.map_some]
  · rw [readSeal_wire]
    split
    · next hclass =>
      have hctx : first.toNat / 64 = 3 := h.resolve_right (Nat.not_lt.mpr hclass)
      rw [ctxNo_of_gt (by omega), Option.map_none]
    · rfl
  · rw [readDrop_pair, ctxNo_of_lt h, Option.map_some]
  · rw [readDrop_pair, ctxNo_of_gt h, Option.map_none]

end Sys2Proof.Machine
end

section
/-! Proofs for the message layouts: what a reader finds at each offset of the answer bodies and of the transit record (R196
to R198, R200 to R205). -/

namespace Sys2Proof.Machine

/-! ### A field of a body as a number (R196) -/

/-- The number that the `n` bytes at offset `off` of a body spell. -/
def fieldNat (b : List Byte) (off n : Nat) : Nat := numberOf ((b.drop off).take n)

/-- The readers of the request bodies take a field from the same number. -/
theorem fieldAt_eq_ofNat_fieldNat (w : Nat) (b : List Byte) (off n : Nat) :
    fieldAt w b off n = BitVec.ofNat w (fieldNat b off n) := rfl

@[simp] theorem fieldNat_cons_zero (x : Byte) (rest : List Byte) : fieldNat (x :: rest) 0 1 = x.toNat := by
  simp [fieldNat, numberOf]

@[simp] theorem fieldNat_cons_succ (x : Byte) (rest : List Byte) (off n : Nat) :
    fieldNat (x :: rest) (off + 1) n = fieldNat rest off n := rfl

/-- A field does not see the bytes in front of it. -/
@[simp] theorem fieldNat_append_skip {front : List Byte} {off : Nat} (rest : List Byte) (n : Nat) (h : front.length ≤ off) :
    fieldNat (front ++ rest) off n = fieldNat rest (off - front.length) n := by
  simp [fieldNat, List.drop_append, List.drop_of_length_le h]

/-- A number that fits its field is found there. -/
theorem fieldNat_bytesOf {n v : Nat} (rest : List Byte) (h : v < 256 ^ n) : fieldNat (bytesOf n v ++ rest) 0 n = v := by
  rw [fieldNat, List.drop_zero, List.take_left' (bytesOf_length n v), numberOf_bytesOf, Nat.mod_eq_of_lt h]

@[simp] theorem fieldNat_wire {w n : Nat} (v : BitVec w) (rest : List Byte) (h : w ≤ 8 * n) :
    fieldNat (wire n v ++ rest) 0 n = v.toNat := by
  refine fieldNat_bytesOf rest (lt_of_lt_of_le v.isLt ?_)
  calc 2 ^ w ≤ 2 ^ (8 * n) := Nat.pow_le_pow_right (by norm_num) h
    _ = 256 ^ n := by rw [pow_mul]; norm_num

/-- A field that ends the body. -/
@[simp] theorem fieldNat_wire_last {w n : Nat} (v : BitVec w) (h : w ≤ 8 * n) : fieldNat (wire n v) 0 n = v.toNat := by
  rw [← List.append_nil (wire n v), fieldNat_wire v [] h]

/-- Bytes of 0 spell 0. -/
theorem fieldNat_zeros (m n : Nat) : fieldNat (List.replicate m 0) 0 n = 0 := by
  rw [fieldNat, List.drop_zero, List.take_replicate]
  induction min n m with
  | zero => rfl
  | succ k ih =>
    rw [List.replicate_succ, numberOf_cons, ih, Nat.add_zero]
    exact Nat.zero_mul _

/-! ### Flag bytes (R196) -/

/-- The byte at an offset holds these flags from bit 0 up, and 0 above them. -/
def FlagsAt (b : List Byte) (off : Nat) (flags : List Bool) : Prop :=
  ∀ i, i < 8 → (fieldNat b off 1).testBit i = flags.getD i false

/-- The byte that holds flags from bit `k` up. -/
def flagByte : Nat → List Bool → Byte
  | _, [] => 0
  | k, f :: fs => flagBit k f ||| flagByte (k + 1) fs

theorem getLsbD_flagBit (k : Nat) (f : Bool) {i : Nat} (h : i < 8) : (flagBit k f).getLsbD i = (f && decide (i = k)) := by
  cases f
  · simp [flagBit]
  · have hbit : flagBit k true = BitVec.twoPow 8 k := rfl
    rw [hbit, BitVec.getLsbD_twoPow, Bool.true_and]
    by_cases hk : i = k
    · simp [hk, hk ▸ h]
    · simp [hk, Ne.symm hk]

theorem getLsbD_flagByte (flags : List Bool) (k : Nat) {i : Nat} (h : i < 8) :
    (flagByte k flags).getLsbD i = (decide (k ≤ i) && flags.getD (i - k) false) := by
  induction flags generalizing k with
  | nil => simp [flagByte]
  | cons f fs ih =>
    rw [flagByte, BitVec.getLsbD_or, getLsbD_flagBit k f h, ih]
    obtain hlt | rfl | hgt := Nat.lt_trichotomy i k
    · simp [hlt.ne, hlt.not_ge, (hlt.trans k.lt_succ_self).not_ge]
    · simp
    · obtain ⟨d, rfl⟩ := Nat.exists_eq_add_of_lt hgt
      simp [show k + d + 1 - k = d + 1 by omega, show k + d + 1 - (k + 1) = d by omega, hgt.ne', hgt.le]

/-- A body whose byte at an offset is the byte of these flags holds them there. -/
theorem flagsAt_of_flagByte {b : List Byte} {off : Nat} {flags : List Bool} (h : fieldNat b off 1 = (flagByte 0 flags).toNat) :
    FlagsAt b off flags := fun i hi => by
  rw [h]
  exact (getLsbD_flagByte flags 0 hi).trans (by simp)

/-! ### Bytes and fields of one value -/

/-- A number of a range of at most 256 fits a byte. -/
@[simp] theorem val_mod_byte {m : Nat} (k : Fin m) (h : m ≤ 256) : k.val % 256 = k.val :=
  Nat.mod_eq_of_lt (k.isLt.trans_le h)

@[simp] theorem toNat_boolByte (b : Bool) : (boolByte b).toNat = if b then 1 else 0 := by cases b <;> rfl

@[simp] theorem fractionQuality_length (f : BitVec 10) (u : Bool) : (fractionQuality f u).length = 2 := bytesOf_length 2 _

@[simp] theorem fieldNat_fractionQuality (f : BitVec 10) (u : Bool) (rest : List Byte) :
    fieldNat (fractionQuality f u ++ rest) 0 2 = f.toNat + if u then 32768 else 0 :=
  fieldNat_bytesOf rest (by split <;> omega)

@[simp] theorem expiryWire_length (e : Option Seconds) : (expiryWire e).length = 4 := by cases e <;> simp [expiryWire]

/-- An expiry time of none reads as FFFFFFFF hex (R198). -/
theorem fieldNat_expiryWire (e : Option Seconds) (rest : List Byte) :
    fieldNat (expiryWire e ++ rest) 0 4 = (match e with | some e => e.toNat | none => 4294967295) := by
  cases e with
  | none => simp [expiryWire, fieldNat, numberOf]
  | some e => simp [expiryWire]

@[simp] theorem genWire_length (g : Option Gen) : (genWire g).length = 2 := by cases g <;> simp [genWire]

/-- A generation of none reads as 0 (R198). -/
theorem fieldNat_genWire (g : Option Gen) : fieldNat (genWire g) 0 2 = (match g with | some g => g.toNat | none => 0) := by
  cases g with
  | none => rfl
  | some g => simp [genWire]

@[simp] theorem Notice.wire_length (n : Notice) : n.wire.length = 4 := by cases n <;> rfl

/-! ### The tables of codes (R200) -/

/-- The codes of the outcomes. -/
def outcomeCodes : List (Code × Nat) :=
  [(.ok, 0x00), (.busy, 0x01), (.notReady, 0x02), (.malformed, 0x03), (.seedRequired, 0x04), (.laneOff, 0x05),
    (.noContext, 0x06), (.stale, 0x07), (.inProgress, 0x08), (.wrongState, 0x09), (.expired, 0x0A), (.denied, 0x0B),
    (.unrouted, 0x0C), (.oldGeneration, 0x0D), (.unknownGeneration, 0x0E), (.generationPending, 0x0F),
    (.generationExpired, 0x10), (.keyWithdrawn, 0x11), (.authFailed, 0x12), (.noSigningKey, 0x13), (.dropped, 0x14),
    (.slotRange, 0x20), (.slotOccupied, 0x21), (.slotEmpty, 0x22), (.slotBusy, 0x23), (.duplicateGeneration, 0x24),
    (.notHome, 0x25), (.windowPast, 0x26), (.checkFailed, 0x27), (.storeFailed, 0x28), (.routeRange, 0x29),
    (.valueRange, 0x2A)]

theorem Reply.bytes_code_of_mem {c : Code} {n : Nat} (h : (c, n) ∈ outcomeCodes) :
    (Reply.code c).bytes = [BitVec.ofNat 8 n] := by
  have hall : ∀ x ∈ outcomeCodes, x.1.byte = BitVec.ofNat 8 x.2 := by decide
  rw [Reply.bytes, hall _ h]

/-- The codes of the slot states. -/
def slotStateCodes : List (SlotState × Nat) :=
  [(.empty, 0), (.loading, 1), (.staged, 2), (.active, 3), (.expired, 4), (.withdrawn, 5), (.erasing, 6)]

theorem SlotState.toNat_byte_of_mem {st : SlotState} {n : Nat} (h : (st, n) ∈ slotStateCodes) : st.byte.toNat = n := by
  have hall : ∀ x ∈ slotStateCodes, x.1.byte.toNat = x.2 := by decide
  exact hall _ h

theorem Verdict.toNat_byte (v : Verdict) :
    v.byte.toNat = (match v with
      | .new => 1 | .suspect => 2 | .duplicate => 3 | .reread => 4 | .rereadUnwritten => 5 | .suspectHeld => 6) := by
  cases v <;> rfl

theorem LostCause.toNat_byte (x : LostCause) : x.byte.toNat = (match x with | .expired => 1 | .revoked => 2) := by
  cases x <;> rfl

theorem Service.toNat_byte (x : Service) :
    x.byte.toNat = (match x with | .starting => 0 | .seedWait => 1 | .serving => 2) := by
  cases x <;> rfl

theorem LaneState.toNat_byte (x : LaneState) : x.byte.toNat = (match x with | .up => 0 | .down => 1 | .off => 2) := by
  cases x <;> rfl

theorem ArbMode.toNat_byte (m : ArbMode) :
    m.byte.toNat = (match m with | .rotating => 0 | .fixedUp => 1 | .fixedDown => 2) := by
  cases m <;> rfl

theorem Rate.toNat_byte (r : Rate) :
    r.byte.toNat = (match r with | .r115200 => 0 | .r230400 => 1 | .r460800 => 2 | .r921600 => 3) := by
  cases r <;> rfl

theorem Role.toNat_byte (r : Role) : r.byte.toNat = (match r with | .tagMaster => 1 | .record => 2) := by
  cases r <;> rfl

/-! ### The bodies of the lane answers (R201, R203) -/

/-- A body of outcome OK and of a given length (R197). -/
def OkBody (b : List Byte) (n : Nat) : Prop := b.length = n ∧ fieldNat b 0 1 = 0

theorem Reply.bytes_opened (c : CtxNo) (ticket : BitVec 8) (ch : Mac) :
    let b := (Reply.opened c ticket ch).bytes
    OkBody b 11 ∧ fieldNat b 1 1 = c.val ∧ fieldNat b 2 1 = ticket.toNat ∧ fieldNat b 3 8 = ch.toNat := by
  simp [Reply.bytes, OkBody]

theorem Reply.bytes_verdict (v : Verdict) (watch suspect : Bool) (owner : Option LaneNo) (time : Option Seconds) :
    let b := (Reply.verdict v watch suspect owner time).bytes
    OkBody b 8
      ∧ fieldNat b 1 1 = (match v with
        | .new => 1 | .suspect => 2 | .duplicate => 3 | .reread => 4 | .rereadUnwritten => 5 | .suspectHeld => 6)
      ∧ FlagsAt b 2 [watch, suspect, owner.isSome, time.isSome]
      ∧ fieldNat b 3 1 = (match owner with | some l => l.val | none => 0)
      ∧ fieldNat b 4 4 = (match time with | some t => t.toNat | none => 0) := by
  refine ⟨by simp [Reply.bytes, OkBody], ?_, flagsAt_of_flagByte ?_, ?_, ?_⟩
  · simp [Reply.bytes, v.toNat_byte]
  · simp [Reply.bytes, flagByte, BitVec.or_assoc]
  · cases owner <;> simp [Reply.bytes]
  · cases time <;> simp [Reply.bytes]

theorem Reply.bytes_record (r : TransitRecord) (mac : Mac) :
    let b := (Reply.record r mac).bytes
    OkBody b 33 ∧ (b.drop 1).take 24 = r.bytes ∧ fieldNat b 25 8 = mac.toNat := by
  simp [Reply.bytes, OkBody, r.bytes_length]

theorem TransitRecord.bytes_fields (r : TransitRecord) :
    let b := r.bytes
    b.length = 24 ∧ fieldNat b 0 2 = r.gantry.toNat ∧ fieldNat b 2 1 = r.lane.val ∧ fieldNat b 3 4 = r.seconds.toNat
      ∧ fieldNat b 7 2 = r.fraction.toNat + (if r.unsynchronised then 32768 else 0)
      ∧ fieldNat b 9 6 = r.tagId.toNat ∧ fieldNat b 15 1 = r.issuer.toNat ∧ fieldNat b 16 2 = r.counter.toNat
      ∧ fieldNat b 18 1 = r.vehicleClass.toNat ∧ fieldNat b 19 2 = r.generation.toNat
      ∧ FlagsAt b 21 [r.holdover, r.suspect, r.watch] ∧ fieldNat b 22 2 = r.readerRef.toNat := by
  have hflags : FlagsAt r.bytes 21 [r.holdover, r.suspect, r.watch] :=
    flagsAt_of_flagByte (by simp [TransitRecord.bytes, flagByte, BitVec.or_assoc])
  refine ⟨r.bytes_length, ?_, ?_, ?_, ?_, ?_, ?_, ?_, ?_, ?_, hflags, ?_⟩ <;> simp [TransitRecord.bytes]
  omega

theorem Reply.bytes_poll (p : PollReport) :
    let b := (Reply.poll p).bytes
    OkBody b 11
      ∧ (match p.notice with
        | .none => fieldNat b 1 4 = 0
        | .contextLost c ticket cause =>
          fieldNat b 1 1 = 1 ∧ fieldNat b 2 1 = c.val ∧ fieldNat b 3 1 = ticket.toNat
            ∧ fieldNat b 4 1 = (match cause with | .expired => 1 | .revoked => 2)
        | .serviceChanged => fieldNat b 1 1 = 2 ∧ fieldNat b 2 3 = 0
        | .signingChanged => fieldNat b 1 1 = 3 ∧ fieldNat b 2 3 = 0)
      ∧ (p.left < 256 → fieldNat b 5 1 = p.left)
      ∧ fieldNat b 6 1 = (match p.service with | .starting => 0 | .seedWait => 1 | .serving => 2)
      ∧ fieldNat b 7 1 = (match p.lane with | .up => 0 | .down => 1 | .off => 2)
      ∧ FlagsAt b 8 [p.timeValid] ∧ fieldNat b 9 2 = (match p.signing with | some g => g.toNat | none => 0) := by
  refine ⟨by simp [Reply.bytes, OkBody], ?_, fun hleft => ?_, ?_, ?_, flagsAt_of_flagByte ?_, ?_⟩
  · cases hn : p.notice with
    | none => simp [Reply.bytes, hn, Notice.wire, fieldNat, numberOf]
    | contextLost c ticket cause => simp [Reply.bytes, hn, Notice.wire, cause.toNat_byte]
    | serviceChanged => simp [Reply.bytes, hn, Notice.wire, fieldNat, numberOf]
    | signingChanged => simp [Reply.bytes, hn, Notice.wire, fieldNat, numberOf]
  · simp [Reply.bytes, Nat.mod_eq_of_lt hleft]
  · simp [Reply.bytes, Service.toNat_byte]
  · simp [Reply.bytes, LaneState.toNat_byte]
  · simp [Reply.bytes, flagByte]
  · simpa [Reply.bytes] using fieldNat_genWire p.signing

/-! ### The bodies of the station answers (R202, R204, R205) -/

theorem Reply.bytes_status (r : StatusReport) :
    let b := (Reply.status r).bytes
    OkBody b 16 ∧ fieldNat b 1 3 = r.flags.toNat
      ∧ fieldNat b 4 1 = (match r.service with | .starting => 0 | .seedWait => 1 | .serving => 2)
      ∧ FlagsAt b 5 [r.timeValid, r.backupLow, r.storeBusy, r.boot.isSome]
      ∧ (∀ l : LaneNo, fieldNat b (6 + l.val) 1 = (match r.lanes[l] with | .up => 0 | .down => 1 | .off => 2))
      ∧ (r.entries < 65536 → fieldNat b 10 2 = r.entries)
      ∧ fieldNat b 12 4 = (match r.boot with | some n => n.toNat | none => 0) := by
  have hlanes : (List.finRange 4).map (fun l => (r.lanes[l]).byte) =
      [(r.lanes[(0 : LaneNo)]).byte, (r.lanes[(1 : LaneNo)]).byte, (r.lanes[(2 : LaneNo)]).byte,
        (r.lanes[(3 : LaneNo)]).byte] := rfl
  refine ⟨by simp [Reply.bytes, OkBody], ?_, ?_, flagsAt_of_flagByte ?_, fun l => ?_, fun hentries => ?_, ?_⟩
  · simp [Reply.bytes]
  · simp [Reply.bytes, Service.toNat_byte]
  · simp [Reply.bytes, flagByte, BitVec.or_assoc]
  · rw [← LaneState.toNat_byte, Reply.bytes, hlanes]
    fin_cases l <;> simp
  · simp [Reply.bytes, fieldNat_bytesOf, hentries]
  · cases hb : r.boot <;> simp [Reply.bytes, hb]

theorem Reply.bytes_lane (clamped : Bool) (l : LaneNo) (set : LaneSettings) :
    let b := (Reply.lane clamped l set).bytes
    OkBody b 8 ∧ FlagsAt b 1 [clamped] ∧ fieldNat b 2 1 = l.val ∧ fieldNat b 3 1 = (if set.enabled then 1 else 0)
      ∧ fieldNat b 4 2 = set.dwell.toNat ∧ fieldNat b 6 2 = set.linkTimeout.toNat := by
  refine ⟨?_, flagsAt_of_flagByte ?_, ?_⟩ <;> simp [Reply.bytes, laneWire, OkBody, flagByte]

theorem Reply.bytes_config (clamped : Bool) (c : ConfigItems) :
    let b := (Reply.config clamped c).bytes
    OkBody b 14 ∧ FlagsAt b 1 [clamped] ∧ fieldNat b 2 2 = c.gantry.toNat ∧ fieldNat b 4 1 = c.home.toNat
      ∧ fieldNat b 5 2 = c.window.toNat ∧ fieldNat b 7 2 = c.holdover.toNat
      ∧ fieldNat b 9 1 = (match c.mode with | .rotating => 0 | .fixedUp => 1 | .fixedDown => 2)
      ∧ fieldNat b 10 3 = c.mask.toNat
      ∧ fieldNat b 13 1 = (match c.rate with | .r115200 => 0 | .r230400 => 1 | .r460800 => 2 | .r921600 => 3) := by
  refine ⟨?_, flagsAt_of_flagByte ?_, ?_⟩
  · simp [Reply.bytes, configWire, OkBody]
  · simp [Reply.bytes, flagByte]
  · simp [Reply.bytes, configWire, ArbMode.toNat_byte, Rate.toNat_byte]

theorem Reply.bytes_loaded (st : SlotState) :
    OkBody (Reply.loaded st).bytes 2 ∧ fieldNat (Reply.loaded st).bytes 1 1 = st.byte.toNat := by
  simp [Reply.bytes, OkBody]

theorem Reply.bytes_withdrawn (st : SlotState) (refs : Nat) :
    let b := (Reply.withdrawn st refs).bytes
    OkBody b 3 ∧ fieldNat b 1 1 = st.byte.toNat ∧ (refs < 256 → fieldNat b 2 1 = refs) := by
  simp [Reply.bytes, OkBody]

theorem Reply.bytes_slot_empty (st : SlotState) (refs : Nat) :
    let b := (Reply.slot st none refs).bytes
    OkBody b 19 ∧ fieldNat b 1 1 = st.byte.toNat ∧ fieldNat b 2 17 = 0 :=
  ⟨by simp [Reply.bytes, OkBody], by simp [Reply.bytes], fieldNat_zeros 17 17⟩

theorem Reply.bytes_slot (st : SlotState) (d : KeyReport) (refs : Nat) :
    let b := (Reply.slot st (some d) refs).bytes
    OkBody b 19 ∧ fieldNat b 1 1 = st.byte.toNat ∧ fieldNat b 2 1 = d.issuer.toNat
      ∧ fieldNat b 3 1 = (match d.role with | .tagMaster => 1 | .record => 2)
      ∧ fieldNat b 4 2 = d.generation.toNat ∧ fieldNat b 6 4 = d.activation.toNat
      ∧ fieldNat b 10 4 = (match d.expiry with | some e => e.toNat | none => 4294967295)
      ∧ fieldNat b 14 4 = d.check.toNat ∧ (refs < 256 → fieldNat b 18 1 = refs) := by
  simp [Reply.bytes, OkBody, Role.toNat_byte, fieldNat_expiryWire]

theorem Reply.bytes_route (clamped : Bool) (i : RouteNo) (r : Route) :
    let b := (Reply.route clamped i r).bytes
    OkBody b 19 ∧ FlagsAt b 1 [clamped] ∧ fieldNat b 2 1 = i.val ∧ FlagsAt b 3 [r.deny, r.watch, r.strict, r.enabled]
      ∧ fieldNat b 4 6 = r.compare.toNat ∧ fieldNat b 10 6 = r.mask.toNat ∧ fieldNat b 16 1 = r.issuer.toNat
      ∧ fieldNat b 17 2 = r.minGen.toNat := by
  refine ⟨?_, flagsAt_of_flagByte ?_, ?_, flagsAt_of_flagByte ?_, ?_⟩ <;>
    simp [Reply.bytes, routeWire, routeFlags, OkBody, flagByte, BitVec.or_assoc]

theorem Reply.bytes_cleared (i : RouteNo) (before : Bool) :
    let b := (Reply.cleared i before).bytes
    OkBody b 2 ∧ fieldNat b 1 1 = (if before then 1 else 0) := by
  simp [Reply.bytes, OkBody]

theorem Reply.bytes_passage_none :
    let b := (Reply.passage none).bytes
    OkBody b 14 ∧ fieldNat b 1 13 = 0 :=
  ⟨by simp [Reply.bytes, OkBody], fieldNat_zeros 13 13⟩

theorem Reply.bytes_passage_some (p : PassageReport) :
    let b := (Reply.passage (some p)).bytes
    OkBody b 14 ∧ fieldNat b 1 1 = (if p.claimed then 1 else 2) ∧ fieldNat b 2 1 = p.lane.val
      ∧ fieldNat b 3 2 = p.counter.toNat
      ∧ fieldNat b 5 4 = (match p.sealTime with | some t => t.toNat | none => 0)
      ∧ (∀ left, p.secondsLeft = some left → left < 65536 → fieldNat b 9 2 = left)
      ∧ (p.secondsLeft = none → fieldNat b 9 2 = 0)
      ∧ fieldNat b 11 1 = (if p.previous.isSome then 1 else 0)
      ∧ fieldNat b 12 2 = (match p.previous with | some k => k.toNat | none => 0) := by
  refine ⟨by simp [Reply.bytes, OkBody], ?_, ?_, ?_, ?_, fun left hleft hfits => ?_, fun hleft => ?_, ?_, ?_⟩
  · cases hc : p.claimed <;> simp [Reply.bytes, hc]
  · simp [Reply.bytes]
  · simp [Reply.bytes]
  · cases ht : p.sealTime <;> simp [Reply.bytes, ht]
  · simp [Reply.bytes, fieldNat_bytesOf, hleft, hfits]
  · simp [Reply.bytes, fieldNat_bytesOf, hleft]
  · simp [Reply.bytes]
  · cases hk : p.previous <;> simp [Reply.bytes, hk]

theorem Reply.bytes_timeSet (t : Seconds) (f : BitVec 10) (valid : Bool) :
    let b := (Reply.timeSet t f valid).bytes
    OkBody b 8 ∧ fieldNat b 1 4 = t.toNat ∧ fieldNat b 5 2 = f.toNat ∧ fieldNat b 7 1 = if valid then 1 else 0 := by
  simp [Reply.bytes, OkBody]

theorem Reply.bytes_trim (t : BitVec 8) :
    OkBody (Reply.trim t).bytes 2 ∧ fieldNat (Reply.trim t).bytes 1 1 = t.toNat := by
  simp [Reply.bytes, OkBody]

theorem Reply.bytes_time (t : TimeReport) :
    let b := (Reply.time t).bytes
    OkBody b 13 ∧ fieldNat b 1 4 = t.seconds.toNat ∧ fieldNat b 5 2 = t.fraction.toNat
      ∧ FlagsAt b 7 [t.timeValid, t.backupLow, t.lastLoss.isSome] ∧ fieldNat b 8 1 = t.trim.toNat
      ∧ fieldNat b 9 4 = (match t.lastLoss with | some s => s.toNat | none => 0) := by
  refine ⟨?_, ?_, ?_, flagsAt_of_flagByte ?_, ?_, ?_⟩
  · simp [Reply.bytes, OkBody]
  · simp [Reply.bytes]
  · simp [Reply.bytes]
  · simp [Reply.bytes, flagByte, BitVec.or_assoc]
  · simp [Reply.bytes]
  · cases hl : t.lastLoss <;> simp [Reply.bytes, hl]

/-- Settles O19: the codes, and the body of each answer field by field. -/
theorem answerBodiesLaidOut : Obligations.AnswerBodiesLaidOut := by
  refine ⟨fun _ _ => Reply.bytes_code_of_mem, Reply.bytes_opened, Reply.bytes_verdict, Reply.bytes_record,
    TransitRecord.bytes_fields, Reply.bytes_poll, Reply.bytes_status, Reply.bytes_lane, Reply.bytes_config, fun st n h => ?_,
    Reply.bytes_route, Reply.bytes_cleared, Reply.bytes_passage_none, Reply.bytes_passage_some, Reply.bytes_timeSet,
    Reply.bytes_trim, Reply.bytes_time⟩
  obtain rfl := SlotState.toNat_byte_of_mem h
  exact ⟨Reply.bytes_loaded st, Reply.bytes_withdrawn st, Reply.bytes_slot_empty st, Reply.bytes_slot st⟩

end Sys2Proof.Machine
end

section
/-! Proofs for one step of the module: the command at the front, or an idle block. -/

namespace Sys2Proof.Machine

theorem step_front (c : Instr) (rest : List Instr) (s : State) :
    step { s with pending := c :: rest } = exec c { s with pending := rest } := rfl

/-- The model's reading of an empty queue (log entry 12). -/
theorem step_idle {s : State} (h : s.pending = []) : step s = .next s := by
  rw [step, h]

/-- Settles O1: the two equations of a step, by what stands in the queue. -/
theorem stepExecutesFrontCommand : Obligations.StepExecutesFrontCommand :=
  ⟨step_front, fun _ => step_idle⟩

end Sys2Proof.Machine
end
